-- ==== Sys2Proof/Word.lean ====
section
/-! DEFINITION. The word types of the part: bytes and single levels. -/

namespace Sys2Proof

/-- A byte: a room-line character, a host frame byte, a phrase store byte (12). -/
abbrev Byte := BitVec 8

/-- The level of a pin or of a panel line (09 R153, 11 R180). -/
inductive Level where
  | low
  | high
deriving DecidableEq, Repr

end Sys2Proof
end

