-- ==== Sys2Proof/Syntax.lean ====
section
/-! DEFINITION. The commands of the part: one constructor per row of spec/opcode_table.json, in the table's
order, with the operands that the outside world supplies with the event. -/

namespace Sys2Proof

/-- How a fault of a frame in reception becomes known (03 R49). -/
inductive RxEnd where
  /-- the last character read makes the fault known -/
  | character
  /-- a stop bit read dominant (framing error) -/
  | framing
  /-- the eleventh recessive bit time inside the frame -/
  | gap
deriving DecidableEq, Repr

/-- A bit boundary of the room line (03 R46, R53). -/
structure Boundary where
  /-- the idle count at it -/
  idle : Nat
  /-- the line goes from recessive to dominant at it, as another station's start edge makes it -/
  edge : Bool
deriving DecidableEq, Repr

/-- What WAKE takes as the wake event (11 R187). -/
inductive WakeEvent where
  /-- the host select falls with the WAKE pin at this level -/
  | hostSelect (pin : Level)
  /-- the door edge or presence arrival that the panel monitor reported -/
  | panelReport
deriving DecidableEq, Repr

/-- The commands. A station is 0 to 31, a ticket 1 to 65535, a set of panel levels has bit k for PLk. -/
inductive Instr where
  /-- COLD_RESET: power-on or the RESET pin, with the straps STN and XSEL (11 R177, R178) -/
  | coldReset (stn : BitVec 5) (xsel : BitVec 2)
  /-- DIRECTORY_SCAN (06 R108) -/
  | directoryScan
  /-- DIRECTORY_BAD: the completed directory read is judged (06 R109) -/
  | directoryBad
  /-- FLASH_GRANT (06 R106) -/
  | flashGrant
  /-- FLASH_READ_DONE (06 R105) -/
  | flashReadDone
  /-- WRITE_TRANSACTION: the whole bytes clocked in, lead byte first, at the select's rise (10 R166) -/
  | writeTransaction (bytes : List Byte)
  /-- READ_TRANSACTION: the number of whole bytes clocked after the lead byte 0xA2 (10 R167) -/
  | readTransaction (clocked : Nat)
  /-- SETUP: the held request executes (11 R181) -/
  | setup
  /-- POST: the held request executes (01 R11) -/
  | post
  /-- WITHDRAW: the held request executes (01 R22) -/
  | withdraw
  /-- MACHINE: the held request executes (10 R171) -/
  | machine
  /-- BASEPAGE: the held request executes (10 R170) -/
  | basepage
  /-- EVENTS: the held request executes (10 R175) -/
  | events
  /-- STATUS: the held request executes (10 R173) -/
  | status
  /-- ROSTER: the held request executes (05 R102) -/
  | roster
  /-- REST_STANDBY: the held request executes (10 R172) -/
  | restStandby
  /-- REST_DORMANT: the held request executes (10 R172) -/
  | restDormant
  /-- REST_ACTIVE: the held request executes (10 R172) -/
  | restActive
  /-- SESSION_END: the held request executes (09 R163) -/
  | sessionEnd
  /-- FRAME_START: a bit boundary, at which a frame of the own may start (03 R53) -/
  | frameStart (boundary : Boundary)
  /-- LOSS: the line's first two characters, which beat the own frame's (03 R54) -/
  | loss (first second : Byte)
  /-- TRANSMIT_FAILURE (03 R56) -/
  | transmitFailure
  /-- FRAME_TRANSMITTED (03 R58) -/
  | frameTransmitted
  /-- FRAME_RECEIVED: the characters of the frame whose check character has been read (03 R50) -/
  | frameReceived (chars : List Byte)
  /-- LINE_STUCK (03 R61) -/
  | lineStuck
  /-- DUPLICATE_TIMER_EXPIRY (03 R51) -/
  | duplicateTimerExpiry
  /-- CLAIM_AGE_EXPIRY of the station's Claims Heard record (04 R67) -/
  | claimAgeExpiry (station : Nat)
  /-- HOLD_TIMER_EXPIRY of the station's Holders record (04 R67) -/
  | holdTimerExpiry (station : Nat)
  /-- SETTLE_COMPLETE (04 R74) -/
  | settleComplete
  /-- WINDOW_EXPIRY (04 R77) -/
  | windowExpiry
  /-- RENEWAL_EXPIRY (04 R80) -/
  | renewalExpiry
  /-- TICK_1S (02 R27) -/
  | tick1s
  /-- CADENCE_EXPIRY of the entry with the ticket (02 R35) -/
  | cadenceExpiry (ticket : Nat)
  /-- EXPIRED: the expiry timer of the entry with the ticket (01 R21) -/
  | expired (ticket : Nat)
  /-- SAMPLE_PERIOD with the signed ambient ADC sample (07 R124, R125) -/
  | samplePeriod (adc : BitVec 8)
  /-- LEAD_EXPIRY (06 R111) -/
  | leadExpiry
  /-- ITEM_END: a phrase item finishes its last sample (06 R113) -/
  | itemEnd
  /-- PATTERN_END (07 R134) -/
  | patternEnd
  /-- GAP_EXPIRY (06 R113) -/
  | gapExpiry
  /-- PAUSE_EXPIRY (06 R113) -/
  | pauseExpiry
  /-- TAIL_EXPIRY (06 R120) -/
  | tailExpiry
  /-- FADE_EXPIRY (06 R119) -/
  | fadeExpiry
  /-- ENABLE_DROP (06 R120) -/
  | enableDrop
  /-- AMBIENT_WINDOW_END (07 R127) -/
  | ambientWindowEnd
  /-- COMPOSE_END (08 R142) -/
  | composeEnd
  /-- FRAME_BOUNDARY (08 R138) -/
  | frameBoundary
  /-- PANEL_SAMPLE with the levels of PL0 to PL7, a set bit for HIGH (09 R154) -/
  | panelSample (levels : BitVec 8)
  /-- PRESENCE_HOLD_EXPIRY (09 R161) -/
  | presenceHoldExpiry
  /-- SESSION_TIMEOUT (09 R162) -/
  | sessionTimeout
  /-- BEACON_TIMER_EXPIRY (05 R95) -/
  | beaconTimerExpiry
  /-- ROSTER_AGE_EXPIRY of the station's record (05 R93) -/
  | rosterAgeExpiry (station : Nat)
  /-- IDLE_TIMER_EXPIRY (11 R182) -/
  | idleTimerExpiry
  /-- SETTLING_LIMIT (11 R185) -/
  | settlingLimit
  /-- DORMANT_ENTRY (11 R186) -/
  | dormantEntry
  /-- WAKE by an event (11 R187) -/
  | wake (event : WakeEvent)
  /-- WAKING_END with the first panel sample (11 R187, 09 R164) -/
  | wakingEnd (levels : BitVec 8)
  /-- IDLE_GAP: the idle count reaches 11 (03 R46) -/
  | idleGap
  /-- RECEIVE_FAULT: the characters read so far and how the fault is known (03 R49) -/
  | receiveFault (chars : List Byte) (ending : RxEnd)
  /-- SETTLE_TICK: a 1 ms tick in DEFERRING (04 R73) -/
  | settleTick
deriving DecidableEq, Repr

end Sys2Proof
end

