-- ==== Sys2Proof/Config.lean ====
section
/-! DEFINITION. The constants the manual fixes for every FG-210. The part leaves no value open to an
implementation, so there is no free value here; what an unlisted byte of the phrase store reads as is chosen
in log entry 5. -/

namespace Sys2Proof.Config

/-- Entries the agenda holds at most (01 R11). -/
abbrev agendaSize : Nat := 16

/-- Records the event queue holds at most (10 R174). -/
abbrev queueSize : Nat := 16

/-- The overflow count stops here (10 R174). -/
abbrev overflowMax : Nat := 255

/-- Records one EVENTS response carries at most (10 R175). -/
abbrev eventsPerResponse : Nat := 8

/-- Failures of one slot at which its frame is abandoned (03 R59). -/
abbrev failureLimit : Nat := 8

/-- Recessive bit times of the idle gap (03 R46). -/
abbrev idleGap : Nat := 11

/-- The idle count saturates here (03 R46). -/
abbrev idleCountMax : Nat := 63

/-- The line-stuck timer reports here, in ms (03 R61). -/
abbrev stuckLimit : Nat := 1000

/-- The renewal timer's period in ms (04 R79). -/
abbrev renewalPeriod : Nat := 10000

/-- The settling limit in ms (11 R185). -/
abbrev settlingLimit : Nat := 2000

/-- The wake settle in ms of the low-speed oscillator (11 R187). -/
abbrev wakeSettle : Nat := 5

/-- The duplicate-report timer's period in s (03 R51). -/
abbrev duplicatePeriod : Nat := 10

/-- The session timeout in s (09 R162). -/
abbrev sessionTimeout : Nat := 120

/-- Sample periods of 1/8,000 s in one millisecond (06 R111). -/
abbrev samplesPerMs : Nat := 8

/-- Lead and tail, 10 ms, in sample periods (06 R111, R113). -/
abbrev leadSamples : Nat := 80

/-- The inter-token gap, 80 ms, in sample periods (06 R113). -/
abbrev gapSamples : Nat := 640

/-- The fade, 20 ms, in sample periods (06 R119). -/
abbrev fadeSamples : Nat := 160

/-- Samples of an ambient window (07 R125). -/
abbrev windowSamples : Nat := 4000

/-- The DAC centre code (07 R124). -/
abbrev dacCentre : Nat := 2048

/-- Frames of one blink phase (08 R137). -/
abbrev blinkFrames : Nat := 42

/-- What a byte of the phrase store that nothing lists reads as: erased flash, and no valid mark, as 06 R105
requires of a port with no flash fitted. DESIGN CHOICE (log 5). -/
abbrev unlistedByte : Byte := 0xFF

end Sys2Proof.Config
end

