-- ==== Sys2Proof/Machine/State.lean ====
section
/-! DEFINITION. The state of the part, block by block as 00 lists them, and its value right after a cold
reset. Everything is plain data. -/

namespace Sys2Proof.Machine

/-! ### Names of the machine room -/

/-- Machine kind (10 R171). -/
inductive MachineKind where
  | washer
  | dryer
  | combo
deriving DecidableEq, Repr

/-- Availability of a machine (05 5.1). -/
inductive Availability where
  | free
  | running
  | finished
  | outOfService
deriving DecidableEq, Repr

/-- The machine record (10 R171). -/
structure MachineRecord where
  kind : MachineKind
  availability : Availability
  /-- 0 to 254, 255 for unknown -/
  minutes : Nat
  progress : Nat
deriving DecidableEq, Repr

/-! ### Settings (11 R180) -/

/-- The role of a panel line (09 R153). -/
inductive Role where
  | unused
  | repeatKey
  | language
  | acknowledge
  | keyOther
  | door
  | presence
deriving DecidableEq, Repr

/-- A palette entry (08 R137). -/
structure PaletteEntry where
  level : Nat
  blink : Bool
deriving DecidableEq, Repr

/-- One enable per event kind (10 R176). -/
structure Attention where
  retired : Bool
  panel : Bool
  line : Bool
  store : Bool
  power : Bool
deriving DecidableEq, Repr

/-- The wake source set (11 R187). -/
structure WakeSources where
  host : Bool
  door : Bool
  presence : Bool
deriving DecidableEq, Repr

/-- The configuration, but for the machine kind, which the machine record holds (11 R180). -/
structure Settings where
  zone : Nat
  hearMask : BitVec 4
  /-- B in s -/
  beaconPeriod : Nat
  /-- W in steps of 50 ms -/
  window : Nat
  /-- Q in s -/
  quietGap : Nat
  /-- V -/
  baseLevel : Nat
  aref : Nat
  slope : Nat
  gainFloor : Nat
  defaultLanguage : Nat
  palette : List PaletteEntry
  roles : List Role
  /-- bit k set: PLk rests HIGH -/
  restLevels : BitVec 8
  /-- s -/
  presenceHold : Nat
  /-- s -/
  idleTime : Nat
  attention : Attention
  wakeSources : WakeSources
  qualifier : Level
deriving DecidableEq, Repr

/-! ### Entries of the agenda (01 1.1, 1.2) -/

/-- The class of an entry (02 2.1). -/
inductive PromptClass where
  | safety
  | action
  /-- END -/
  | ending
  | step
  | hint
  | idle
deriving DecidableEq, Repr

/-- The kind a REFER token names (05 R98). -/
inductive ReferKind where
  | washer
  | dryer
deriving DecidableEq, Repr

/-- A token (01 1.1). -/
inductive Token where
  | phrase (number : Nat)
  | number (value : Nat)
  | minutes
  | refer (kind : ReferKind)
  | pause (units : Nat)
  | tone (pattern : Nat)
deriving DecidableEq, Repr

/-- The panel condition that ends an entry (01 1.1). -/
inductive RetireOn where
  | never
  | doorOpens
  | doorCloses
  | ackKey
deriving DecidableEq, Repr

/-- The posted fields, as normalised by 01 R1. -/
structure Post where
  topic : Nat
  cls : PromptClass
  tokens : List Token
  /-- 255 for none -/
  page : Nat
  /-- 0 for none -/
  tone : Nat
  interval : Nat
  /-- none for unlimited -/
  count : Option Nat
  expiry : Nat
  retireOn : RetireOn
deriving DecidableEq, Repr

/-- The outcome of a retirement (10 R174). -/
inductive Retirement where
  | spoken
  | satisfied
  | acknowledged
  | withdrawn
  | replaced
  | expired
  | displaced
  | rested
deriving DecidableEq, Repr

/-- The state of an entry (01 1.4). -/
inductive EntryState where
  | waiting
  | ready
  | bidding
  | playing
deriving DecidableEq, Repr

/-- The play kind (01 R8). -/
inductive PlayKind where
  | counted
  | pullIn
  | replay
deriving DecidableEq, Repr

/-- The end request (01 R9). -/
inductive EndRequest where
  | none
  | interrupt
  | retire (outcome : Retirement)
deriving DecidableEq, Repr

/-- The case of a referral resolution (05 R99). -/
inductive ReferCase where
  | free
  | soon
  | none
deriving DecidableEq, Repr

/-- A referral resolution or binding (05 R99): a case, a station and a minutes value. -/
structure Referral where
  outcome : ReferCase
  station : Option Nat
  minutes : Nat
deriving DecidableEq, Repr

/-- When a play started: the 1 s ticks taken by then, and its place among all plays started. -/
structure PlayStart where
  seconds : Nat
  order : Nat
deriving DecidableEq, Repr

/-- A staged POST with its own ticket (01 R14). -/
structure Successor where
  post : Post
  ticket : Nat
deriving DecidableEq, Repr

/-- An entry of the agenda (01 1.2). -/
structure Entry where
  post : Post
  ticket : Nat
  state : EntryState
  wait : Nat
  owed : Nat
  ahead : Nat
  /-- none for unlimited -/
  remaining : Option Nat
  plays : Nat
  playKind : Option PlayKind
  endRequest : EndRequest
  /-- s left; none when stopped -/
  cadence : Option Nat
  /-- tenths of a second left; none when stopped -/
  expiryTimer : Option Nat
  lastPlayStart : Option PlayStart
  interrupted : Bool
  replay : Bool
  binding : Option Referral
  successor : Option Successor
  pageReported : Bool
  phraseReported : Bool
deriving DecidableEq, Repr

/-- The identity of a display owner (01 R18). -/
inductive Owner where
  | entry (ticket : Nat)
  | basePage (page : Nat)
  | builtIn
deriving DecidableEq, Repr

/-- The agenda (01). -/
structure Agenda where
  /-- in admission order -/
  entries : List Entry
  nextTicket : Nat
  basePage : Option Nat
  /-- the display owner last selected; also the compositor's owner (08 8.3) -/
  owner : Owner
deriving DecidableEq, Repr

/-! ### Floor unit (04) -/

/-- The fields of a bid, present from PENDING to HOLDING (04 4.2). -/
structure Bid where
  /-- the candidate -/
  ticket : Nat
  /-- the frozen key -/
  key : Nat
  /-- the announced length in 100 ms -/
  length : Nat
deriving DecidableEq, Repr

/-- The yield mark (04 4.2). -/
inductive YieldMark where
  | none
  | atTokenEnd
  | atOnce
deriving DecidableEq, Repr

/-- The fields present in HOLDING only (04 4.2). -/
structure Hold where
  /-- renewal timer, ms left -/
  renewal : Nat
  /-- hold start: the 1 ms ticks taken by then -/
  start : Nat
  announced : Bool
  yield : YieldMark
deriving DecidableEq, Repr

/-- The floor context (04 R66): each state with the fields it has. -/
inductive FloorCtx where
  | idle
  | deferring (settle : Nat)
  | pending (bid : Bid)
  | claiming (bid : Bid) (window : Nat)
  | announcing (bid : Bid)
  | holding (bid : Bid) (hold : Hold)
deriving DecidableEq, Repr

/-- A record of Claims Heard or Holders (04 R67). -/
structure Rival where
  station : Nat
  key : Nat
  mask : BitVec 4
  /-- age or hold timer, ms left -/
  left : Nat
deriving DecidableEq, Repr

/-- The floor unit. The two lists are unordered; they are kept in ascending station order. -/
structure Floor where
  ctx : FloorCtx
  claims : List Rival
  holders : List Rival
  quietAge : Nat
  isolated : Bool
deriving DecidableEq, Repr

/-! ### Room line interface (03) -/

/-- A frame of the room line, without station and check character (03 R47). -/
inductive LineFrame where
  | done
  | talk (key : Nat) (mask : BitVec 4) (length : Nat)
  | claim (key : Nat) (mask : BitVec 4)
  | beacon (kind : MachineKind) (availability : Availability) (zone minutes : Nat)
deriving DecidableEq, Repr

/-- The kind of a frame (03 R47). -/
inductive FrameKind where
  | done
  | talk
  | claim
  | beacon
deriving DecidableEq, Repr

/-- A transmit slot (03 R52). -/
structure Slot where
  frame : Option LineFrame
  next : Option LineFrame
  failures : Nat
deriving DecidableEq, Repr

/-- The three transmit slots. -/
inductive SlotName where
  | done
  | talk
  | beacon
deriving DecidableEq, Repr

/-- The receiver's state (03 R46). -/
inductive Receiver where
  | hunt
  | idle
  | frame
deriving DecidableEq, Repr

/-- The room line interface. -/
structure Line where
  receiver : Receiver
  idleCount : Nat
  chars : List Byte
  doneSlot : Slot
  talkSlot : Slot
  beaconSlot : Slot
  onLine : Option SlotName
  backoff : Bool
  abandonRun : Nat
  /-- ms that the line has been dominant; none when stopped -/
  stuckTimer : Option Nat
  stuckLatch : Bool
deriving DecidableEq, Repr

/-! ### Roster unit (05) -/

/-- A peer record (05 5.1). -/
structure PeerRecord where
  station : Nat
  kind : MachineKind
  availability : Availability
  zone : Nat
  minutes : Nat
  /-- age timer, tenths of a second left -/
  age : Nat
deriving DecidableEq, Repr

/-- The roster unit. The records are unordered; they are kept in ascending station order. -/
structure Roster where
  records : List PeerRecord
  beaconTimer : Option Nat
  duplicateTimer : Option Nat
deriving DecidableEq, Repr

/-! ### Flash port (06) -/

/-- A language slot of the directory (12 R191). -/
structure LanguageSlot where
  unitsFirst : Bool
  phrases : Nat
  table : Nat
deriving DecidableEq, Repr

/-- The directory copy (06 R109). -/
structure Directory where
  languages : Nat
  sizeCode : Nat
  slots : List LanguageSlot
  pageTable : Nat
  pages : Nat
  fontTable : Nat
deriving DecidableEq, Repr

/-- The store state; a USABLE store has its directory copy (06 R109). -/
inductive Store where
  | scanning
  | usable (directory : Directory)
  | unusable
deriving DecidableEq, Repr

/-- Who asked for a read (06 R106). -/
inductive ReadFor where
  | directory
  | lookup
  | fill
  | estimate
  | compose
deriving DecidableEq, Repr

/-- The read on the port (06 R105). -/
structure PortRead where
  purpose : ReadFor
  addr : Nat
  len : Nat
  /-- clear when the play or compose that asked for it has ended -/
  wanted : Bool
deriving DecidableEq, Repr

/-- The flash port. -/
structure Flash where
  store : Store
  port : Option PortRead
  scanWait : Option Nat
  scanData : Option (List Byte)
  /-- the record reads of a play estimate that have still to be made: address and length -/
  estimate : List (Nat × Nat)
  /-- the speech fetch buffer, 256 bytes -/
  buffer : List Byte
deriving DecidableEq, Repr

/-! ### Speech renderer (06) -/

/-- An item of a play (06 R112). -/
inductive Item where
  | tone (pattern : Nat)
  | phrase (number : Nat)
  | number (value : Nat)
  | minutes
  | refer (kind : ReferKind)
  | pause (units : Nat)
deriving DecidableEq, Repr

/-- The kind of the item that last sounded (06 6.4). -/
inductive ItemKind where
  | tone
  | speech
  | pause
deriving DecidableEq, Repr

/-- The route of a play (06 R111). -/
inductive Route where
  | floor
  | local
  | degraded
deriving DecidableEq, Repr

/-- The stop request (06 6.4). -/
inductive StopRequest where
  | none
  | cut
  | fade
deriving DecidableEq, Repr

/-- The phase of the renderer (06 6.4). -/
inductive Phase where
  | idle
  | lead
  | item
  | gap
  | tail
  | fade
deriving DecidableEq, Repr

/-- A present phrase: where its samples start and how many there are (06 R110). -/
structure Span where
  start : Nat
  count : Nat
deriving DecidableEq, Repr

/-- What the renderer knows of the next item that sounds (06 R115). -/
inductive Ahead where
  /-- a lookup from item `index` in `language` is under way; the data its reads have returned so far -/
  | looking (index language : Nat) (replies : List (List Byte))
  /-- item `index` sounds -/
  | sounds (index : Nat)
  /-- no further item sounds -/
  | exhausted
deriving DecidableEq, Repr

/-- The play context (06 6.4). -/
structure Play where
  ticket : Nat
  route : Route
  items : List Item
  index : Nat
  stop : StopRequest
  washer : Option Referral
  dryer : Option Referral
  minutes : Nat
  lastPlayed : Option ItemKind
  ahead : Ahead
  /-- the sample stream of the item looked up last -/
  stream : List Span
  /-- samples of the stream read into the buffer -/
  filled : Nat
  /-- samples of the stream played -/
  played : Nat
  /-- the DAC code a fade starts from (06 R119) -/
  fadeFrom : Nat
deriving DecidableEq, Repr

/-- How a play ended (06 R118, R120). -/
inductive PlayEnding where
  | completed
  | cut
  | faded
deriving DecidableEq, Repr

/-- The renderer's report of the end of a play, to the agenda and the floor unit (06 R120). -/
structure EndReport where
  ticket : Nat
  ending : PlayEnding
deriving DecidableEq, Repr

/-- The renderer. -/
structure Renderer where
  phase : Phase
  /-- inter-token timer, sample periods left -/
  timer : Nat
  play : Option Play
  enable : Bool
  /-- sample periods left to the drop of the enable after a fade -/
  dropTimer : Option Nat
  /-- the end report given last -/
  report : Option EndReport
deriving DecidableEq, Repr

/-! ### Level control and tone generator (07) -/

/-- The tone generator's context (07 R134). -/
structure ToneCtx where
  pattern : Nat
  segment : Nat
  sample : Nat
deriving DecidableEq, Repr

/-- Level control. -/
structure LevelControl where
  amb : Nat
  lastLevel : Nat
  count : Nat
  sum : Nat
  soundingSeen : Bool
  holderSeen : Bool
  gain : Nat
  /-- last DAC code D -/
  dac : Nat
  tone : Option ToneCtx
deriving DecidableEq, Repr

/-! ### Compositor and display port (08) -/

/-- A bit plane: pixel (x, y) is bit 128 * y + x (08 R136). -/
abbrev Plane := BitVec 4096

/-- A frame buffer of two planes (08 R136). -/
structure Picture where
  plane0 : Plane
  plane1 : Plane
deriving DecidableEq, Repr

/-- What a compose draws from (08 R140). -/
structure Snapshot where
  owner : Owner
  /-- the owner entry's topic and page -/
  topicPage : Option (Nat × Nat)
  basePage : Option Nat
  language : Nat
  minutes : Nat
  progress : Nat
  binding : Option Referral
deriving DecidableEq, Repr

/-- The compose state (08 8.3). -/
inductive Compose where
  | idle
  /-- the snapshot, and the data the compose's reads have returned so far -/
  | composing (snapshot : Snapshot) (replies : List (List Byte))
  | swapPending
deriving DecidableEq, Repr

/-- Compositor and display port. -/
structure Display where
  front : Picture
  back : Picture
  compose : Compose
  recompose : Bool
  fallback : Bool
  blinkOn : Bool
  frameCount : Nat
deriving DecidableEq, Repr

/-! ### Panel monitor (09) -/

/-- The filter of one line (09 R154). -/
structure LineFilter where
  level : Level
  count : Nat
  /-- a first sample has been taken -/
  primed : Bool
deriving DecidableEq, Repr

/-- The door state. -/
inductive Door where
  | opened
  | closed
deriving DecidableEq, Repr

/-- The presence state. -/
inductive Presence where
  | present
  | absent
deriving DecidableEq, Repr

/-- The panel monitor and the session record. -/
structure Panel where
  filters : List LineFilter
  keysAtRest : Bool
  door : Door
  presence : Presence
  /-- tenths of a second left; none when stopped -/
  holdTimer : Option Nat
  language : Nat
  /-- s counted; none when stopped -/
  sessionTimer : Option Nat
deriving DecidableEq, Repr

/-! ### Event queue (10) -/

/-- The source of a wake (11 R187). -/
inductive WakeSource where
  | host
  | door
  | presence
deriving DecidableEq, Repr

/-- An event record (10 R174). -/
inductive EventRecord where
  | retired (ticket topic : Nat) (outcome : Retirement) (plays : Nat)
  | key (line : Nat) (role : Role)
  | door (line : Nat) (state : Door)
  | presence (line : Nat) (arrived : Bool)
  | lineStuck
  | lineAbandoned (kind : FrameKind)
  | lineDuplicate
  | isolatedOn
  | isolatedOff
  | directoryBad
  | missingPhrase (topic phrase : Nat)
  | missingPage (topic page : Nat)
  | coldStart
  | woke (source : WakeSource)
  | standbyOn
  | standbyOff
deriving DecidableEq, Repr

/-- The event queue. -/
structure EventQueue where
  /-- oldest first -/
  queue : List EventRecord
  overflow : Nat
deriving DecidableEq, Repr

/-! ### Host port, timebase and rest control (10, 11) -/

/-- The host port but for the machine record. -/
structure HostPort where
  request : Option (List Byte)
  slot : Option (List Byte)
  overrun : Bool
  /-- the select of the transaction under way fell in DORMANT -/
  discard : Bool
  /-- the bytes sent on the data-out pin in the last transaction -/
  dataOut : List Byte
deriving DecidableEq, Repr

/-- The timebase (11 R177). -/
structure Timebase where
  station : Nat
  crystal : BitVec 2
  ms : Nat
  seconds : Nat
  plays : Nat
  wakeSettle : Option Nat
deriving DecidableEq, Repr

/-- The part state (11). -/
inductive PartState where
  | unset
  | active
  | standby
  | settling
  | dormant
  | waking
deriving DecidableEq, Repr

/-- Rest control (11). The wake source set and the qualifier level are settings. -/
structure RestControl where
  part : PartState
  warm : Bool
  /-- s counted; none when stopped -/
  idleTimer : Option Nat
  /-- ms left; none when stopped -/
  settlingLimit : Option Nat
  wakeReport : Option WakeSource
deriving DecidableEq, Repr

/-! ### The state -/

/-- The state of the part, and the queue of commands that wait. -/
structure State where
  timebase : Timebase
  host : HostPort
  machine : MachineRecord
  settings : Settings
  agenda : Agenda
  floor : Floor
  line : Line
  roster : Roster
  flash : Flash
  renderer : Renderer
  level : LevelControl
  display : Display
  panel : Panel
  events : EventQueue
  rest : RestControl
  /-- the phrase store's bytes: addresses rising, none listed that equals `Config.unlistedByte` -/
  phraseStore : List Host.Cell
  pending : List Instr
deriving DecidableEq, Repr

/-- Nothing in the manual stops the part: every command has a next state, so no fault exists (INVENTORY,
Faults). -/
inductive Fault where
deriving DecidableEq, Repr

/-- Refusals. -/
inductive Refusal where
  /-- Raised by an arm of Dispatch.lean whose command has no meaning yet; safe. None has it now. -/
  | notModelled (mnemonic : String)
deriving DecidableEq, Repr

namespace State

/-! ### Block updates -/

/-- The state with another timebase. -/
def setTimebase (s : State) (b : Timebase) : State := { s with timebase := b }
/-- The state with another host port. -/
def setHost (s : State) (b : HostPort) : State := { s with host := b }
/-- The state with another machine record. -/
def setMachine (s : State) (b : MachineRecord) : State := { s with machine := b }
/-- The state with other settings. -/
def setSettings (s : State) (b : Settings) : State := { s with settings := b }
/-- The state with another agenda. -/
def setAgenda (s : State) (b : Agenda) : State := { s with agenda := b }
/-- The state with another floor unit. -/
def setFloor (s : State) (b : Floor) : State := { s with floor := b }
/-- The state with another room line interface. -/
def setLine (s : State) (b : Line) : State := { s with line := b }
/-- The state with another roster unit. -/
def setRoster (s : State) (b : Roster) : State := { s with roster := b }
/-- The state with another flash port. -/
def setFlash (s : State) (b : Flash) : State := { s with flash := b }
/-- The state with another renderer. -/
def setRenderer (s : State) (b : Renderer) : State := { s with renderer := b }
/-- The state with another level control. -/
def setLevel (s : State) (b : LevelControl) : State := { s with level := b }
/-- The state with another display block. -/
def setDisplay (s : State) (b : Display) : State := { s with display := b }
/-- The state with another panel monitor. -/
def setPanel (s : State) (b : Panel) : State := { s with panel := b }
/-- The state with another event queue. -/
def setEvents (s : State) (b : EventQueue) : State := { s with events := b }
/-- The state with another rest control. -/
def setRest (s : State) (b : RestControl) : State := { s with rest := b }
/-- The state with another queue of commands. -/
def setPending (s : State) (q : List Instr) : State := { s with pending := q }

end State

/-! ### Cold reset (11 R178) -/

/-- Settings held before SETUP (11 R180, last column). -/
def Settings.initial : Settings :=
  { zone := 0, hearMask := 0xF, beaconPeriod := 3, window := 6, quietGap := 8,
    baseLevel := 40, aref := 20, slope := 2, gainFloor := 20, defaultLanguage := 0,
    palette := List.replicate 4 { level := 0, blink := false },
    roles := List.replicate 8 .unused, restLevels := 0,
    presenceHold := 10, idleTime := 120,
    attention := { retired := true, panel := true, line := true, store := true, power := true },
    wakeSources := { host := false, door := false, presence := false },
    qualifier := .low }

/-- An empty transmit slot (03 R64). -/
def Slot.empty : Slot := { frame := none, next := none, failures := 0 }

/-- The room line interface at cold reset, at DORMANT entry and at wake (03 R64). -/
def Line.initial : Line :=
  { receiver := .hunt, idleCount := 0, chars := [],
    doneSlot := Slot.empty, talkSlot := Slot.empty, beaconSlot := Slot.empty,
    onLine := none, backoff := false, abandonRun := 0, stuckTimer := none, stuckLatch := false }

/-- A picture with every pixel 0 (08 R136). -/
def Picture.blank : Picture := { plane0 := 0, plane1 := 0 }

/-- The part right after a cold reset with these straps; `buffer` and `store` are what no reset clears: the
speech buffer (06 R107) and the external phrase store. The presence hold timer is stopped (log 42). -/
def State.afterReset (station : Nat) (crystal : BitVec 2) (buffer : List Byte)
    (store : List Host.Cell) (pending : List Instr) : State :=
  { timebase := { station := station, crystal := crystal, ms := 0, seconds := 0, plays := 0,
                  wakeSettle := none },
    host := { request := none, slot := none, overrun := false, discard := false, dataOut := [] },
    machine := { kind := .washer, availability := .outOfService, minutes := 255, progress := 0 },
    settings := Settings.initial,
    agenda := { entries := [], nextTicket := 1, basePage := none, owner := .builtIn },
    floor := { ctx := .idle, claims := [], holders := [], quietAge := 0, isolated := false },
    line := Line.initial,
    roster := { records := [], beaconTimer := none, duplicateTimer := none },
    flash := { store := .scanning, port := none, scanWait := some 1, scanData := none,
               estimate := [], buffer := buffer },
    renderer := { phase := .idle, timer := 0, play := none, enable := false, dropTimer := none,
                  report := none },
    level := { amb := 0, lastLevel := 0, count := 0, sum := 0, soundingSeen := false,
               holderSeen := false, gain := 0, dac := Config.dacCentre, tone := none },
    display := { front := Picture.blank, back := Picture.blank, compose := .idle,
                 recompose := false, fallback := false, blinkOn := true, frameCount := 0 },
    panel := { filters := List.replicate 8 { level := .low, count := 0, primed := false },
               keysAtRest := true, door := .closed, presence := .present,
               holdTimer := none, language := 0, sessionTimer := none },
    events := { queue := [.coldStart], overflow := 0 },
    rest := { part := .unset, warm := false, idleTimer := none, settlingLimit := none,
              wakeReport := none },
    phraseStore := store, pending := pending }

/-- The machine right after reset. The straps (log 7) and the speech buffer's contents (log 8) are DESIGN
CHOICE: the manual gives none. -/
def State.reset : State := State.afterReset 0 0 (List.replicate 256 0) [] []

end Sys2Proof.Machine
end

