-- ==== Sys2Proof/Machine/Operands.lean ====
section
/-! DEFINITION. Reading and writing the byte layouts of 12: check codes, room-line characters, host request
bodies, host responses and event records. -/

namespace Sys2Proof.Machine

/-! ### Numbers and check codes -/

/-- A number as a byte. -/
def byteOf (n : Nat) : Byte := BitVec.ofNat 8 n

/-- Two bytes, most significant first (12 R189). -/
def bytes2 (n : Nat) : List Byte := [byteOf (n / 256), byteOf n]

/-- The number that bytes spell, most significant first (12 R189, R191). -/
def numberOf (bytes : List Byte) : Nat := bytes.foldl (fun n b => 256 * n + b.toNat) 0

/-- Eight applications of a register's shift, one for each bit of a byte. -/
def eightTimes {α : Type} (f : α → α) (r : α) : α := f (f (f (f (f (f (f (f r)))))))

/-- One shift of the CRC-8 register (03 R48). -/
def crc8Shift (r : Byte) : Byte := if r.msb then (r <<< 1) ^^^ 0x07 else r <<< 1

/-- The CRC-8 register after one more character (03 R48). -/
def crc8Byte (r b : Byte) : Byte := eightTimes crc8Shift (r ^^^ b)

/-- The CRC-8 of a run of characters (03 R48): polynomial x⁸ + x² + x + 1, initial value 0xFF. -/
def crc8 (bytes : List Byte) : Byte := bytes.foldl crc8Byte 0xFF

/-- One shift of the CRC-16 register (06 R109). -/
def crc16Shift (r : BitVec 16) : BitVec 16 := if r.msb then (r <<< 1) ^^^ 0x1021 else r <<< 1

/-- The CRC-16 register after one more byte (06 R109). -/
def crc16Byte (r : BitVec 16) (b : Byte) : BitVec 16 :=
  eightTimes crc16Shift (r ^^^ ((b.setWidth 16) <<< 8))

/-- The CRC-16 of the directory's fields (06 R109): generator 0x1021, initial value 0xFFFF. -/
def crc16 (bytes : List Byte) : BitVec 16 := bytes.foldl crc16Byte 0xFFFF

/-! ### Codes of enumerated sets (12) -/

/-- Machine kind codes (12 R189). -/
def kindOfCode : Nat → Option MachineKind
  | 0 => some .washer
  | 1 => some .dryer
  | 2 => some .combo
  | _ => none

/-- The code of a machine kind. -/
def kindCode : MachineKind → Nat
  | .washer => 0
  | .dryer => 1
  | .combo => 2

/-- Availability codes (12 R189). -/
def availabilityOfCode : Nat → Option Availability
  | 0 => some .free
  | 1 => some .running
  | 2 => some .finished
  | 3 => some .outOfService
  | _ => none

/-- The code of an availability. -/
def availabilityCode : Availability → Nat
  | .free => 0
  | .running => 1
  | .finished => 2
  | .outOfService => 3

/-- Class codes (12 R189). -/
def classOfCode : Nat → Option PromptClass
  | 0 => some .safety
  | 1 => some .action
  | 2 => some .ending
  | 3 => some .step
  | 4 => some .hint
  | 5 => some .idle
  | _ => none

/-- The code of a class. -/
def classCode : PromptClass → Nat
  | .safety => 0
  | .action => 1
  | .ending => 2
  | .step => 3
  | .hint => 4
  | .idle => 5

/-- Role codes (12 R189). -/
def roleOfCode : Nat → Option Role
  | 0 => some .unused
  | 1 => some .repeatKey
  | 2 => some .language
  | 3 => some .acknowledge
  | 4 => some .keyOther
  | 5 => some .door
  | 6 => some .presence
  | _ => none

/-- The code of a role. -/
def roleCode : Role → Nat
  | .unused => 0
  | .repeatKey => 1
  | .language => 2
  | .acknowledge => 3
  | .keyOther => 4
  | .door => 5
  | .presence => 6

/-- Retire-on codes (12 R189). -/
def retireOnOfCode : Nat → Option RetireOn
  | 0 => some .never
  | 1 => some .doorOpens
  | 2 => some .doorCloses
  | 3 => some .ackKey
  | _ => none

/-- Outcome codes of a RETIRED record (12 R190). -/
def retirementCode : Retirement → Nat
  | .spoken => 0
  | .satisfied => 1
  | .acknowledged => 2
  | .withdrawn => 3
  | .replaced => 4
  | .expired => 5
  | .displaced => 6
  | .rested => 7

/-- Entry state codes (12 R190). -/
def entryStateCode : EntryState → Nat
  | .waiting => 0
  | .ready => 1
  | .bidding => 2
  | .playing => 3

/-- Frame kind codes (03 R47). -/
def frameKindCode : FrameKind → Nat
  | .done => 0
  | .talk => 1
  | .claim => 2
  | .beacon => 3

/-- Wake source codes (12 R190). -/
def wakeSourceCode : WakeSource → Nat
  | .host => 0
  | .door => 1
  | .presence => 2

/-- Part state codes of STATUS (12 R190); STATUS is executed in the first three states only (10 R173). -/
def partCode : PartState → Nat
  | .unset => 0
  | .active => 1
  | .standby => 2
  | .settling => 3
  | .dormant => 4
  | .waking => 5

/-- Store state codes (12 R190). -/
def storeCode : Store → Nat
  | .scanning => 0
  | .usable _ => 1
  | .unusable => 2

/-- Floor state codes (12 R190). -/
def floorCode : FloorCtx → Nat
  | .idle => 0
  | .deferring _ => 1
  | .pending _ => 2
  | .claiming _ _ => 3
  | .announcing _ => 4
  | .holding _ _ => 5

/-! ### Room-line frames (03 R47, 12 R192) -/

/-- The kind of a frame. -/
def LineFrame.kind : LineFrame → FrameKind
  | .done => .done
  | .talk _ _ _ => .talk
  | .claim _ _ => .claim
  | .beacon _ _ _ _ => .beacon

/-- The status character of a BEACON (12 R192). -/
def beaconStatus (kind : MachineKind) (availability : Availability) (zone : Nat) : Nat :=
  64 * kindCode kind + 16 * availabilityCode availability + 4 * zone

/-- The characters of a frame before its check character (03 R47, R32). -/
def LineFrame.fields (station : Nat) : LineFrame → List Byte
  | .done => [0x00, byteOf station]
  | .talk key mask length =>
      [byteOf (255 - key), byteOf (32 + station), mask.setWidth 8, byteOf length]
  | .claim key mask => [byteOf (255 - key), byteOf (64 + station), mask.setWidth 8]
  | .beacon kind availability zone minutes =>
      [0xF7, byteOf (96 + station), byteOf (beaconStatus kind availability zone), byteOf minutes]

/-- All characters of a frame. -/
def LineFrame.chars (station : Nat) (f : LineFrame) : List Byte :=
  f.fields station ++ [crc8 (f.fields station)]

/-- The number the first two characters form, which arbitration compares (03 R55). -/
def LineFrame.precedence (station : Nat) (f : LineFrame) : Nat := numberOf ((f.fields station).take 2)

/-- A frame as a receiver reads it, with its sender. -/
structure Heard where
  station : Nat
  frame : LineFrame
deriving DecidableEq, Repr

/-- The characters a kind code has (03 R47); 0 for an unused code. -/
def expectedChars (code : Nat) : Nat :=
  match code with
  | 0 => 3
  | 1 => 5
  | 2 => 4
  | 3 => 5
  | _ => 0

/-- The kind code of a frame whose second character is `c` (03 R47). -/
def kindOfChar (c : Byte) : Nat := c.toNat / 32

/-- The last character of `chars` makes a fault known, by its content (03 R49). -/
def contentFault (chars : List Byte) : Bool :=
  match chars with
  | [c1, c2] =>
      decide (4 ≤ kindOfChar c2) || (kindOfChar c2 == 0 && c1 != 0x00) ||
        (kindOfChar c2 == 3 && c1 != 0xF7)
  | [_, c2, c3] =>
      (kindOfChar c2 == 3 && decide (c3.toNat / 64 = 3)) ||
        (kindOfChar c2 == 0 && crc8 (chars.take 2) != c3)
  | [_, c2, _, c4] =>
      (kindOfChar c2 == 1 && c4 == 0) || (kindOfChar c2 == 2 && crc8 (chars.take 3) != c4)
  | [_, c2, _, _, c5] =>
      (kindOfChar c2 == 1 || kindOfChar c2 == 3) && crc8 (chars.take 4) != c5
  | _ => false

/-- A fault of 03 R49 became known at one of the characters read. -/
def anyContentFault (chars : List Byte) : Bool :=
  (List.range (chars.length + 1)).any fun n => contentFault (chars.take n)

/-- The fields of a frame whose characters show no fault. -/
def readFields (chars : List Byte) : Option LineFrame :=
  match chars with
  | [_, _, _] => some .done
  | [c1, _, c3, _] => some (.claim (255 - c1.toNat) (c3.setWidth 4))
  | [c1, c2, c3, c4, _] =>
      if kindOfChar c2 = 1 then some (.talk (255 - c1.toNat) (c3.setWidth 4) c4.toNat)
      else
        match kindOfCode (c3.toNat / 64), availabilityOfCode (c3.toNat / 16 % 4) with
        | some kind, some availability =>
            some (.beacon kind availability (c3.toNat / 4 % 4) c4.toNat)
        | _, _ => none
  | _ => none

/-- The frame that `chars` make, if it is taken (03 R50): the count of characters its kind requires, and no
fault of 03 R49. -/
def takeFrame (chars : List Byte) : Option Heard :=
  match chars with
  | _ :: c2 :: _ =>
      if chars.length = expectedChars (kindOfChar c2) ∧ anyContentFault chars = false then
        (readFields chars).map fun f => { station := c2.toNat % 32, frame := f }
      else none
  | _ => none

/-! ### Host requests (12 R189) -/

/-- The rows of the table that execute a request. -/
inductive RequestRow where
  | setup
  | post
  | withdraw
  | machine
  | basepage
  | events
  | status
  | roster
  | restStandby
  | restDormant
  | restActive
  | sessionEnd
deriving DecidableEq, Repr

/-- The row a request code names; REST's mode chooses among its three rows (12 R189). -/
def rowOfCode (code mode : Nat) : Option RequestRow :=
  match code with
  | 1 => some .setup
  | 2 => some .post
  | 3 => some .withdraw
  | 4 => some .machine
  | 5 => some .basepage
  | 6 => some .events
  | 7 => some .status
  | 8 => some .roster
  | 9 => match mode with
         | 0 => some .restActive
         | 1 => some .restStandby
         | 2 => some .restDormant
         | _ => none
  | 10 => some .sessionEnd
  | _ => none

/-- The row that executes the bytes in the request buffer: length byte, code, and for REST the mode. None for
bytes that name no row; WRITE_TRANSACTION answers those itself (log 10). -/
def requestRow (buffer : List Byte) : Option RequestRow :=
  match buffer with
  | _ :: code :: rest => rowOfCode code.toNat ((rest.headD 0xFF).toNat)
  | _ => none

/-- The length a request code must have, from its body (12 R189); 0 for a code that names no request. -/
def lengthOfCode (code : Nat) (body : List Byte) : Nat :=
  match code with
  | 1 => 32
  | 2 => 13 + 2 * (body.getD 10 0).toNat
  | 3 => 3
  | 4 => 5
  | 5 => 3
  | 6 => 2
  | 7 => 2
  | 8 => 2
  | 9 => 3
  | 10 => 2
  | _ => 0

/-- The first step of 10 R168: the request code and body of the frame in the buffer, or none for a MALFORMED
frame. -/
def readRequest (buffer : List Byte) : Option (Nat × List Byte) :=
  match buffer with
  | [] => none
  | len :: rest =>
      let n := len.toNat
      let covered := rest.take (n - 1)
      match covered with
      | [] => none
      | code :: body =>
          if 2 ≤ n ∧ n ≤ 63 ∧ n ≤ rest.length ∧ crc8 (len :: covered) = rest.getD (n - 1) 0 ∧
              n = lengthOfCode code.toNat body then
            some (code.toNat, body)
          else none

/-- A token of two bytes, checked and normalised (01 R1, 12 R189). -/
def readToken (hi lo : Byte) : Option Token :=
  let arg := hi.toNat % 16 * 256 + lo.toNat
  match hi.toNat / 16 with
  | 1 => if arg ≤ 1023 then some (.phrase arg) else none
  | 2 => some (.number (min arg 99))
  | 3 => some .minutes
  | 4 => match arg with
         | 1 => some (.refer .washer)
         | 2 => some (.refer .dryer)
         | _ => none
  | 5 => some (.pause (max 1 (min arg 20)))
  | 6 => if 1 ≤ arg ∧ arg ≤ 8 then some (.tone arg) else none
  | _ => none

/-- The tokens of a POST body. -/
def readTokens : List Byte → Option (List Token)
  | [] => some []
  | [_] => none
  | hi :: lo :: rest =>
      match readToken hi lo, readTokens rest with
      | some t, some ts => some (t :: ts)
      | _, _ => none

/-- The stored interval (01 R1). -/
def normalInterval (i : Nat) : Nat := if i = 0 then 0 else max 5 (min i 600)

/-- The stored count, none for unlimited (01 R1). -/
def normalCount (interval count : Nat) : Option Nat :=
  if interval = 0 then some 1 else if count = 0 then none else some count

/-- The POST fields of a body, or none for MALFORMED (01 R1, 12 R189). -/
def readPost (body : List Byte) : Option Post :=
  let b := fun k => (body.getD k 0).toNat
  if b 0 = 0 ∨ 12 < b 10 then none
  else
    match classOfCode (b 1), retireOnOfCode (b 9), readTokens (body.drop 11) with
    | some cls, some retireOn, some tokens =>
        let interval := normalInterval (256 * b 4 + b 5)
        some { topic := b 0, cls := cls, tokens := tokens, page := b 2,
               tone := if 8 < b 3 then 0 else b 3,
               interval := interval, count := normalCount interval (b 6 % 16),
               expiry := min (256 * b 7 + b 8) 3600, retireOn := retireOn }
    | _, _, _ => none

/-- A number brought into a range (00, "clamped"). -/
def clamp (lo hi n : Nat) : Nat := max lo (min n hi)

/-- The first line of a role keeps it; later ones are UNUSED (09 R153). -/
def keepFirst (role : Role) : List Role → List Role
  | [] => []
  | r :: rs =>
      if r = role then r :: rs.map (fun q => if q = role then .unused else q)
      else r :: keepFirst role rs

/-- Role codes of eight lines, or none for a code outside the set. -/
def readRoles : List Byte → Option (List Role)
  | [] => some []
  | b :: bs =>
      match roleOfCode b.toNat, readRoles bs with
      | some r, some rs => some (r :: rs)
      | _, _ => none

/-- A palette byte (12 R189). -/
def readPaletteEntry (b : Byte) : PaletteEntry := { level := b.toNat % 16, blink := b.getLsbD 7 }

/-- The hear mask with the own zone (11 R180). -/
def withOwnZone (mask : BitVec 4) (zone : Nat) : BitVec 4 := mask ||| (1#4 <<< zone)

/-- The settings and machine kind of a SETUP body, or none for MALFORMED (11 R180, 12 R189). -/
def readSetup (body : List Byte) : Option (Settings × MachineKind) :=
  let b := fun k => body.getD k 0
  let n := fun k => (b k).toNat
  let level := fun k => if n k = 0 then Level.low else Level.high
  match kindOfCode (n 2), readRoles ((body.drop 15).take 8) with
  | some kind, some roles =>
      if 8 ≤ n 28 ∨ 2 ≤ n 29 then none
      else
        let zone := min (n 0) 3
        some
          ({ zone := zone, hearMask := withOwnZone ((b 1).setWidth 4) zone,
             beaconPeriod := clamp 1 10 (n 3), window := clamp 2 16 (n 4),
             quietGap := clamp 2 30 (n 5), baseLevel := min (n 6) 63, aref := min (n 7) 47,
             slope := min (n 8) 4, gainFloor := min (n 9) 63, defaultLanguage := min (n 10) 3,
             palette := ((body.drop 11).take 4).map readPaletteEntry,
             roles := keepFirst .presence (keepFirst .door roles),
             restLevels := b 23, presenceHold := clamp 2 60 (n 24),
             idleTime := clamp 30 900 (256 * n 25 + n 26),
             attention := { retired := (b 27).getLsbD 0, panel := (b 27).getLsbD 1,
                            line := (b 27).getLsbD 2, store := (b 27).getLsbD 3,
                            power := (b 27).getLsbD 4 },
             wakeSources := { host := (b 28).getLsbD 0, door := (b 28).getLsbD 1,
                              presence := (b 28).getLsbD 2 },
             qualifier := level 29 }, kind)
  | _, _ => none

/-! ### Host responses (12 R190) -/

/-- The result codes (10 R168). -/
inductive ResultCode where
  | ok
  | admitted
  | staged
  | notSet
  | alreadySet
  | malformed
  | agendaFull
  | unknownTopic
  | agendaBusy
deriving DecidableEq, Repr

/-- The number of a result code (12 R190). -/
def ResultCode.code : ResultCode → Nat
  | .ok => 0
  | .admitted => 1
  | .staged => 2
  | .notSet => 3
  | .alreadySet => 4
  | .malformed => 5
  | .agendaFull => 6
  | .unknownTopic => 7
  | .agendaBusy => 8

/-- The bytes of a response that its check byte covers: length, result with the overrun flag in bit 7, body. -/
def responseFields (result : ResultCode) (overrun : Bool) (body : List Byte) : List Byte :=
  byteOf (body.length + 2) :: byteOf (result.code + if overrun then 128 else 0) :: body

/-- A response frame (12 R190). -/
def responseFrame (result : ResultCode) (overrun : Bool) (body : List Byte) : List Byte :=
  responseFields result overrun body ++ [crc8 (responseFields result overrun body)]

/-- The number of a door state in a record (12 R190). -/
def doorCode : Door → Nat
  | .closed => 0
  | .opened => 1

/-- An event record as six bytes (12 R190). -/
def EventRecord.bytes : EventRecord → List Byte
  | .retired ticket topic outcome plays =>
      [1, byteOf (retirementCode outcome)] ++ bytes2 ticket ++ [byteOf topic, byteOf plays]
  | .key line role => [2, byteOf line, byteOf (roleCode role), 0, 0, 0]
  | .door line state => [2, byteOf line, byteOf (roleCode .door), byteOf (doorCode state), 0, 0]
  | .presence line arrived =>
      [2, byteOf line, byteOf (roleCode .presence), byteOf arrived.toNat, 0, 0]
  | .lineStuck => [3, 0, 0, 0, 0, 0]
  | .lineAbandoned kind => [3, 1, byteOf (frameKindCode kind), 0, 0, 0]
  | .lineDuplicate => [3, 2, 0, 0, 0, 0]
  | .isolatedOn => [3, 3, 0, 0, 0, 0]
  | .isolatedOff => [3, 4, 0, 0, 0, 0]
  | .directoryBad => [4, 0, 0, 0, 0, 0]
  | .missingPhrase topic phrase => [4, 1, byteOf topic] ++ bytes2 phrase ++ [0]
  | .missingPage topic page => [4, 2, byteOf topic, byteOf page, 0, 0]
  | .coldStart => [5, 0, 0, 0, 0, 0]
  | .woke source => [5, 1, byteOf (wakeSourceCode source), 0, 0, 0]
  | .standbyOn => [5, 2, 0, 0, 0, 0]
  | .standbyOff => [5, 3, 0, 0, 0, 0]

/-- A ROSTER record of five bytes (12 R190); the age in whole seconds, rounded up, 1 to 30 (05 R102):
a record that has run out and waits for its ROSTER_AGE_EXPIRY sends 1. -/
def PeerRecord.bytes (r : PeerRecord) : List Byte :=
  [byteOf r.station, byteOf (beaconStatus r.kind r.availability r.zone), byteOf r.minutes,
    byteOf (max 1 ((r.age + 9) / 10)), 0]

/-! ### The directory (12 R191) -/

/-- The language slot whose six bytes start at `at`. -/
def readLanguageSlot (data : List Byte) (start : Nat) : LanguageSlot :=
  { unitsFirst := (data.getD start 0).getLsbD 0,
    phrases := min (numberOf ((data.drop (start + 1)).take 2)) 1024,
    table := numberOf ((data.drop (start + 3)).take 3) }

/-- The normalised directory copy of 37 directory bytes (06 R109). -/
def directoryOf (data : List Byte) : Directory :=
  { languages := (data.getD 2 0).toNat,
    sizeCode := min (data.getD 3 0).toNat 8,
    slots := [readLanguageSlot data 4, readLanguageSlot data 10, readLanguageSlot data 16,
              readLanguageSlot data 22],
    pageTable := numberOf ((data.drop 28).take 3),
    pages := (data.getD 31 0).toNat,
    fontTable := numberOf ((data.drop 32).take 3) }

/-- The store state that the directory's bytes give (06 R109). -/
def judgeDirectory (data : List Byte) : Store :=
  let languages := (data.getD 2 0).toNat
  if numberOf (data.take 2) = 0x464A ∧
      (crc16 (data.take 35)).toNat = numberOf ((data.drop 35).take 2) ∧
      1 ≤ languages ∧ languages ≤ 4 then
    .usable (directoryOf data)
  else .unusable

end Sys2Proof.Machine
end

