-- ==== Sys2Proof/Machine/Flags.lean ====
section
/-! DEFINITION. Values the part computes from its state and the flags it tests: urgency keys and orders (02),
the clear view (04), referrals (05), gain codes, levels and DAC codes (07), the panel's levels (09) and ATTN
(10). Nothing here changes the state. -/

namespace Sys2Proof.Machine

/-! ### Urgency keys (02) -/

/-- The band low of a class (02 2.1). -/
def bandLow : PromptClass → Nat
  | .safety => 192
  | .action => 144
  | .ending => 112
  | .step => 80
  | .hint => 48
  | .idle => 16

/-- The band high of a class (02 2.1). -/
def bandHigh : PromptClass → Nat
  | .safety => 255
  | .action => 191
  | .ending => 143
  | .step => 111
  | .hint => 79
  | .idle => 47

/-- The ageing rate of a class in quarter-points per second (02 2.1). -/
def ageingRate : PromptClass → Nat
  | .safety => 16
  | .action => 8
  | .ending => 4
  | .step => 2
  | .hint => 1
  | .idle => 0

/-- The urgency key (02 R28). -/
def urgencyKey (cls : PromptClass) (wait owed : Nat) (replay : Bool) : Nat :=
  if owed = 8 ∨ replay = true then bandHigh cls
  else clamp (bandLow cls) (bandHigh cls) (bandLow cls + wait * ageingRate cls / 4 + 4 * owed)

/-- The key of an entry now (02 R29). -/
def Entry.key (e : Entry) : Nat := urgencyKey e.post.cls e.wait e.owed e.replay

/-- The first entry of the urgency order (01 R17): the highest key, and among equal keys the one admitted
first. -/
def topEntry : List Entry → Option Entry
  | [] => none
  | e :: rest =>
      match topEntry rest with
      | none => some e
      | some best => if e.key < best.key then some best else some e

/-- The lowest-ordered entry (01 R16): the lowest key, and among equal keys the one admitted last. -/
def lowestEntry : List Entry → Option Entry
  | [] => none
  | e :: rest =>
      match lowestEntry rest with
      | none => some e
      | some low => if e.key < low.key then some e else some low

/-! ### Kinds of entries (01 R4) -/

/-- A speech token (01 1.1). -/
def Token.isSpeech : Token → Bool
  | .phrase _ => true
  | .number _ => true
  | .minutes => true
  | .refer _ => true
  | .pause _ => false
  | .tone _ => false

/-- A speech entry has at least one speech token. -/
def Post.isSpeech (p : Post) : Bool := p.tokens.any Token.isSpeech

/-- A silent entry has no tokens and a tone field of 0. -/
def Post.isSilent (p : Post) : Bool := p.tokens.isEmpty && p.tone == 0

/-- The store state is USABLE. -/
def Store.isUsable : Store → Bool
  | .usable _ => true
  | .scanning => false
  | .unusable => false

/-- A speech entry plays through the floor while the store is USABLE (01 R4). -/
def Entry.byFloor (store : Store) (e : Entry) : Bool := store.isUsable && e.post.isSpeech

/-- The local route of 01 R4: a tone-only entry while the store is not SCANNING, a speech entry while it is
UNUSABLE. -/
def Entry.byLocal (store : Store) (e : Entry) : Bool :=
  match store with
  | .scanning => false
  | .usable _ => !e.post.isSpeech && !e.post.isSilent
  | .unusable => !e.post.isSilent

/-! ### The agenda's choices (01) -/

/-- The entry with a ticket. -/
def Agenda.find (a : Agenda) (ticket : Nat) : Option Entry :=
  a.entries.find? fun e => e.ticket == ticket

/-- The entry with a topic. -/
def Agenda.findTopic (a : Agenda) (topic : Nat) : Option Entry :=
  a.entries.find? fun e => e.post.topic == topic

/-- The PLAYING entry, at most one (01 R5). -/
def Agenda.playing (a : Agenda) : Option Entry := a.entries.find? fun e => e.state == .playing

/-- An entry is PLAYING. -/
def Agenda.isPlaying (a : Agenda) : Bool := a.entries.any fun e => e.state == .playing

/-- Change the entry with a ticket. -/
def Agenda.modify (a : Agenda) (ticket : Nat) (f : Entry → Entry) : Agenda :=
  { a with entries := a.entries.map fun e => if e.ticket = ticket then f e else e }

/-- The READY speech entries that play through the floor. -/
def Agenda.floorEntries (a : Agenda) (store : Store) : List Entry :=
  a.entries.filter fun e => e.state == .ready && e.byFloor store

/-- The agenda's answer to the floor unit (01 R6). -/
inductive Answer where
  | noCandidate
  | playing
  | candidate (entry : Entry)
deriving DecidableEq, Repr

/-- The floor unit asks for a candidate (01 R6). -/
def Agenda.answer (a : Agenda) (store : Store) : Answer :=
  match topEntry (a.floorEntries store) with
  | none => .noCandidate
  | some e => if a.isPlaying then .playing else .candidate e

/-- The entry whose local play may start (01 R7): the first READY local-route entry, if no READY entry that
plays through the floor comes before it. -/
def Agenda.localCandidate (a : Agenda) (store : Store) : Option Entry :=
  match topEntry (a.entries.filter fun e =>
      e.state == .ready && (e.byFloor store || e.byLocal store)) with
  | none => none
  | some e => if e.byLocal store then some e else none

/-- An entry has a page when its page field is not 255 (01 R18). -/
def Entry.hasPage (e : Entry) : Bool := e.post.page != 255

/-- The display owner (01 R18). -/
def Agenda.chooseOwner (a : Agenda) : Owner :=
  match a.entries.find? fun e => e.state == .playing && e.hasPage with
  | some e => .entry e.ticket
  | none =>
      match topEntry (a.entries.filter Entry.hasPage) with
      | some e => .entry e.ticket
      | none =>
          match a.basePage with
          | some p => .basePage p
          | none => .builtIn

/-- The tickets of entries and staged successors (01 R3). -/
def Agenda.tickets (a : Agenda) : List Nat :=
  a.entries.flatMap fun e => e.ticket :: (e.successor.map (·.ticket)).toList

/-- The number after a ticket number (01 R3: after 65535 it goes to 1). -/
def ticketAfter (n : Nat) : Nat := if n ≥ 65535 then 1 else n + 1

/-- The first free ticket from `n` on, looking at most `fuel` numbers ahead. -/
def freeTicket (live : List Nat) : Nat → Nat → Nat
  | 0, n => n
  | fuel + 1, n => if live.contains n then freeTicket live fuel (ticketAfter n) else n

/-- The ticket issued next (01 R3); 33 numbers are looked at, more than the agenda and its successors hold. -/
def Agenda.issue (a : Agenda) : Nat := freeTicket a.tickets 33 a.nextTicket

/-- The presence gate of 02 R39 applies to STEP, HINT and IDLE. -/
def PromptClass.gated : PromptClass → Bool
  | .safety => false
  | .action => false
  | .ending => false
  | .step => true
  | .hint => true
  | .idle => true

/-- The presence gate is open for a class (02 R39). -/
def gateOpen (presence : Presence) (cls : PromptClass) : Bool :=
  !cls.gated || presence == .present

/-- The pull-in conditions of an entry (02 R38), with Q, the quiet age and the 1 s ticks taken so far. -/
def Entry.pullsIn (e : Entry) (presence : Presence) (quietGap quietAge seconds : Nat)
    (anyPlaying : Bool) : Bool :=
  e.owed == 0 && decide (e.ahead < 8) && e.post.interval != 0 && e.remaining != some 0 &&
    (match e.lastPlayStart with
     | none => false
     | some start => decide (e.post.interval / 2 ≤ seconds - start.seconds)) &&
    gateOpen presence e.post.cls && decide (quietGap ≤ quietAge) && !anyPlaying

/-- The eligibility conditions of a WAITING entry (02 R37). -/
def Entry.eligible (e : Entry) (presence : Presence) (quietGap quietAge seconds : Nat)
    (anyPlaying : Bool) : Bool :=
  !e.post.isSilent &&
    ((decide (1 ≤ e.owed) && gateOpen presence e.post.cls) || e.replay ||
      e.pullsIn presence quietGap quietAge seconds anyPlaying)

/-- The entry that most recently began a play (09 R157). -/
def latestPlayed : List Entry → Option Entry
  | [] => none
  | e :: rest =>
      match e.lastPlayStart, latestPlayed rest with
      | none, later => later
      | some _, none => some e
      | some start, some later =>
          match later.lastPlayStart with
          | some other => if start.order < other.order then some later else some e
          | none => some e

/-! ### The floor unit's view (04) -/

/-- The pair of a key and a station beats another (02 R30). -/
def beats (k1 s1 k2 s2 : Nat) : Bool := decide (k2 < k1) || (k1 == k2 && decide (s1 < s2))

/-- Two hear masks share a zone (04 R65). -/
def conflicts (own other : BitVec 4) : Bool := own &&& other != 0

/-- The view is clear for a key (04 R71). -/
def Floor.viewClear (f : Floor) (station key : Nat) : Bool :=
  f.holders.isEmpty && !f.claims.any fun r => beats r.key r.station key station

/-- The bid of a floor context, if it has one. -/
def FloorCtx.bid : FloorCtx → Option Bid
  | .idle => none
  | .deferring _ => none
  | .pending bid => some bid
  | .claiming bid _ => some bid
  | .announcing bid => some bid
  | .holding bid _ => some bid

/-- Remove a station's record. -/
def dropRival (station : Nat) (rs : List Rival) : List Rival :=
  rs.filter fun r => r.station != station

/-- Add or replace a station's record, in ascending station order. -/
def putRival (r : Rival) : List Rival → List Rival
  | [] => [r]
  | q :: qs =>
      if r.station < q.station then r :: q :: qs
      else if r.station = q.station then r :: qs
      else q :: putRival r qs

/-- The remaining length of a hold in 100 ms (04 R80): announced length less the whole units elapsed, not
less than 1. -/
def remainingLength (bid : Bid) (hold : Hold) (ms : Nat) : Nat :=
  max 1 (bid.length - (ms - hold.start) / 100)

/-! ### Referrals (05) -/

/-- A machine kind matches a REFER kind (05 R98). -/
def ReferKind.accepts : ReferKind → MachineKind → Bool
  | .washer, .washer => true
  | .washer, .combo => true
  | .washer, .dryer => false
  | .dryer, .dryer => true
  | .dryer, .combo => true
  | .dryer, .washer => false

/-- The record with the lowest station number. -/
def lowestStation : List PeerRecord → Option PeerRecord
  | [] => none
  | r :: rest =>
      match lowestStation rest with
      | none => some r
      | some best => if best.station < r.station then some best else some r

/-- The record with the fewest minutes, and among equal minutes the lowest station number. -/
def soonestRecord : List PeerRecord → Option PeerRecord
  | [] => none
  | r :: rest =>
      match soonestRecord rest with
      | none => some r
      | some best =>
          if best.minutes < r.minutes ∨ (best.minutes = r.minutes ∧ best.station < r.station) then
            some best
          else some r

/-- The resolution of one REFER kind (05 R99). -/
def resolveReferral (records : List PeerRecord) (zone : Nat) (kind : ReferKind) : Referral :=
  let free := records.filter fun r => kind.accepts r.kind && r.availability == .free
  let here := free.filter fun r => r.zone == zone
  match lowestStation (if here.isEmpty then free else here) with
  | some r => { outcome := .free, station := some r.station, minutes := 255 }
  | none =>
      match soonestRecord (records.filter fun r =>
          kind.accepts r.kind && r.availability == .running && r.minutes != 255) with
      | some r => { outcome := .soon, station := some r.station, minutes := r.minutes }
      | none => { outcome := .none, station := none, minutes := 255 }

/-- The kind of the first REFER token (05 R98). -/
def firstRefer : List Token → Option ReferKind
  | [] => none
  | .refer kind :: _ => some kind
  | .phrase _ :: rest => firstRefer rest
  | .number _ :: rest => firstRefer rest
  | .minutes :: rest => firstRefer rest
  | .pause _ :: rest => firstRefer rest
  | .tone _ :: rest => firstRefer rest

/-- Remove a station's record. -/
def dropPeer (station : Nat) (rs : List PeerRecord) : List PeerRecord :=
  rs.filter fun r => r.station != station

/-- Add or replace a station's record, in ascending station order (05 R92). -/
def putPeer (r : PeerRecord) : List PeerRecord → List PeerRecord
  | [] => [r]
  | q :: qs =>
      if r.station < q.station then r :: q :: qs
      else if r.station = q.station then r :: qs
      else q :: putPeer r qs

/-! ### Items and number phrases (06) -/

/-- The number phrases of a value 0 to 99 (06 R114). -/
def numberPhrases (unitsFirst : Bool) (v : Nat) : List Nat :=
  if v < 20 then [960 + v]
  else if v % 10 = 0 then [978 + v / 10]
  else if unitsFirst then [960 + v % 10, 978 + v / 10]
  else [978 + v / 10, 960 + v % 10]

/-- The phrases of a referral (05 R100). -/
def referralPhrases (unitsFirst : Bool) (r : Referral) : List Nat :=
  match r.outcome with
  | .free => 1000 :: numberPhrases unitsFirst (r.station.getD 0 + 1) ++ [1001]
  | .soon => 1002 :: numberPhrases unitsFirst (r.station.getD 0 + 1) ++
      1003 :: numberPhrases unitsFirst (min r.minutes 99) ++ [1004]
  | .none => [1005]

/-- The number phrases of a minutes value (06 R112): none for 255, 99 above 99. -/
def minutesPhrases (unitsFirst : Bool) (minutes : Nat) : List Nat :=
  if minutes = 255 then [] else numberPhrases unitsFirst (min minutes 99)

/-- The item of a token (06 R112). -/
def Token.item : Token → Item
  | .phrase p => .phrase p
  | .number v => .number v
  | .minutes => .minutes
  | .refer kind => .refer kind
  | .pause n => .pause n
  | .tone n => .tone n

/-- The tone prefix and tokens as items (06 R112). -/
def Post.items (p : Post) : List Item :=
  (if p.tone = 0 then [] else [.tone p.tone]) ++ p.tokens.map Token.item

/-- A TONE item. -/
def Item.isTone : Item → Bool
  | .tone _ => true
  | .phrase _ => false
  | .number _ => false
  | .minutes => false
  | .refer _ => false
  | .pause _ => false

/-- The items of a play by its route (06 R112, R117): on the DEGRADED route, an entry with neither a tone
prefix nor a TONE token plays one substitute item. -/
def Post.playItems (p : Post) (route : Route) : List Item :=
  match route with
  | .floor => p.items
  | .local => p.items
  | .degraded =>
      if p.items.any Item.isTone then p.items
      else
        match p.cls with
        | .safety => [.tone 1]
        | .action => [.tone 1]
        | .ending => [.pause 5]
        | .step => [.pause 5]
        | .hint => [.pause 5]
        | .idle => [.pause 5]

/-- The kind of an item. -/
def Item.kind : Item → ItemKind
  | .tone _ => .tone
  | .phrase _ => .speech
  | .number _ => .speech
  | .minutes => .speech
  | .refer _ => .speech
  | .pause _ => .pause

/-- The resolution a play holds for a REFER kind (05 R98). -/
def Play.resolution (p : Play) : ReferKind → Referral
  | .washer => p.washer.getD { outcome := .none, station := none, minutes := 255 }
  | .dryer => p.dryer.getD { outcome := .none, station := none, minutes := 255 }

/-- The phrases of an item of a play (06 R112). -/
def Play.phrases (p : Play) (unitsFirst : Bool) : Item → List Nat
  | .tone _ => []
  | .phrase n => [n]
  | .number v => numberPhrases unitsFirst v
  | .minutes => minutesPhrases unitsFirst p.minutes
  | .refer kind => referralPhrases unitsFirst (p.resolution kind)
  | .pause _ => []

/-- The language slot of a language. -/
def Directory.slot (d : Directory) (language : Nat) : LanguageSlot :=
  d.slots.getD language { unitsFirst := false, phrases := 0, table := 0 }

/-- The flash size in bytes (06 6.2). -/
def Directory.size (d : Directory) : Nat := 65536 * 2 ^ d.sizeCode

/-- The samples of a stream. -/
def streamLength (stream : List Span) : Nat := (stream.map (·.count)).sum

/-- The samples of a stream that may be in the buffer when `played` of them have been played: the two halves
from the one being played (06 R107). -/
def bufferLimit (stream : List Span) (played : Nat) : Nat :=
  min (streamLength stream) (128 * (played / 128 + 2))

/-- The flash address and length of the read that fills a stream from sample `filled` on, up to the end of a
phrase, of a half of the buffer, and of `limit` (06 R107). -/
def fillRead : List Span → (filled limit base : Nat) → Option (Nat × Nat)
  | [], _, _, _ => none
  | span :: rest, filled, limit, base =>
      if filled < base + span.count then
        some (span.start + (filled - base),
          min (min (base + span.count) (128 * (filled / 128 + 1))) limit - filled)
      else fillRead rest filled limit (base + span.count)

/-- Bytes written to the 256-byte buffer from sample position `pos` on. -/
def writeBuffer (buffer : List Byte) : Nat → List Byte → List Byte
  | _, [] => buffer
  | pos, b :: bs => writeBuffer (buffer.set (pos % 256) b) (pos + 1) bs

/-! ### Level control (07) -/

/-- The position of the highest bit set (07 R126). -/
def highestBit (n : Nat) : Nat := Nat.log2 n

/-- The level of a window from its mean (07 R126). -/
def levelOfMean (mean : Nat) : Nat :=
  if mean < 2 then 0
  else
    let h := highestBit mean
    let f := mean * 4 / 2 ^ h % 4
    6 * h + (match f with
             | 0 => 0
             | 1 => 2
             | 2 => 4
             | _ => 5)

/-- The gain code of a play (07 R129). -/
def gainCode (cfg : Settings) (amb : Nat) (cls : PromptClass) (isolated : Bool) : Nat :=
  let c : Int := max 0 (min 12 (((amb : Int) - cfg.aref) * cfg.slope / 4))
  let boost : Int := if cls = .safety then 6 else 0
  let penalty : Int := if isolated then 12 else 0
  (max (cfg.gainFloor : Int) (min 63 (cfg.baseLevel + c + boost - penalty))).toNat

/-- The multiplier of a remainder of 0 to 5 dB (07 7.4). -/
def gainMultiplier (r : Nat) : Int :=
  match r with
  | 0 => 256
  | 1 => 228
  | 2 => 203
  | 3 => 181
  | 4 => 161
  | _ => 144

/-- The DAC code of a value (s × 16 or a tone value) at a gain code (07 R131, R132, R133). Division of an
integer by a positive number rounds toward negative infinity, as the arithmetic shifts do. -/
def dacCode (gain : Nat) (value : Int) : Nat :=
  let k := 63 - gain
  let out := value * gainMultiplier (k % 6) / 256 / (2 ^ (k / 6) : Nat)
  (max 0 (min 4095 (2048 + out))).toNat

/-- The i-th output of a fade from code `d` (06 R119), truncated toward zero. -/
def fadeCode (d i : Nat) : Nat :=
  (2048 + Int.tdiv (((d : Int) - 2048) * (160 - (i : Int))) 160).toNat

/-- A segment of a tone pattern: the note's period in samples, and the samples it lasts. -/
structure ToneSegment where
  period : Nat
  samples : Nat
deriving DecidableEq, Repr

/-- The segments of the eight tone patterns (07 R134): notes 523, 659, 784 and 1047 Hz have the periods 15,
12, 10 and 8, and a duration in ms lasts eight samples each. -/
def tonePattern (n : Nat) : List ToneSegment :=
  match n with
  | 1 => [⟨8, 1200⟩, ⟨10, 1200⟩, ⟨8, 1200⟩, ⟨10, 1200⟩]
  | 2 => [⟨10, 800⟩, ⟨8, 1600⟩]
  | 3 => [⟨15, 1200⟩, ⟨12, 1200⟩, ⟨10, 2400⟩]
  | 4 => [⟨12, 960⟩]
  | 5 => [⟨10, 640⟩, ⟨8, 640⟩]
  | 6 => [⟨12, 1600⟩, ⟨15, 1600⟩]
  | 7 => [⟨15, 2400⟩, ⟨12, 2400⟩, ⟨15, 2400⟩]
  | 8 => [⟨15, 2000⟩]
  | _ => []

/-- The samples of a pattern. -/
def patternLength (n : Nat) : Nat := ((tonePattern n).map (·.samples)).sum

/-- The tone value of sample j of a segment (07 R133). -/
def toneValue (period j : Nat) : Int := if j % period < (period + 1) / 2 then 1024 else -1024

/-- The tone value of a context, none when its pattern has played to its end. -/
def ToneCtx.value (t : ToneCtx) : Option Int :=
  ((tonePattern t.pattern)[t.segment]?).map fun seg => toneValue seg.period t.sample

/-- The context after one more sample (07 R134). -/
def ToneCtx.advance (t : ToneCtx) : ToneCtx :=
  match (tonePattern t.pattern)[t.segment]? with
  | none => t
  | some seg =>
      if t.sample + 1 < seg.samples then { t with sample := t.sample + 1 }
      else { t with segment := t.segment + 1, sample := 0 }

/-! ### Panel lines (09) -/

/-- The level a line rests at. -/
def Settings.restLevel (cfg : Settings) (line : Nat) : Level :=
  if cfg.restLevels.getLsbD line then .high else .low

/-- The sampled level of a line. -/
def sampledLevel (levels : BitVec 8) (line : Nat) : Level :=
  if levels.getLsbD line then .high else .low

/-- The lowest-numbered line of a role. -/
def Settings.lineOf (cfg : Settings) (role : Role) : Option Nat :=
  (List.range 8).find? fun k => cfg.roles.getD k .unused == role

/-- A role of the key group (09 R153). -/
def Role.isKey : Role → Bool
  | .repeatKey => true
  | .language => true
  | .acknowledge => true
  | .keyOther => true
  | .unused => false
  | .door => false
  | .presence => false

/-- A line is at rest: its filtered level equals its rest level (09). -/
def Panel.atRest (p : Panel) (cfg : Settings) (line : Nat) : Bool :=
  (p.filters.getD line { level := .low, count := 0, primed := false }).level == cfg.restLevel line

/-- The lowest-numbered key line that is not at rest (09 R155). -/
def Panel.keyDown (p : Panel) (cfg : Settings) : Option Nat :=
  (List.range 8).find? fun k => (cfg.roles.getD k .unused).isKey && !p.atRest cfg k

/-- A line's filter after a sample (09 R154). -/
def LineFilter.take (f : LineFilter) (sample : Level) : LineFilter :=
  if f.primed = false then { level := sample, count := 0, primed := true }
  else if sample = f.level then { f with count := 0 }
  else if 4 ≤ f.count + 1 then { f with level := sample, count := 0 }
  else { f with count := f.count + 1 }

/-- The languages counted for the session (09 R158, R162): those of the directory copy while the store is
USABLE, else 1. -/
def Store.languages : Store → Nat
  | .usable d => d.languages
  | .scanning => 1
  | .unusable => 1

/-- The default language in use (09 R162). -/
def defaultInUse (cfg : Settings) (store : Store) : Nat := min cfg.defaultLanguage (store.languages - 1)

/-- The index after a LANGUAGE press (09 R158). -/
def nextLanguage (store : Store) (language : Nat) : Nat :=
  if language + 1 < store.languages then language + 1 else 0

/-! ### Outputs that are functions of the state -/

/-- An event record's kind is enabled (10 R176). -/
def Attention.enables (mask : Attention) : EventRecord → Bool
  | .retired _ _ _ _ => mask.retired
  | .key _ _ => mask.panel
  | .door _ _ => mask.panel
  | .presence _ _ => mask.panel
  | .lineStuck => mask.line
  | .lineAbandoned _ => mask.line
  | .lineDuplicate => mask.line
  | .isolatedOn => mask.line
  | .isolatedOff => mask.line
  | .directoryBad => mask.store
  | .missingPhrase _ _ => mask.store
  | .missingPage _ _ => mask.store
  | .coldStart => mask.power
  | .woke _ => mask.power
  | .standbyOn => mask.power
  | .standbyOff => mask.power

/-- The ATTN output is high (10 R176). -/
def State.attn (s : State) : Bool := s.events.queue.any s.settings.attention.enables

/-- A level of the room line (03 R44). -/
inductive LineLevel where
  | dominant
  | recessive
deriving DecidableEq, Repr

/-- The level a data bit is sent at (03 R44): 0 dominant, and 1 recessive. -/
def bitLevel (value : Bool) : LineLevel := if value then .recessive else .dominant

/-- The levels of the ten bit times of a character (03 R44, R45): the start bit, the data bits, most significant
first, and the stop bit. -/
def charLevels (c : Byte) : List LineLevel :=
  .dominant :: [7, 6, 5, 4, 3, 2, 1, 0].map (fun k => bitLevel (c.getLsbD k)) ++ [.recessive]

/-- The bytes the flash port sends for a read (06 R105): the command byte, and the three bytes of the start address,
most significant first. -/
def PortRead.sent (r : PortRead) : List Byte :=
  [0x03, byteOf (r.addr / 2 ^ 16), byteOf (r.addr / 2 ^ 8), byteOf r.addr]

/-- The clock periods of a read, eight for each byte sent and each byte clocked in (06 R105). -/
def PortRead.clocks (r : PortRead) : Nat := 8 * (r.sent.length + r.len)

/-- The flash select is driven low (06 R105): a read is on the port. -/
def State.flashSelected (s : State) : Bool := s.flash.port.isSome

/-- The bytes sent to the flash while its select is low (06 R105); none with the select released. -/
def State.flashSent (s : State) : List Byte :=
  match s.flash.port with
  | none => []
  | some r => r.sent

/-- The value of a pixel (08 R136). -/
def Picture.pixel (p : Picture) (x y : Nat) : Nat :=
  2 * (p.plane1.getLsbD (128 * y + x)).toNat + (p.plane0.getLsbD (128 * y + x)).toNat

/-- The drive level the display port sends for a pixel (08 R137). -/
def State.driveLevel (s : State) (x y : Nat) : Nat :=
  let entry := s.settings.palette.getD (s.display.front.pixel x y) { level := 0, blink := false }
  if entry.blink = true ∧ s.display.blinkOn = false then 0 else entry.level

/-- The positions of the pixels of a frame in the order they are sent (08 R138): row 0 first and row 31 last, and
column 0 first within a row. -/
def frameOrder : List (Nat × Nat) :=
  (List.range 32).flatMap fun y => (List.range 128).map fun x => (x, y)

/-- The frame that the display port streams from a boundary to the next, one drive level for each pixel (08 R138).
Outside ACTIVE it streams none. -/
def State.frameStream (s : State) : List Nat :=
  if s.rest.part = .active then frameOrder.map fun pixel => s.driveLevel pixel.1 pixel.2 else []

/-- The four bits of a drive level on the display data line, most significant first (08 R138). -/
def levelBits (level : Nat) : List Bool := [level.testBit 3, level.testBit 2, level.testBit 1, level.testBit 0]

/-- The display port's outputs in one period of the display clock (08 R138). -/
structure DisplayPins where
  /-- the display clock runs -/
  clock : Bool
  data : Bool
  frameStart : Bool
deriving DecidableEq, Repr

/-- The outputs in period `n` of the display clock from a frame boundary on (08 R138): one bit of the frame, with the
frame-start output high in the first bit of pixel 0; after the frame, and outside ACTIVE, the clock is stopped and the
outputs are low. -/
def State.displayPins (s : State) (n : Nat) : DisplayPins :=
  match s.frameStream[n / 4]? with
  | some level =>
      { clock := true, data := (levelBits level).getD (n % 4) false, frameStart := decide (n = 0) }
  | none => { clock := false, data := false, frameStart := false }

/-- The crystal divider (11 R177). -/
def crystalDivider (code : BitVec 2) : Nat :=
  match code.toNat with
  | 0 => 1
  | 1 => 2
  | _ => 3

/-- The renderer tells level control that it is sounding: from the lead to the drop of the enable (06 R111,
R120). -/
def State.sounding (s : State) : Bool := s.renderer.enable

/-- The core clock and its ticks run (11 R186, R187). -/
def State.clocked (s : State) : Bool :=
  match s.rest.part with
  | .unset => true
  | .active => true
  | .standby => true
  | .settling => true
  | .dormant => false
  | .waking => false

/-- The agenda's test of one WAITING entry now (02 R37). -/
def State.eligible (s : State) (e : Entry) : Bool :=
  e.eligible s.panel.presence s.settings.quietGap s.floor.quietAge s.timebase.seconds
    s.agenda.isPlaying

/-- The own hear mask (04 R65); Settings holds all four zones until SETUP. -/
def State.viewClear (s : State) (key : Nat) : Bool := s.floor.viewClear s.timebase.station key

end Sys2Proof.Machine
end

