-- ==== Sys2Proof/Machine/Fetch.lean ====
section
/-! DEFINITION. Work that needs the phrase store, written as programs that ask for reads (06 R105, R110,
R122). A program is run in two ways: against the phrase store at once (the play estimate, 06 R123), or one
read at a time as the flash port grants it (lookups and composes), by feeding it the data returned so far. -/

namespace Sys2Proof.Machine

/-! ### The phrase store as memory -/

/-- The byte at an address (log 5). -/
def readByte (store : List Host.Cell) (addr : Nat) : Byte :=
  ((store.find? fun c => c.1 == addr).map (·.2)).getD Config.unlistedByte

/-- `len` bytes from an address on; the port sends three address bytes, so addresses are of 24 bits (06 R105,
log 6). -/
def readBytes (store : List Host.Cell) (addr : Nat) : Nat → List Byte
  | 0 => []
  | len + 1 => readByte store (addr % 2 ^ 24) :: readBytes store (addr + 1) len

/-- Addresses rise strictly from `low` on, within 24 bits, and no listed byte equals an unlisted one. -/
def cellsFrom : Nat → List Host.Cell → Bool
  | _, [] => true
  | low, (a, b) :: rest =>
      decide (low ≤ a) && decide (a < 2 ^ 24) && b != Config.unlistedByte && cellsFrom (a + 1) rest

/-- The canonical form of the phrase store's memory. -/
def Memory.wf (store : List Host.Cell) : Bool := cellsFrom 0 store

/-! ### Programs that read -/

/-- A program that reads the phrase store. At each read it notes what it has worked out so far. -/
inductive Fetch (σ α : Type) where
  | done (value : α)
  | read (note : σ) (addr len : Nat) (next : List Byte → Fetch σ α)

/-- Where a program stands after some of its reads: at its end, or at a read it needs. -/
inductive Progress (σ α : Type) where
  | done (value : α)
  | needs (note : σ) (addr len : Nat)

/-- Run a program on the data returned so far. -/
def Fetch.resume {σ α : Type} : Fetch σ α → List (List Byte) → Progress σ α
  | .done value, _ => .done value
  | .read note addr len _, [] => .needs note addr len
  | .read _ _ _ next, data :: replies => (next data).resume replies

/-- Run a program to its end on the phrase store. -/
def Fetch.run {σ α : Type} (store : List Host.Cell) : Fetch σ α → α
  | .done value => value
  | .read _ addr len next => (next (readBytes store addr len)).run store

/-- The reads a program makes on the phrase store: address and length, in their order. -/
def Fetch.requests {σ α : Type} (store : List Host.Cell) : Fetch σ α → List (Nat × Nat)
  | .done _ => []
  | .read _ addr len next => (addr, len) :: (next (readBytes store addr len)).requests store

/-- Read `len` bytes in bursts of at most 64 (06 R106), `fuel` bursts at most. -/
def fetchBursts {σ α : Type} (note : σ) : (fuel addr len : Nat) → List Byte →
    (List Byte → Fetch σ α) → Fetch σ α
  | 0, _, _, acc, next => next acc
  | fuel + 1, addr, len, acc, next =>
      if len = 0 then next acc
      else .read note addr (min len 64) fun data =>
        fetchBursts note fuel (addr + min len 64) (len - min len 64) (acc ++ data) next

/-! ### Phrases (06 R110) -/

/-- The phrase record that five bytes hold, if the phrase is present. -/
def spanOf (d : Directory) (data : List Byte) : Option Span :=
  let start := numberOf (data.take 3)
  let count := numberOf ((data.drop 3).take 2)
  if count = 0 ∨ 32000 < count ∨ d.size < start + count then none
  else some { start := start, count := count }

/-- Look up a phrase: its span if it is present. A phrase not below the count, or whose record would reach
past the flash size, is missing without a read. -/
def fetchPhrase {σ α : Type} (d : Directory) (language phrase : Nat) (note : σ)
    (next : Option Span → Fetch σ α) : Fetch σ α :=
  let slot := d.slot language
  let addr := slot.table + 5 * phrase
  if slot.phrases ≤ phrase ∨ d.size < addr + 5 then next none
  else .read note addr 5 fun data => next (spanOf d data)

/-- What a lookup has found: the first phrase found missing, if any. -/
abbrev LookupNote := Option Nat

/-- Look up the phrases of one item, one after another; collect the present ones. -/
def fetchSpans {α : Type} (d : Directory) (language : Nat) : List Nat → LookupNote → List Span →
    (LookupNote → List Span → Fetch LookupNote α) → Fetch LookupNote α
  | [], note, spans, next => next note spans
  | p :: ps, note, spans, next =>
      fetchPhrase d language p note fun found =>
        match found with
        | some span => fetchSpans d language ps note (spans ++ [span]) next
        | none => fetchSpans d language ps (note.or (some p)) spans next

/-- What a lookup ends with: the first phrase found missing, and the item that sounds with its stream. -/
structure LookupResult where
  missing : LookupNote
  found : Option (Nat × List Span)
deriving DecidableEq, Repr

/-- Pass over empty items to the next that sounds (06 R113, R115). Off the FLOOR route every speech item is
empty (06 R117). -/
def fetchItem (d : Directory) (p : Play) (language : Nat) : List Item → (index : Nat) → LookupNote →
    Fetch LookupNote LookupResult
  | [], _, note => .done { missing := note, found := none }
  | item :: rest, index, note =>
      match item.kind with
      | .tone => .done { missing := note, found := some (index, []) }
      | .pause => .done { missing := note, found := some (index, []) }
      | .speech =>
          if p.route = .floor then
            fetchSpans d language (p.phrases (d.slot language).unitsFirst item) note []
              fun note spans =>
                if spans.isEmpty then fetchItem d p language rest (index + 1) note
                else .done { missing := note, found := some (index, spans) }
          else fetchItem d p language rest (index + 1) note

/-- A directory for lookups while the store is not USABLE: no phrase is below its counts. -/
def Directory.none : Directory :=
  { languages := 1, sizeCode := 0, slots := [], pageTable := 0, pages := 0, fontTable := 0 }

/-- The directory copy, or the empty one. -/
def Store.directory : Store → Directory
  | .usable d => d
  | .scanning => Directory.none
  | .unusable => Directory.none

/-- The lookup of a play from an item on (06 R115). -/
def lookupProgram (store : Store) (p : Play) (index language : Nat) :
    Fetch LookupNote LookupResult :=
  fetchItem store.directory p language (p.items.drop index) index none

/-! ### The play estimate (06 R122, R123) -/

/-- The number of a PHRASE token. -/
def Token.phraseNumber : Token → Option Nat
  | .phrase n => some n
  | .number _ => none
  | .minutes => none
  | .refer _ => none
  | .pause _ => none
  | .tone _ => none

/-- Drop the numbers that stand earlier in a list. -/
def distinct : List Nat → List Nat → List Nat
  | _, [] => []
  | seen, n :: ns => if seen.contains n then distinct seen ns else n :: distinct (n :: seen) ns

/-- The phrases whose records the estimate needs (06 R123): each distinct phrase of a PHRASE token, and three more with
a REFER token. -/
def Post.estimatePhrases (p : Post) : List Nat :=
  distinct [] (p.tokens.filterMap Token.phraseNumber) ++
    if (firstRefer p.tokens).isSome then [1002, 1003, 1004] else []

/-- Read the records of phrases, and collect each with its sample count; a missing phrase has none. -/
def fetchCounts (d : Directory) (language : Nat) :
    List Nat → List (Nat × Nat) → Fetch Unit (List (Nat × Nat))
  | [], counts => .done counts
  | n :: ns, counts =>
      fetchPhrase d language n () fun found =>
        fetchCounts d language ns (counts ++ [(n, found.elim 0 (·.count))])

/-- The sample count of a phrase among those collected. -/
def countOf (counts : List (Nat × Nat)) (n : Nat) : Nat :=
  ((counts.find? fun c => c.1 == n).map (·.2)).getD 0

/-- The samples an item counts in the estimate. -/
def estimateItem (counts : List (Nat × Nat)) (unitsFirst : Bool) (minutes : Nat) : Item → Nat
  | .phrase n => countOf counts n
  | .number v => 800 * (numberPhrases unitsFirst v).length
  | .minutes => 800 * (minutesPhrases unitsFirst minutes).length
  | .refer _ => countOf counts 1002 + countOf counts 1003 + countOf counts 1004
  | .pause n => 800 * n
  | .tone n => patternLength n

/-- The gaps of a run of items as though every item sounded: one before each item but the first, except after
a PAUSE (06 R113). -/
def estimateGaps : List Item → Nat
  | [] => 0
  | [_] => 0
  | item :: next :: rest =>
      (if item.kind = .pause then 0 else Config.gapSamples) + estimateGaps (next :: rest)

/-- The estimate of a play in samples. -/
def estimateSamples (counts : List (Nat × Nat)) (unitsFirst : Bool) (minutes : Nat) (p : Post) : Nat :=
  (p.items.map (estimateItem counts unitsFirst minutes)).sum + estimateGaps p.items +
    2 * Config.leadSamples

/-- The announced length: the estimate in units of 100 ms, rounded up, 1 to 255 (06 R122). -/
def announcedLength (samples : Nat) : Nat := clamp 1 255 ((samples + 799) / 800)

end Sys2Proof.Machine
end

