-- ==== Sys2Proof/Machine/Draw.lean ====
section
/-! DEFINITION. Drawing a page (08): raster operations, the shapes of the items, the built-in field, and the
compose as a program that reads the phrase store. -/

namespace Sys2Proof.Machine

/-! ### Raster operations (08 R145) -/

/-- How a colour combines with the pixel already there (08 R145). -/
inductive RasterOp where
  | replace
  | and
  | or
  | xor
deriving DecidableEq, Repr

/-- Colour, planes, operation and opaque flag of an item (08 R144). -/
structure Paint where
  colour : Nat
  plane0 : Bool
  plane1 : Bool
  op : RasterOp
  opaqueBox : Bool
deriving DecidableEq, Repr

/-- A plane whose bits are all `b`. -/
def fill (b : Bool) : Plane := if b then BitVec.allOnes 4096 else 0

/-- The colour bit combined with the old bits (08 R145). -/
def RasterOp.combine (op : RasterOp) (colour old : Plane) : Plane :=
  match op with
  | .replace => colour
  | .and => colour &&& old
  | .or => colour ||| old
  | .xor => colour ^^^ old

/-- A plane after an item whose shape and box are given as planes (08 R145). -/
def paintPlane (paint : Paint) (colourBit : Bool) (shape box old : Plane) : Plane :=
  (shape &&& paint.op.combine (fill colourBit) old) |||
    (box &&& ~~~shape &&& (if paint.opaqueBox then 0 else old)) ||| (~~~box &&& ~~~shape &&& old)

/-- A picture after an item (08 R145): a plane not enabled keeps its bits. -/
def paintPicture (paint : Paint) (shape box : Plane) (p : Picture) : Picture :=
  { plane0 := if paint.plane0 then paintPlane paint (paint.colour % 2 == 1) shape box p.plane0
              else p.plane0,
    plane1 := if paint.plane1 then paintPlane paint (paint.colour / 2 == 1) shape box p.plane1
              else p.plane1 }

/-- A row of columns (bit c for column c) as a plane, clipped at column 127 and row 31 (08 R145). -/
def rowPlane (y : Nat) (columns : Nat) : Plane :=
  if y < 32 then ((BitVec.ofNat 128 columns).setWidth 4096) <<< (128 * y) else 0

/-- Rows of columns from row y on. -/
def rowsPlane (x : Nat) : Nat → List Nat → Plane
  | _, [] => 0
  | y, row :: rows => rowPlane y (row * 2 ^ x) ||| rowsPlane x (y + 1) rows

/-- Draw a shape given by its rows in a box of `width` columns at (x, y). -/
def drawRows (paint : Paint) (x y width : Nat) (rows : List Nat) (p : Picture) : Picture :=
  paintPicture paint (rowsPlane x y (rows.map (· % 2 ^ width)))
    (rowsPlane x y (rows.map fun _ => 2 ^ width - 1)) p

/-! ### Bitmaps (12 R191) -/

/-- The columns of one bitmap row: the leftmost pixel is bit 7 of the first byte. -/
def bitmapRow (bytes : List Byte) (width : Nat) : Nat :=
  (List.range width).foldl
    (fun n c => n + if (bytes.getD (c / 8) 0).getLsbD (7 - c % 8) then 2 ^ c else 0) 0

/-- The rows of a bitmap, each filling whole bytes. -/
def bitmapRows (bytes : List Byte) (width : Nat) : (rows : Nat) → List Nat
  | 0 => []
  | rows + 1 =>
      bitmapRow bytes width :: bitmapRows (bytes.drop ((width + 7) / 8)) width rows

/-- Two shapes side by side, the second `offset` columns to the right. -/
def joinRows (offset : Nat) : List Nat → List Nat → List Nat
  | r :: rs, q :: qs => (r + q * 2 ^ offset) :: joinRows offset rs qs
  | rs, [] => rs
  | [], qs => qs.map (· * 2 ^ offset)

/-! ### The built-in glyphs and fields (08 R149) -/

/-- The built-in glyphs. -/
inductive Glyph where
  | digit (d : Nat)
  | dash
  | blank
deriving DecidableEq, Repr

/-- Rows of a glyph as the manual prints them: five columns, the leftmost the highest binary digit. -/
def Glyph.picture : Glyph → List Nat
  | .digit 0 => [0b01110, 0b10001, 0b10011, 0b10101, 0b11001, 0b10001, 0b01110]
  | .digit 1 => [0b00100, 0b01100, 0b00100, 0b00100, 0b00100, 0b00100, 0b01110]
  | .digit 2 => [0b01110, 0b10001, 0b00001, 0b00010, 0b00100, 0b01000, 0b11111]
  | .digit 3 => [0b11111, 0b00010, 0b00100, 0b00010, 0b00001, 0b10001, 0b01110]
  | .digit 4 => [0b00010, 0b00110, 0b01010, 0b10010, 0b11111, 0b00010, 0b00010]
  | .digit 5 => [0b11111, 0b10000, 0b11110, 0b00001, 0b00001, 0b10001, 0b01110]
  | .digit 6 => [0b00110, 0b01000, 0b10000, 0b11110, 0b10001, 0b10001, 0b01110]
  | .digit 7 => [0b11111, 0b00001, 0b00010, 0b00100, 0b01000, 0b01000, 0b01000]
  | .digit 8 => [0b01110, 0b10001, 0b10001, 0b01110, 0b10001, 0b10001, 0b01110]
  | .digit _ => [0b01110, 0b10001, 0b10001, 0b01111, 0b00001, 0b00010, 0b01100]
  | .dash => [0, 0, 0, 0b11111, 0, 0, 0]
  | .blank => [0, 0, 0, 0, 0, 0, 0]

/-- Five printed columns as a row with bit c for column c. -/
def mirror5 (n : Nat) : Nat :=
  n / 16 % 2 + 2 * (n / 8 % 2) + 4 * (n / 4 % 2) + 8 * (n / 2 % 2) + 16 * (n % 2)

/-- The rows of a run of character cells, six columns each. -/
def cellRows : List Glyph → List Nat
  | [] => List.replicate 7 0
  | g :: gs => joinRows 6 (g.picture.map mirror5) (cellRows gs)

/-- The decimal digits of a number below 1000 in three cells, leading zeros blank. -/
def threeCells (n : Nat) : List Glyph :=
  [if n < 100 then .blank else .digit (n / 100), if n < 10 then .blank else .digit (n / 10 % 10),
    .digit (n % 10)]

/-- The source of a FIELD item (08 R149). -/
inductive FieldSource where
  | ownMinutes
  | referStation
  | language
deriving DecidableEq, Repr

/-- The cells of a FIELD (08 R149). -/
def FieldSource.cells (source : FieldSource) (snap : Snapshot) : List Glyph :=
  match source with
  | .ownMinutes => if snap.minutes = 255 then [.blank, .dash, .dash] else threeCells snap.minutes
  | .referStation =>
      match snap.binding.bind (·.station) with
      | some station => (threeCells (station + 1)).drop 1
      | none => [.dash, .dash]
  | .language => [.digit (snap.language + 1)]

/-- Draw a FIELD (08 R149). -/
def drawField (paint : Paint) (x y : Nat) (cells : List Glyph) (p : Picture) : Picture :=
  drawRows paint x y (6 * cells.length) (cellRows cells) p

/-- The paint of the built-in field (08 R150). -/
def builtInPaint : Paint :=
  { colour := 3, plane0 := true, plane1 := true, op := .replace, opaqueBox := false }

/-- The built-in field's picture (08 R150). -/
def builtInPicture (snap : Snapshot) : Picture :=
  drawField builtInPaint 55 12 (FieldSource.ownMinutes.cells snap) Picture.blank

/-! ### Bars (08 R148) -/

/-- The filled width of a BAR. -/
def barFilled (progress length : Nat) : Nat := progress * length / 255

/-- Draw a BAR of length Lb and a height, each brought into its range. -/
def drawBar (paint : Paint) (x y length height progress : Nat) (p : Picture) : Picture :=
  drawRows paint x y (min length 128)
    (List.replicate (min height 8) (2 ^ barFilled progress (min length 128) - 1)) p

/-! ### Item slots (12 R191) -/

/-- The paint of an item slot; none for colour bits of 0, which pass the slot over. -/
def readPaint (b : Byte) : Option Paint :=
  if b.toNat % 4 = 0 then none
  else
    some { colour := b.toNat % 4, plane0 := b.getLsbD 2, plane1 := b.getLsbD 3,
           op := match b.toNat / 16 % 4 with
                 | 0 => .replace
                 | 1 => .and
                 | 2 => .or
                 | _ => .xor,
           opaqueBox := b.getLsbD 6 }

/-- What a compose has worked out: the picture so far, the fallback flag once the source is chosen, and the
owner's page if it was found missing. -/
structure Drawn where
  picture : Picture
  fallback : Option Bool
  missing : Bool
deriving DecidableEq, Repr

/-- A program of the compositor. -/
abbrev DrawProgram := Fetch Drawn Drawn

/-- Read the glyphs of a TEXT item one after another and join their rows (08 R146). -/
def fetchGlyphs (note : Drawn) (count table height : Nat) : List Byte → (width : Nat) → List Nat →
    (Nat → List Nat → DrawProgram) → DrawProgram
  | [], width, rows, next => next width rows
  | code :: codes, width, rows, next =>
      if count ≤ code.toNat then fetchGlyphs note count table height codes width rows next
      else
        .read note (table + 4 * code.toNat) 4 fun record =>
          let w := min (record.getD 0 0).toNat 16
          if w = 0 then fetchGlyphs note count table height codes width rows next
          else
            fetchBursts note 1 (numberOf ((record.drop 1).take 3)) (height * ((w + 7) / 8)) []
              fun bits =>
                fetchGlyphs note count table height codes (width + w)
                  (joinRows width rows (bitmapRows bits w height)) next

/-- Draw one item slot of 40 bytes (08 R144 to R149, 12 R191); slots of other kinds are passed over. -/
def drawSlot (d : Directory) (snap : Snapshot) (slot : List Byte) (note : Drawn)
    (next : Drawn → DrawProgram) : DrawProgram :=
  let b := fun k => slot.getD k 0
  let n := fun k => (b k).toNat
  let put := fun f => next { note with picture := f note.picture }
  match readPaint (b 3) with
  | none => next note
  | some paint =>
      match n 0 with
      | 1 =>
          if 1 < n 4 ∨ n 5 = 0 ∨ 32 < n 5 then next note
          else
            .read note (d.fontTable + 4 * n 4) 4 fun header =>
              let height := if n 4 = 0 then 8 else 16
              fetchGlyphs note (header.getD 0 0).toNat (numberOf ((header.drop 1).take 3)) height
                ((slot.drop 6).take (n 5)) 0 (List.replicate height 0)
                fun width rows => put (drawRows paint (n 1) (n 2) width rows)
      | 2 =>
          .read note (d.fontTable + 8) 4 fun header =>
            if (header.getD 0 0).toNat ≤ n 4 then next note
            else
              .read note (numberOf ((header.drop 1).take 3) + 5 * n 4) 5 fun record =>
                let w := min (record.getD 0 0).toNat 32
                let h := min (record.getD 1 0).toNat 32
                if w = 0 ∨ h = 0 then next note
                else
                  fetchBursts note 2 (numberOf ((record.drop 2).take 3)) (h * ((w + 7) / 8)) []
                    fun bits => put (drawRows paint (n 1) (n 2) w (bitmapRows bits w h))
      | 3 => put (drawBar paint (n 1) (n 2) (n 4) (n 5) snap.progress)
      | 4 =>
          match n 4 with
          | 0 => put (drawField paint (n 1) (n 2) (FieldSource.ownMinutes.cells snap))
          | 1 => put (drawField paint (n 1) (n 2) (FieldSource.referStation.cells snap))
          | 2 => put (drawField paint (n 1) (n 2) (FieldSource.language.cells snap))
          | _ => next note
      | _ => next note

/-- Draw the slots of a page in their order. -/
def drawSlots (d : Directory) (snap : Snapshot) : List (List Byte) → Drawn → DrawProgram
  | [], note => .done note
  | slot :: slots, note => drawSlot d snap slot note fun note => drawSlots d snap slots note

/-- Cut a page record's bytes into its item slots. -/
def itemSlots (bytes : List Byte) : (count : Nat) → List (List Byte)
  | 0 => []
  | count + 1 => bytes.take 40 :: itemSlots (bytes.drop 40) count

/-- Read page p in language L: its item slots, or none for a missing page (08 R143). -/
def fetchPage (d : Directory) (page language : Nat) (note : Drawn)
    (next : Option (List (List Byte)) → DrawProgram) : DrawProgram :=
  if d.pages ≤ page then next none
  else
    .read note (d.pageTable + 3 * (page * d.languages + language)) 3 fun entry =>
      let addr := numberOf entry
      if addr = 0xFFFFFF ∨ d.size ≤ addr then next none
      else
        .read note addr 1 fun head =>
          let count := numberOf head
          if count = 0 ∨ 16 < count ∨ d.size < addr + 1 + 40 * count then next none
          else
            fetchBursts note 10 (addr + 1) (40 * count) [] fun bytes =>
              next (some (itemSlots bytes count))

/-- A compose that draws the built-in field (08 R150). -/
def drawBuiltIn (snap : Snapshot) (fallback missing : Bool) : DrawProgram :=
  .done { picture := builtInPicture snap, fallback := some fallback, missing := missing }

/-- A compose that draws the base page, or the built-in field if it is missing or not set (08 R142). -/
def drawBase (d : Directory) (snap : Snapshot) (fallback missing : Bool) : DrawProgram :=
  match snap.basePage with
  | none => drawBuiltIn snap fallback missing
  | some page =>
      let note := { picture := Picture.blank, fallback := some fallback, missing := missing }
      fetchPage d page snap.language note fun slots =>
        match slots with
        | none => drawBuiltIn snap fallback missing
        | some slots => drawSlots d snap slots note

/-- The compose of a snapshot from a USABLE store (08 R142). -/
def drawOwner (d : Directory) (snap : Snapshot) : DrawProgram :=
  match snap.owner with
  | .builtIn => drawBuiltIn snap false false
  | .basePage page => drawBase d { snap with basePage := some page } false false
  | .entry _ =>
      match snap.topicPage with
      | none => drawBase d snap true false
      | some (_, page) =>
          fetchPage d page snap.language
              { picture := Picture.blank, fallback := none, missing := false } fun slots =>
            match slots with
            | none => drawBase d snap true true
            | some slots =>
                drawSlots d snap slots
                  { picture := Picture.blank, fallback := some false, missing := false }

/-- The compose of a snapshot in a store state (08 R142, R151); none while the scan must end first. -/
def composeProgram (store : Store) (snap : Snapshot) : Option DrawProgram :=
  match store with
  | .usable d => some (drawOwner d snap)
  | .unusable => some (drawBuiltIn snap false false)
  | .scanning => if snap.owner = .builtIn then some (drawBuiltIn snap false false) else none

/-- Where a compose stands: none while it waits for the scan's end. -/
def composeProgress (store : Store) (snap : Snapshot) (replies : List (List Byte)) :
    Option (Progress Drawn Drawn) :=
  (composeProgram store snap).map fun program => program.resume replies

end Sys2Proof.Machine
end

