-- ==== Sys2Proof/Machine/Ops.lean ====
section
/-! DEFINITION. The operations that several commands share: the event queue (10), the transmit slots (03), the
compositor's causes (08), stopping and starting plays (06), retirement and admission (01), bids (04), and the
tests the agenda and the floor unit make after an event. -/

namespace Sys2Proof.Machine.State

/-! ### Event queue -/

/-- A block offers a record (10 R174). -/
def offer (s : State) (r : EventRecord) : State :=
  if s.events.queue.length < Config.queueSize then
    s.setEvents { s.events with queue := s.events.queue ++ [r] }
  else s.setEvents { s.events with overflow := min Config.overflowMax (s.events.overflow + 1) }

/-! ### Transmit slots (03) -/

/-- The slot of a name. -/
def slotAt (s : State) : SlotName → Slot
  | .done => s.line.doneSlot
  | .talk => s.line.talkSlot
  | .beacon => s.line.beaconSlot

/-- Replace the slot of a name. -/
def setSlot (s : State) (name : SlotName) (slot : Slot) : State :=
  match name with
  | .done => s.setLine { s.line with doneSlot := slot }
  | .talk => s.setLine { s.line with talkSlot := slot }
  | .beacon => s.setLine { s.line with beaconSlot := slot }

/-- A slot after a frame is queued to it (03 R52). -/
def slotQueued (slot : Slot) (onLine : Bool) (f : LineFrame) : Slot :=
  match slot.frame with
  | none => { frame := some f, next := none, failures := 0 }
  | some _ => if onLine then { slot with next := some f } else { slot with frame := some f }

/-- Queue a frame (03 R52); SETTLING stores none but a DONE (03 R63). -/
def queueFrame (s : State) (name : SlotName) (f : LineFrame) : State :=
  if s.rest.part = .settling ∧ name ≠ .done then s
  else s.setSlot name (slotQueued (s.slotAt name) (decide (s.line.onLine = some name)) f)

/-- The own frame leaves the line before its end: nothing is being sent, and the receiver reads a framing error
(03 R56, R60). The line is dominant to the end of the stop bit, so the line-stuck timer runs (R61). -/
def breakFrame (s : State) : State :=
  s.setLine { s.line with
    onLine := none, receiver := .hunt, idleCount := 0, chars := [],
    stuckTimer := some (s.line.stuckTimer.getD 0) }

/-- Remove the frame of a slot (03 R60). -/
def removeFrame (s : State) (name : SlotName) : State :=
  let s' := s.setSlot name Slot.empty
  if s.line.onLine = some name then s'.breakFrame else s'

/-- Queue a CLAIM with the frozen key and the own hear mask (04 R74). -/
def queueClaim (s : State) (bid : Bid) : State :=
  s.queueFrame .talk (.claim bid.key s.settings.hearMask)

/-- Queue a TALK with the frozen key, the own hear mask and a length (04 R77, R80). -/
def queueTalk (s : State) (bid : Bid) (length : Nat) : State :=
  s.queueFrame .talk (.talk bid.key s.settings.hearMask length)

/-- Queue a renewal TALK with the remaining length (04 R80, R81, R83), if ISOLATED is clear and no yield is
marked. -/
def queueRenewal (s : State) (bid : Bid) (hold : Hold) : State :=
  if s.floor.isolated = false ∧ hold.yield = .none then
    s.queueTalk bid (remainingLength bid hold s.timebase.ms)
  else s

/-- Queue a BEACON from the values that stand (05 R94) and load the beacon timer with B (05 R95, R96). -/
def sendBeacon (s : State) : State :=
  let s' := s.queueFrame .beacon
    (.beacon s.machine.kind s.machine.availability s.settings.zone s.machine.minutes)
  s'.setRoster { s'.roster with beaconTimer := some s'.settings.beaconPeriod }

/-! ### Flash port (06) -/

/-- The data of a read on the port stops being wanted (06 R105). -/
def dropReads (s : State) (dropped : ReadFor → Bool) : State :=
  match s.flash.port with
  | none => s
  | some r =>
      if dropped r.purpose then s.setFlash { s.flash with port := some { r with wanted := false } }
      else s

/-- The reads of a play. -/
def isSpeechRead : ReadFor → Bool
  | .lookup => true
  | .fill => true
  | .directory => false
  | .estimate => false
  | .compose => false

/-- The reads of a compose. -/
def isComposeRead : ReadFor → Bool
  | .compose => true
  | .lookup => false
  | .fill => false
  | .directory => false
  | .estimate => false

/-! ### Compositor (08) -/

/-- The values a compose draws from (08 R140). -/
def snapshot (s : State) : Snapshot :=
  let entry := match s.agenda.owner with
    | .entry ticket => s.agenda.find ticket
    | .basePage _ => none
    | .builtIn => none
  { owner := s.agenda.owner, topicPage := entry.map fun e => (e.post.topic, e.post.page),
    basePage := s.agenda.basePage, language := s.panel.language, minutes := s.machine.minutes,
    progress := s.machine.progress, binding := entry.bind (·.binding) }

/-- Report the owner's page missing, once for an entry (08 R143). -/
def reportPage (s : State) (snap : Snapshot) : State :=
  match snap.owner with
  | .entry ticket =>
      match s.agenda.find ticket with
      | some e =>
          if e.pageReported then s
          else
            (s.setAgenda (s.agenda.modify ticket fun e => { e with pageReported := true })).offer
              (.missingPage e.post.topic e.post.page)
      | none => s
  | .basePage _ => s
  | .builtIn => s

/-- Take over what the compose in progress has worked out (08 R142, R144). -/
def drawSoFar (s : State) (snap : Snapshot) (drawn : Drawn) : State :=
  let s' := s.setDisplay { s.display with
    back := drawn.picture, fallback := drawn.fallback.getD s.display.fallback }
  if drawn.missing then s'.reportPage snap else s'

/-- Let the compose in progress go on with the data it has. -/
def advanceCompose (s : State) : State :=
  match s.display.compose with
  | .idle => s
  | .swapPending => s
  | .composing snap replies =>
      match composeProgress s.flash.store snap replies with
      | none => s
      | some (.done drawn) => s.drawSoFar snap drawn
      | some (.needs note _ _) => s.drawSoFar snap note

/-- Start a compose with a new snapshot and a cleared back buffer (08 R141, R142). -/
def startCompose (s : State) : State :=
  let s' := s.dropReads isComposeRead
  (s'.setDisplay { s'.display with
    compose := .composing s'.snapshot [], back := Picture.blank }).advanceCompose

/-- A recompose cause (08 R140, R141). -/
def cause (s : State) : State :=
  if s.rest.part = .active then
    match s.display.compose with
    | .idle => s.startCompose
    | .composing _ _ => s.startCompose
    | .swapPending => s.setDisplay { s.display with recompose := true }
  else s

/-- The part leaves ACTIVE: the compose in progress is aborted (08 R152). What it had drawn stands in the back buffer
until the next compose clears it (log 38). -/
def abortCompose (s : State) : State :=
  let s' := s.dropReads isComposeRead
  s'.setDisplay { s'.display with compose := .idle, recompose := false }

/-- Select the display owner; a new identity is a cause (01 R18). -/
def selectOwner (s : State) : State :=
  if s.agenda.chooseOwner = s.agenda.owner then s
  else (s.setAgenda { s.agenda with owner := s.agenda.chooseOwner }).cause

/-- A change of an entry's referral binding is a cause when the entry is the display owner (08 R140). -/
def bindingCause (s : State) (ticket : Nat) : State :=
  if s.agenda.owner = .entry ticket then s.cause else s

/-! ### Speech renderer (06) -/

/-- Report a missing phrase, once for an entry (06 R110). -/
def reportPhrase (s : State) (ticket phrase : Nat) : State :=
  match s.agenda.find ticket with
  | some e =>
      if e.phraseReported then s
      else
        (s.setAgenda (s.agenda.modify ticket fun e => { e with phraseReported := true })).offer
          (.missingPhrase e.post.topic phrase)
  | none => s

/-- Report what a lookup has found missing. -/
def reportMissing (s : State) (ticket : Nat) (missing : LookupNote) : State :=
  match missing with
  | some phrase => s.reportPhrase ticket phrase
  | none => s

/-- Enter TAIL with 10 ms (06 R113, R118). -/
def enterTail (s : State) : State :=
  let s' := s.dropReads isSpeechRead
  s'.setRenderer { s'.renderer with phase := .tail, timer := Config.leadSamples }

/-- A lookup has ended (06 R115): the stream of the item that sounds, if any. A GAP that no item follows is
the tail (06 R113). -/
def lookupDone (s : State) (p : Play) (found : Option (Nat × List Span)) : State :=
  match found with
  | some (index, stream) =>
      s.setRenderer { s.renderer with play := some { p with
        ahead := .sounds index, stream := stream, filled := 0, played := 0 } }
  | none =>
      let s' := s.setRenderer { s.renderer with play := some { p with
        ahead := .exhausted, stream := [], filled := 0, played := 0 } }
      if s.renderer.phase = .gap then s'.enterTail else s'

/-- Let the lookup in progress go on with the data it has (06 R110, R115). -/
def advanceLookup (s : State) : State :=
  match s.renderer.play with
  | none => s
  | some p =>
      match p.ahead with
      | .sounds _ => s
      | .exhausted => s
      | .looking index language replies =>
          match (lookupProgram s.flash.store p index language).resume replies with
          | .needs note _ _ => s.reportMissing p.ticket note
          | .done result => (s.reportMissing p.ticket result.missing).lookupDone p result.found

/-- Start looking up the next item that sounds from `index` on, in the session language (06 R115). All phrases of the
item are taken in the language of this moment, those of a REFER item too (log 40). -/
def startLookup (s : State) (p : Play) (index : Nat) : State :=
  (s.setRenderer { s.renderer with play := some { p with
    ahead := .looking index s.panel.language [] } }).advanceLookup

/-- A cut request (06 R118). -/
def cutPlay (s : State) : State :=
  match s.renderer.play with
  | none => s
  | some p =>
      let s' := s.setRenderer { s.renderer with play := some { p with
        stop := if p.stop = .fade then .fade else .cut } }
      match s.renderer.phase with
      | .lead => s'.enterTail
      | .gap => s'.enterTail
      | .idle => s'
      | .item => s'
      | .tail => s'
      | .fade => s'

/-- A fade request (06 R119): the ramp starts from the last DAC code sent, in every phase (log 37). -/
def fadePlay (s : State) : State :=
  match s.renderer.play with
  | none => s
  | some p =>
      if s.renderer.phase = .fade then s
      else
        let s' := s.dropReads isSpeechRead
        (s'.setRenderer { s'.renderer with
            phase := .fade, timer := Config.fadeSamples,
            play := some { p with stop := .fade, fadeFrom := s.level.dac } }).setLevel
          { s'.level with tone := none }

/-! ### End requests (01 R9) -/

end State

/-- The end request that stands after another is set (01 R9). -/
def EndRequest.merge (old new : EndRequest) : EndRequest :=
  match old, new with
  | .none, r => r
  | .interrupt, .retire o => .retire o
  | .interrupt, .none => .interrupt
  | .interrupt, .interrupt => .interrupt
  | .retire .replaced, .retire .withdrawn => .retire .withdrawn
  | .retire o, _ => .retire o

/-- The PLAYING entry with another end request; a retirement request stops its expiry timer (01 R21). -/
def Entry.request (e : Entry) (r : EndRequest) : Entry :=
  match e.endRequest.merge r with
  | .none => { e with endRequest := .none }
  | .interrupt => { e with endRequest := .interrupt }
  | .retire o => { e with endRequest := .retire o, expiryTimer := none }

/-- How the renderer is asked to stop (01 R9). -/
inductive StopKind where
  | cut
  | fade
deriving DecidableEq, Repr

namespace State

/-- Set the end request of a PLAYING entry and ask the renderer to stop (01 R9). -/
def stopEntry (s : State) (ticket : Nat) (r : EndRequest) (how : StopKind) : State :=
  let s' := s.setAgenda (s.agenda.modify ticket fun e => e.request r)
  match how with
  | .cut => s'.cutPlay
  | .fade => s'.fadePlay

/-! ### Floor context (04) -/

/-- Set the floor context. -/
def setCtx (s : State) (ctx : FloorCtx) : State := s.setFloor { s.floor with ctx := ctx }

/-- The floor context after a bid or hold has ended (04 R84, R85). -/
def leaveBid (s : State) : State :=
  s.setCtx (if (s.agenda.floorEntries s.flash.store).isEmpty then .idle else .deferring 0)

/-- The candidate is lost (04 R85). -/
def lostCandidate (s : State) : State :=
  match s.floor.ctx with
  | .pending _ => (s.removeFrame .talk).leaveBid
  | .claiming _ _ => s.leaveBid
  | .announcing _ => (s.removeFrame .talk).leaveBid
  | .idle => s
  | .deferring _ => s
  | .holding _ _ => s

end State

/-- The BIDDING entry returns to READY with its wait kept (01 R6). -/
def Entry.unbid (e : Entry) : Entry := if e.state = .bidding then { e with state := .ready } else e

/-- A READY entry whose gate is closed and whose replay flag is clear returns to WAITING (02 R39). -/
def Entry.gateTest (presence : Presence) (e : Entry) : Entry :=
  if e.state = .ready ∧ gateOpen presence e.post.cls = false ∧ e.replay = false then
    { e with state := .waiting, wait := 0 }
  else e

namespace State

/-- Change every entry of the agenda. -/
def mapEntries (s : State) (f : Entry → Entry) : State :=
  s.setAgenda { s.agenda with entries := s.agenda.entries.map f }

/-- Gated READY entries return to WAITING while the gate is closed (02 R39). -/
def closeGate (s : State) : State := s.mapEntries (Entry.gateTest s.panel.presence)

/-- The candidate is deferred or abandoned (01 R6, 04 R75, R86): READY again, and the floor context
DEFERRING. -/
def deferBid (s : State) : State := ((s.mapEntries Entry.unbid).closeGate).setCtx (.deferring 0)

/-- The floor unit tests the view at a list change (04 R71, R73, R75). -/
def viewChanged (s : State) : State :=
  match s.floor.ctx with
  | .pending bid => if s.viewClear bid.key then s else (s.removeFrame .talk).deferBid
  | .deferring _ =>
      match s.agenda.answer s.flash.store with
      | .candidate e => if s.viewClear e.key then s else s.setCtx (.deferring 0)
      | .noCandidate => s
      | .playing => s
  | .idle => s
  | .claiming _ _ => s
  | .announcing _ => s
  | .holding _ _ => s

/-! ### Eligibility (02 R37) -/

/-- The agenda tests its WAITING entries. -/
def testEligible (s : State) : State :=
  s.mapEntries fun e =>
    if e.state = .waiting ∧ s.eligible e = true then { e with state := .ready, wait := 0 } else e

/-! ### Starting a play (01 R8, 06 R111) -/

/-- The play kind from the entry's credit (01 R8). -/
def kindOfPlay (e : Entry) : PlayKind :=
  if 1 ≤ e.owed then .counted else if e.replay then .replay else .pullIn

/-- The resolution of a kind at play start, if a REFER token of the entry names it (05 R98). -/
def resolveFor (s : State) (p : Post) (kind : ReferKind) : Option Referral :=
  if p.tokens.contains (.refer kind) then
    some (resolveReferral s.roster.records s.settings.zone kind)
  else none

/-- The referral binding at play start: the resolution of the first REFER token (05 R98). -/
def bindingFor (s : State) (p : Post) : Option Referral :=
  (firstRefer p.tokens).map (resolveReferral s.roster.records s.settings.zone)

/-- The entry as its play starts (01 R8). -/
def playing (s : State) (e : Entry) : Entry :=
  { e with state := .playing, wait := 0, endRequest := .none, interrupted := false,
           playKind := some (kindOfPlay e),
           lastPlayStart := some { seconds := s.timebase.seconds, order := s.timebase.plays },
           binding := s.bindingFor e.post }

/-- The play context as a play starts (06 R111). -/
def playContext (s : State) (e : Entry) (route : Route) : Play :=
  { ticket := e.ticket, route := route, items := e.post.playItems route, index := 0, stop := .none,
    washer := s.resolveFor e.post .washer, dryer := s.resolveFor e.post .dryer,
    minutes := s.machine.minutes, lastPlayed := none, ahead := .exhausted, stream := [],
    filled := 0, played := 0, fadeFrom := 0 }

/-- A play of an entry starts (01 R8, 06 R111, 07 R130). A pending drop of the amplifier enable does not take
place (06 R120), and the window in progress is not silent (07 R127). -/
def startPlay (s : State) (e : Entry) (route : Route) : State :=
  let s1 := s.setAgenda (s.agenda.modify e.ticket fun e => s.playing e)
  let s2 := s1.setTimebase { s1.timebase with plays := s1.timebase.plays + 1 }
  let s3 := s2.setLevel { s2.level with
    gain := gainCode s.settings s.level.amb e.post.cls s.floor.isolated, soundingSeen := true }
  let s4 := s3.setRenderer { s3.renderer with
    phase := .lead, timer := Config.leadSamples, enable := true, dropTimer := none }
  let s5 := s4.startLookup (s.playContext e route) 0
  let s6 := s5.selectOwner
  if (s.bindingFor e.post).isSome then s6.bindingCause e.ticket else s6

/-- The record reads of the play estimate of an entry, in the session language (06 R123). -/
def estimateProgram (s : State) (p : Post) : Fetch Unit (List (Nat × Nat)) :=
  fetchCounts s.flash.store.directory s.panel.language p.estimatePhrases []

/-- The announced length of an entry (04 R74, 06 R122). -/
def estimate (s : State) (p : Post) : Nat :=
  announcedLength (estimateSamples ((s.estimateProgram p).run s.phraseStore)
    (s.flash.store.directory.slot s.panel.language).unitsFirst s.machine.minutes p)

/-- The renderer asks for the records of an entry's estimate, one speech request each (06 R106, R123). The step that
needs the estimate is one event with the length these reads will give; the reads follow on the port (log 12). -/
def requestEstimate (s : State) (p : Post) : State :=
  s.setFlash { s.flash with estimate := (s.estimateProgram p).requests s.phraseStore }

/-- The bid the floor unit makes for an entry: its key now, and the play estimate (02 R31, 04 R74). -/
def bidFor (s : State) (e : Entry) : Bid :=
  { ticket := e.ticket, key := e.key, length := s.estimate e.post }

/-- The hold as HOLDING is entered (04 R79, R88). -/
def newHold (s : State) (announced : Bool) : Hold :=
  { renewal := Config.renewalPeriod, start := s.timebase.ms, announced := announced,
    yield := .none }

/-- The ISOLATED start (04 R88). -/
def isolatedStart (s : State) (e : Entry) : State :=
  ((s.requestEstimate e.post).setCtx (.holding (s.bidFor e) (s.newHold false))).startPlay e .floor

/-! ### The tests after an event -/

/-- The idle timer's conditions (11 R182): ACTIVE, an empty agenda, and no user at the machine. -/
def idleHolds (s : State) : Bool :=
  s.rest.part == .active && s.agenda.entries.isEmpty &&
    (s.panel.presence == .absent || (s.settings.lineOf .presence).isNone)

/-- The idle timer is tested: it starts from 0, runs on, or stops (11 R182). -/
def idleTest (s : State) : State :=
  if s.idleHolds then s.setRest { s.rest with idleTimer := some (s.rest.idleTimer.getD 0) }
  else s.setRest { s.rest with idleTimer := none }

/-- The floor context is IDLE or DEFERRING. -/
def floorFree (s : State) : Bool :=
  match s.floor.ctx with
  | .idle => true
  | .deferring _ => true
  | .pending _ => false
  | .claiming _ _ => false
  | .announcing _ => false
  | .holding _ _ => false

/-- The agenda starts a local play if it may (01 R7). -/
def localStart (s : State) : State :=
  if s.rest.part = .active ∧ s.agenda.isPlaying = false ∧ s.floorFree = true then
    match s.agenda.localCandidate s.flash.store with
    | some e => s.startPlay e (if e.post.isSpeech then .degraded else .local)
    | none => s
  else s

/-- The floor unit goes from IDLE to DEFERRING (04 R72), or to HOLDING while ISOLATED is set (04 R88). -/
def floorTest (s : State) : State :=
  if s.rest.part = .active ∧ s.floorFree = true then
    match s.agenda.answer s.flash.store with
    | .candidate e =>
        if s.floor.isolated then s.isolatedStart e
        else if s.floor.ctx = .idle then s.setCtx (.deferring 0)
        else s
    | .noCandidate => s
    | .playing => s
  else s

/-- What follows an event that changed the agenda, the floor context or the part state: the display owner is
selected, local plays and candidates are tested, and so is the idle timer (01 R7, R18, R19, 04 R72, R88,
11 R182). The owner is selected at once whatever the event changed, a key alone too (log 34). -/
def followUp (s : State) : State := s.selectOwner.localStart.floorTest.idleTest

/-! ### Admission and retirement (01) -/

/-- The first state of an entry (01 R2). -/
def firstState (s : State) (p : Post) : EntryState :=
  if p.isSilent = false ∧ gateOpen s.panel.presence p.cls = true then .ready else .waiting

/-- The entry of a POST at admission (01 R2). -/
def newEntry (s : State) (p : Post) (ticket : Nat) : Entry :=
  { post := p, ticket := ticket, state := s.firstState p, wait := 0, owed := 1, ahead := 0,
    remaining := p.count, plays := 0, playKind := none, endRequest := .none, cadence := none,
    expiryTimer := if p.expiry = 0 then none else some (10 * p.expiry), lastPlayStart := none,
    interrupted := false, replay := false, binding := none, successor := none,
    pageReported := false, phraseReported := false }

/-- Admit a POST under a ticket at the end of the admission list (01 R2). -/
def admission (s : State) (p : Post) (ticket : Nat) : State :=
  (s.setAgenda { s.agenda with
    entries := s.agenda.entries ++ [s.newEntry p ticket] }).idleTest.selectOwner

/-- Advance the ticket counter past an issued ticket (01 R3). -/
def ticketUsed (s : State) (ticket : Nat) : State :=
  s.setAgenda { s.agenda with nextTicket := ticketAfter ticket }

/-- Retire a staged successor before admission (01 R20): plays 0. -/
def retireSuccessor (s : State) (successor : Option Successor) (outcome : Retirement) : State :=
  match successor with
  | some q => s.offer (.retired q.ticket q.post.topic outcome 0)
  | none => s

/-- An entry leaves the agenda, and its RETIRED record is offered (01 R19, R20). -/
def leaveEntry (s : State) (e : Entry) (outcome : Retirement) : State :=
  (s.setAgenda { s.agenda with
      entries := s.agenda.entries.filter fun q => q.ticket != e.ticket }).offer
    (.retired e.ticket e.post.topic outcome e.plays)

/-- An entry without a staged successor leaves the agenda, and the display owner is selected again (01 R19). -/
def dropEntry (s : State) (e : Entry) (outcome : Retirement) : State :=
  (s.leaveEntry e outcome).selectOwner

/-- An entry retires, by its state (01 R19). -/
def retireEntry (s : State) (e : Entry) (outcome : Retirement) : State :=
  match e.state with
  | .waiting => s.dropEntry e outcome
  | .ready => s.dropEntry e outcome
  | .bidding => s.lostCandidate.dropEntry e outcome
  | .playing => s.stopEntry e.ticket (.retire outcome) .cut

/-- Retire entries one after another (01 R23). -/
def retireAll (s : State) (outcome : Retirement) : List Entry → State
  | [] => s
  | e :: es => (s.retireEntry e outcome).retireAll outcome es

/-! ### The end of a play (01 R10, 04 R84, 06 R120) -/

end State

/-- The completion accounting of a play (02 R40). -/
def Entry.account (e : Entry) : Entry :=
  let counted : Entry :=
    { e with remaining := e.remaining.map (· - 1), plays := min 255 (e.plays + 1),
             cadence := if e.post.interval = 0 then none else some e.post.interval,
             replay := false }
  match e.playKind with
  | some .counted => { counted with owed := e.owed - 1 }
  | some .pullIn =>
      if e.owed = 0 then { counted with ahead := e.ahead + 1 }
      else { counted with owed := e.owed - 1 }
  | some .replay => { e with replay := false }
  | none => { e with replay := false }

/-- An entry back from a play, before its eligibility is tested (01 R10). -/
def Entry.back (e : Entry) : Entry :=
  { e with state := .waiting, wait := 0, playKind := none, endRequest := .none, binding := none }

namespace State

/-- An entry leaves at the end of its play; a staged successor is admitted before the display owner is selected
again (01 R15, R19). -/
def dropPlayed (s : State) (e : Entry) (outcome : Retirement) : State :=
  match e.successor with
  | some q => (s.leaveEntry e outcome).admission q.post q.ticket
  | none => s.dropEntry e outcome

/-- The agenda acts on the end of a play of an entry (01 R10, 02 R40, R41, R43). -/
def entryPlayed (s : State) (e : Entry) : State :=
  match e.endRequest with
  | .retire outcome => s.dropPlayed e outcome
  | .interrupt =>
      s.setAgenda (s.agenda.modify e.ticket fun q =>
        { q.back with replay := false, interrupted := true })
  | .none =>
      if e.account.remaining = some 0 then s.dropPlayed e.account .spoken
      else s.setAgenda (s.agenda.modify e.ticket fun q => q.account.back)

/-- The agenda takes the end report of a play: the binding is cleared first (05 R101). The end request chooses what
follows, and not the ending reported (01 R10). -/
def agendaPlayEnd (s : State) (report : EndReport) : State :=
  match s.agenda.find report.ticket with
  | none => s
  | some e =>
      let s1 := s.setAgenda (s.agenda.modify report.ticket fun q => { q with binding := none })
      let s2 := if e.binding.isSome then s1.bindingCause report.ticket else s1
      (s2.entryPlayed { e with binding := none }).testEligible

/-- The floor unit's part before the agenda's, while HOLDING (04 R84): a renewal is removed, and a DONE queued
unless no peer has a record of the hold. -/
def releaseHold (s : State) (hold : Hold) : State :=
  let s' := s.removeFrame .talk
  if s.floor.isolated = true ∧ hold.announced = false then s' else s'.queueFrame .done .done

/-- Floor unit and agenda take the end report of a play (01 R10, 06 R120); the floor unit's steps are the same whatever
ended the play (04 R84). -/
def playEnded (s : State) (report : EndReport) : State :=
  match s.floor.ctx with
  | .holding _ hold => (((s.releaseHold hold).agendaPlayEnd report).leaveBid).followUp
  | .idle => (s.agendaPlayEnd report).followUp
  | .deferring _ => (s.agendaPlayEnd report).followUp
  | .pending _ => (s.agendaPlayEnd report).followUp
  | .claiming _ _ => (s.agendaPlayEnd report).followUp
  | .announcing _ => (s.agendaPlayEnd report).followUp

/-! ### ISOLATED (03 R62, 04 R87, R89) -/

/-- An isolate report (03 R62, 04 R87). -/
def isolateReport (s : State) : State :=
  if s.floor.isolated then s
  else
    let s' := (s.setFloor { s.floor with isolated := true, claims := [], holders := [] }).offer
      .isolatedOn
    match s.floor.ctx with
    | .idle => s'
    | .deferring _ => s'.setCtx (.deferring 0)
    | .pending _ => (s'.removeFrame .talk).deferBid
    | .claiming _ _ => s'.deferBid
    | .announcing _ => (s'.removeFrame .talk).deferBid
    | .holding _ _ => s'

/-- A line-good report (03 R62, 04 R89). -/
def lineGood (s : State) : State :=
  if s.floor.isolated then
    let s' := (s.setFloor { s.floor with isolated := false }).offer .isolatedOff
    match s.floor.ctx with
    | .deferring _ => s'.setCtx (.deferring 0)
    | .idle => s'
    | .pending _ => s'
    | .claiming _ _ => s'
    | .announcing _ => s'
    | .holding _ _ => s'
  else s

/-! ### The session (09 R163) -/

/-- A session reset (09 R163): a change of the index is a cause. -/
def sessionReset (s : State) : State :=
  let language := defaultInUse s.settings s.flash.store
  if s.panel.language = language then s
  else (s.setPanel { s.panel with language := language }).cause

/-! ### Part states (11) -/

/-- The part enters ACTIVE (11 R181, R184, R187): the stream starts with the blink phase ON, a compose starts,
and the idle timer is tested. -/
def enterActive (s : State) : State :=
  let s1 := s.setRest { s.rest with part := .active }
  (s1.setDisplay { s1.display with blinkOn := true, frameCount := 0 }).cause.idleTest

/-- The return from STANDBY that an event makes first (11 R184). -/
def returnActive (s : State) : State :=
  if s.rest.part = .standby then (s.offer .standbyOff).enterActive else s

/-- The floor context at STANDBY entry is IDLE (04 R90, 11 R183), although the settle tick that finds the agenda empty
may not have come. A hold, which the empty agenda rules out, is not touched. -/
def floorEmptied (s : State) : State :=
  match s.floor.ctx with
  | .holding _ _ => s
  | .idle => s
  | .deferring _ => s.setCtx .idle
  | .pending _ => s.setCtx .idle
  | .claiming _ _ => s.setCtx .idle
  | .announcing _ => s.setCtx .idle

/-- The part enters STANDBY (11 R183). -/
def enterStandby (s : State) : State :=
  let s1 := (s.setRest { s.rest with part := .standby, idleTimer := none }).offer .standbyOn
  let s2 := s1.floorEmptied.abortCompose
  s2.setRenderer { s2.renderer with enable := false, dropTimer := none }

end Sys2Proof.Machine.State
end

