-- ==== Sys2Proof/Machine/FloorUnit.lean ====
section
/-! DEFINITION. The floor unit (04): what it does with frames heard, with its own frames transmitted and
abandoned, and with its timers. -/

namespace Sys2Proof.Machine

/-- The result of a command. -/
abbrev Result := Host.Outcome State Fault Refusal

namespace State

/-! ### Frames heard -/

/-- Both lists lose a station's record (04 R68, R69, R70). -/
def forget (s : State) (station : Nat) : State :=
  s.setFloor { s.floor with
    claims := dropRival station s.floor.claims, holders := dropRival station s.floor.holders }

/-- Replace the hold's yield mark. -/
def markYield (s : State) (bid : Bid) (hold : Hold) (mark : YieldMark) : State :=
  s.setCtx (.holding bid { hold with yield := mark })

/-- A conflicting CLAIM heard while HOLDING (04 R81, R82). A safety claim finds a yield mark of AT_ONCE as it stands
and reports no preemption (log 36). -/
def holderHearsClaim (s : State) (bid : Bid) (hold : Hold) (key : Nat) : State :=
  if bid.key < 192 ∧ 192 ≤ key then
    match hold.yield with
    | .none =>
        (((s.markYield bid hold .atTokenEnd).removeFrame .talk).stopEntry bid.ticket .interrupt .cut)
    | .atTokenEnd => s
    | .atOnce => s
  else s.queueRenewal bid hold

/-- Yield at once (04 R83). -/
def yieldAtOnce (s : State) (bid : Bid) (hold : Hold) : State :=
  ((s.markYield bid hold .atOnce).removeFrame .talk).stopEntry bid.ticket .interrupt .fade

/-- A conflicting TALK heard while HOLDING (04 R83). -/
def holderHearsTalk (s : State) (bid : Bid) (hold : Hold) (station key : Nat) : State :=
  if beats key station bid.key s.timebase.station then
    match hold.yield with
    | .none => s.yieldAtOnce bid hold
    | .atTokenEnd => s.yieldAtOnce bid hold
    | .atOnce => s
  else s.queueRenewal bid hold

/-- A record joins Claims Heard (04 R68): age timer W + 50 ms. -/
def recordClaim (s : State) (station key : Nat) (mask : BitVec 4) : State :=
  s.setFloor { s.floor with
    claims := putRival { station := station, key := key, mask := mask,
                         left := 50 * s.settings.window + 50 } s.floor.claims,
    holders := dropRival station s.floor.holders }

/-- A record joins Holders (04 R69): hold timer length × 100 ms + 2 s. The quiet age becomes 0 (02 R38), and the
window in progress has seen a holder (07 R127). -/
def recordHolder (s : State) (station key : Nat) (mask : BitVec 4) (length : Nat) : State :=
  (s.setFloor { s.floor with
    claims := dropRival station s.floor.claims,
    holders := putRival { station := station, key := key, mask := mask,
                          left := 100 * length + 2000 } s.floor.holders,
    quietAge := 0 }).setLevel { s.level with holderSeen := true }

/-- The floor unit is handed a CLAIM (04 R68, R75, R78, R81, R82). -/
def hearClaim (s : State) (station key : Nat) (mask : BitVec 4) : State :=
  if conflicts s.settings.hearMask mask then
    let s' := s.recordClaim station key mask
    match s.floor.ctx with
    | .announcing bid =>
        if beats key station bid.key s.timebase.station then (s'.removeFrame .talk).deferBid
        else s'
    | .holding bid hold => s'.holderHearsClaim bid hold key
    | .idle => s'
    | .deferring _ => s'.viewChanged
    | .pending _ => s'.viewChanged
    | .claiming _ _ => s'
  else (s.forget station).viewChanged

/-- The floor unit is handed a TALK (04 R69, R75, R78, R83). -/
def hearTalk (s : State) (station key : Nat) (mask : BitVec 4) (length : Nat) : State :=
  if conflicts s.settings.hearMask mask then
    let s' := s.recordHolder station key mask length
    match s.floor.ctx with
    | .announcing _ => (s'.removeFrame .talk).deferBid
    | .holding bid hold => s'.holderHearsTalk bid hold station key
    | .idle => s'
    | .deferring _ => s'.viewChanged
    | .pending _ => s'.viewChanged
    | .claiming _ _ => s'
  else (s.forget station).viewChanged

/-- The floor unit is handed a DONE (04 R70). -/
def hearDone (s : State) (station : Nat) : State := (s.forget station).viewChanged

/-! ### Own frames -/

/-- The BIDDING entry of a ticket becomes PLAYING on the FLOOR route (01 R6). -/
def startBid (s : State) (ticket : Nat) : State :=
  match s.agenda.find ticket with
  | some e => if e.state = .bidding then s.startPlay e .floor else s
  | none => s

/-- The floor unit is told that a frame was transmitted (04 R76, R79, R80). -/
def floorSent (s : State) (kind : FrameKind) : State :=
  match kind, s.floor.ctx with
  | .claim, .pending bid => s.setCtx (.claiming bid (50 * s.settings.window))
  | .talk, .announcing bid => (s.setCtx (.holding bid (s.newHold true))).startBid bid.ticket
  | .talk, .holding bid hold => s.setCtx (.holding bid { hold with announced := true })
  | _, _ => s

/-- The floor unit is told that a frame was abandoned (04 R86). -/
def floorAbandoned (s : State) (kind : FrameKind) : State :=
  match kind, s.floor.ctx with
  | .claim, .pending _ => s.deferBid
  | .talk, .announcing _ => s.deferBid
  | _, _ => s

/-! ### Settle, window and renewal -/

/-- The floor context in DEFERRING after a 1 ms tick (04 R73): the settle count saturates at 239, the largest it
is compared with; while ISOLATED is set there is no settle delay (04 R87, R88). -/
def settleCounted (s : State) (settle : Nat) : FloorCtx :=
  match s.agenda.answer s.flash.store with
  | .noCandidate => .idle
  | .playing => .deferring 0
  | .candidate e =>
      if s.floor.isolated = false ∧ s.viewClear e.key = true then .deferring (min 239 (settle + 1))
      else .deferring 0

/-- SETTLE_TICK's effect (04 R73, R88). -/
def settleTicked (s : State) : State :=
  match s.floor.ctx with
  | .deferring settle =>
      (s.setCtx (s.settleCounted settle)).followUp
  | .idle => s
  | .pending _ => s
  | .claiming _ _ => s
  | .announcing _ => s
  | .holding _ _ => s

/-- The entry the floor unit claims for now (04 R73): DEFERRING, ISOLATED clear, a candidate named, the view
clear, and the settle count at least 255 less its key. -/
def claimCandidate (s : State) : Option Entry :=
  match s.floor.ctx with
  | .deferring settle =>
      match s.agenda.answer s.flash.store with
      | .candidate e =>
          if s.floor.isolated = false ∧ s.viewClear e.key = true ∧ 255 - e.key ≤ settle then some e
          else none
      | .noCandidate => none
      | .playing => none
  | .idle => none
  | .pending _ => none
  | .claiming _ _ => none
  | .announcing _ => none
  | .holding _ _ => none

/-- The floor unit claims for an entry (04 R74). -/
def claimFor (s : State) (e : Entry) : State :=
  let bid := s.bidFor e
  let s' := s.requestEstimate e.post
  (((s'.setAgenda (s'.agenda.modify e.ticket fun e => { e with state := .bidding })).queueClaim
    bid).setCtx (.pending bid)).selectOwner

/-- SETTLE_COMPLETE's effect (04 R74). -/
def settleCompleted (s : State) : State :=
  match s.claimCandidate with
  | some e => s.claimFor e
  | none => s

/-- WINDOW_EXPIRY's effect (04 R77). -/
def windowExpired (s : State) : State :=
  match s.floor.ctx with
  | .claiming bid 0 =>
      if s.viewClear bid.key then (s.queueTalk bid bid.length).setCtx (.announcing bid)
      else s.deferBid.followUp
  | .claiming _ (_ + 1) => s
  | .idle => s
  | .deferring _ => s
  | .pending _ => s
  | .announcing _ => s
  | .holding _ _ => s

/-- RENEWAL_EXPIRY's effect (04 R80). -/
def renewalExpired (s : State) : State :=
  match s.floor.ctx with
  | .holding bid hold =>
      if hold.renewal = 0 then
        (s.queueRenewal bid hold).setCtx
          (.holding bid { hold with renewal := Config.renewalPeriod })
      else s
  | .idle => s
  | .deferring _ => s
  | .pending _ => s
  | .claiming _ _ => s
  | .announcing _ => s

/-- A station's record in a list has run out. -/
def ranOut (rs : List Rival) (station : Nat) : Bool :=
  rs.any fun r => r.station == station && r.left == 0

/-- CLAIM_AGE_EXPIRY's effect (04 R67, R71). -/
def claimAged (s : State) (station : Nat) : State :=
  if ranOut s.floor.claims station then
    (s.setFloor { s.floor with claims := dropRival station s.floor.claims }).viewChanged.followUp
  else s

/-- HOLD_TIMER_EXPIRY's effect (04 R67, R71). -/
def holdAged (s : State) (station : Nat) : State :=
  if ranOut s.floor.holders station then
    (s.setFloor { s.floor with
      holders := dropRival station s.floor.holders }).viewChanged.followUp
  else s

end State

/-- SETTLE_TICK: a 1 ms tick in DEFERRING (04 R73). -/
def execSettleTick (s : State) : Result := .next s.settleTicked

/-- SETTLE_COMPLETE (04 R74). -/
def execSettleComplete (s : State) : Result := .next s.settleCompleted

/-- WINDOW_EXPIRY (04 R77). -/
def execWindowExpiry (s : State) : Result := .next s.windowExpired

/-- RENEWAL_EXPIRY (04 R80). -/
def execRenewalExpiry (s : State) : Result := .next s.renewalExpired

/-- CLAIM_AGE_EXPIRY (04 R67). -/
def execClaimAgeExpiry (station : Nat) (s : State) : Result := .next (s.claimAged station)

/-- HOLD_TIMER_EXPIRY (04 R67). -/
def execHoldTimerExpiry (station : Nat) (s : State) : Result := .next (s.holdAged station)

end Sys2Proof.Machine
end

