-- ==== Sys2Proof/Machine/RoomLine.lean ====
section
/-! DEFINITION. The room line interface (03): starting, losing, failing and completing own frames, taking and
discarding frames, the stuck line and the duplicate-report timer. -/

namespace Sys2Proof.Machine

namespace State

/-- The receiver runs (03 R63, R64): not in DORMANT nor WAKING. -/
def receiving (s : State) : Bool := s.clocked

/-- The part state allows transmission (03 R63). -/
def mayTransmit (s : State) : Bool :=
  match s.rest.part with
  | .active => true
  | .standby => true
  | .settling => true
  | .unset => false
  | .dormant => false
  | .waking => false

/-- The slot the local order chooses (03 R53): DONE, then TALK/CLAIM, then BEACON. -/
def chooseSlot (s : State) : Option SlotName :=
  if s.line.doneSlot.frame.isSome then some .done
  else if s.line.talkSlot.frame.isSome then some .talk
  else if s.line.beaconSlot.frame.isSome then some .beacon
  else none

/-- The idle count a start needs (03 R53, R57). -/
def gapNeeded (s : State) : Nat :=
  Config.idleGap + if s.line.backoff then s.timebase.station else 0

/-- The slot whose frame starts at a boundary with this idle count, if one does (03 R53). -/
def startsNow (s : State) (idle : Nat) : Option SlotName :=
  if s.mayTransmit = true ∧ s.line.receiver = .idle ∧ s.line.onLine = none ∧ s.gapNeeded ≤ idle then
    s.chooseSlot
  else none

end State

/-- The receiver's state after a start edge (03 R46): in IDLE the edge begins a frame. -/
def Receiver.atEdge : Receiver → Receiver
  | .hunt => .hunt
  | .idle => .frame
  | .frame => .frame

/-- The receiver's state at an idle count (03 R46, R49): a count of 11 ends HUNT. It discards the frame of FRAME, and
the HUNT that the discard enters with the count as it stands is over at once, since the next character is the first
after an idle gap. -/
def Receiver.atCount (receiver : Receiver) (idle : Nat) : Receiver :=
  match receiver with
  | .hunt => if Config.idleGap ≤ idle then .idle else .hunt
  | .idle => .idle
  | .frame => if Config.idleGap ≤ idle then .idle else .frame

namespace State

/-- The line goes from recessive to dominant (03 R46, R61): the idle count is 0, the line-stuck timer starts from 0,
and a spell reported before is over. -/
def edgeSeen (s : State) : State :=
  s.setLine { s.line with
    receiver := s.line.receiver.atEdge, idleCount := 0, stuckTimer := some 0, stuckLatch := false }

/-- The line has been recessive for `idle` whole bit times (03 R46, R49, R61): the receiver's state and the count, which
saturates, are those of the count shown (log 16). A frame that the eleventh bit time discards leaves no characters, and
a recessive bit time stops the line-stuck timer and clears its latch. -/
def countShown (s : State) (idle : Nat) : State :=
  s.setLine { s.line with
    receiver := s.line.receiver.atCount idle, idleCount := min Config.idleCountMax idle,
    chars := if s.line.receiver = .frame ∧ Config.idleGap ≤ idle then [] else s.line.chars,
    stuckTimer := if 0 < idle then none else s.line.stuckTimer,
    stuckLatch := if 0 < idle then false else s.line.stuckLatch }

/-- A boundary at which no frame of the own starts (03 R46, R53): the count it shows, and then the edge if there is
one. -/
def boundaryPassed (s : State) (idle : Nat) (edge : Bool) : State :=
  if edge then (s.countShown idle).edgeSeen else s.countShown idle

/-- FRAME_START's effect (03 R53): the start bit, in step with another station's edge if there is one, begins a frame
for the own receiver too. -/
def frameStarted (s : State) (idle : Nat) (edge : Bool) : State :=
  if s.receiving then
    match s.startsNow idle with
    | some name =>
        s.setLine { s.line with
          onLine := some name, backoff := false, receiver := .frame, idleCount := 0, chars := [],
          stuckTimer := some 0, stuckLatch := false }
    | none => s.boundaryPassed idle edge
  else s

/-- A slot whose attempt on the line has ended without transmission: the next frame replaces the frame
(03 R52). -/
def slotRetry (slot : Slot) : Slot :=
  match slot.next with
  | some f => { slot with frame := some f, next := none }
  | none => slot

/-- A slot whose frame has left it: the next frame becomes the slot's frame with count 0 (03 R58, R59). -/
def slotNext (slot : Slot) : Slot := { frame := slot.next, next := none, failures := 0 }

/-- LOSS's effect (03 R54, R55): the line's first two characters form a lower number than the own frame's. The
receiver goes on with the winner's frame; its stop bits were recessive (R61). -/
def lossTaken (s : State) (first second : Byte) : State :=
  match s.line.onLine with
  | none => s
  | some name =>
      match (s.slotAt name).frame with
      | none => s
      | some f =>
          if numberOf [first, second] < f.precedence s.timebase.station then
            let s' := s.setSlot name (slotRetry (s.slotAt name))
            s'.setLine { s'.line with
              onLine := none, receiver := .frame, chars := [first, second], idleCount := 0,
              stuckTimer := none, stuckLatch := false }
          else s

/-- The abandon run count after an abandonment, with the isolate report at 3 (03 R59, R62). -/
def countAbandon (s : State) : State :=
  if s.line.abandonRun < 3 then
    let s' := s.setLine { s.line with abandonRun := s.line.abandonRun + 1 }
    if s.line.abandonRun = 2 then s'.isolateReport else s'
  else s

/-- A frame is abandoned (03 R59): record, owner told, run count. -/
def abandonFrame (s : State) (name : SlotName) (kind : FrameKind) : State :=
  (((s.setSlot name (slotNext (s.slotAt name))).offer (.lineAbandoned kind)).floorAbandoned
    kind).countAbandon

/-- TRANSMIT_FAILURE's effect (03 R56). -/
def transmitFailed (s : State) : State :=
  match s.line.onLine with
  | none => s
  | some name =>
      let slot := s.slotAt name
      let s1 := s.breakFrame
      let s2 := s1.setLine { s1.line with backoff := true }
      match slot.frame with
      | none => s2
      | some f =>
          if Config.failureLimit ≤ slot.failures + 1 then
            (s2.abandonFrame name f.kind).followUp
          else s2.setSlot name (slotRetry { slot with failures := slot.failures + 1 })

/-- FRAME_TRANSMITTED's effect (03 R58): slot, run count, owner, line-good report. -/
def frameSent (s : State) : State :=
  match s.line.onLine with
  | none => s
  | some name =>
      let slot := s.slotAt name
      let s1 := s.setSlot name (slotNext slot)
      let s2 := s1.setLine { s1.line with
        onLine := none, receiver := .hunt, idleCount := 0, chars := [], abandonRun := 0,
        stuckTimer := none, stuckLatch := false }
      match slot.frame with
      | none => s2
      | some f => ((s2.floorSent f.kind).lineGood).followUp

/-- A BEACON is handed to the roster unit (05 R92): age timer 3 × B. -/
def hearBeacon (s : State) (station : Nat) (kind : MachineKind) (availability : Availability)
    (zone minutes : Nat) : State :=
  s.setRoster { s.roster with
    records := putPeer { station := station, kind := kind, availability := availability,
                         zone := zone, minutes := minutes,
                         age := 30 * s.settings.beaconPeriod } s.roster.records }

/-- A foreign frame is handed on (03 R50). -/
def handOn (s : State) (h : Heard) : State :=
  match h.frame with
  | .claim key mask => s.hearClaim h.station key mask
  | .talk key mask length => s.hearTalk h.station key mask length
  | .done => s.hearDone h.station
  | .beacon kind availability zone minutes =>
      s.hearBeacon h.station kind availability zone minutes

/-- A frame with the own station number that this station is not sending (03 R51). -/
def duplicateTaken (s : State) : State :=
  if s.roster.duplicateTimer = none then
    (s.offer .lineDuplicate).setRoster { s.roster with
      duplicateTimer := some Config.duplicatePeriod }
  else s

/-- The frame that is being transmitted (03 R53). -/
def ownFrame (s : State) : Option LineFrame :=
  match s.line.onLine with
  | none => none
  | some name => (s.slotAt name).frame

/-- The transmit output in bit time `n` of the frame that is being transmitted, from its start on (03 R44): the levels
of its characters one after another, and recessive after them and when nothing is sent. -/
def transmitOut (s : State) (n : Nat) : LineLevel :=
  match s.ownFrame with
  | none => .recessive
  | some f =>
      match (f.chars s.timebase.station)[n / 10]? with
      | none => .recessive
      | some c => (charLevels c).getD (n % 10) .recessive

/-- The characters are those of the frame this station is sending. -/
def isOwnFrame (s : State) (chars : List Byte) : Bool :=
  match s.ownFrame with
  | none => false
  | some f => f.chars s.timebase.station == chars

/-- The receiver after a frame: HUNT, counting from the last stop bit (03 R46). A recessive stop bit ends a
dominant spell (03 R61). -/
def toHunt (s : State) (idle : Nat) : State :=
  s.setLine { s.line with
    receiver := .hunt, idleCount := idle, chars := [], stuckTimer := none, stuckLatch := false }

/-- A frame taken (03 R50, R51): the own frame, a duplicate, or a foreign frame, which is a line-good report
first (04 R89). -/
def takeHeard (s : State) (h : Heard) (own : Bool) : State :=
  if own then s
  else if h.station = s.timebase.station then s.duplicateTaken
  else ((s.lineGood).handOn h).followUp

/-- FRAME_RECEIVED's effect (03 R46, R49, R50, R51). -/
def frameHeard (s : State) (chars : List Byte) : State :=
  if s.receiving then
    match s.line.receiver with
    | .hunt => s.toHunt 0
    | .idle =>
        match takeFrame chars with
        | some h => (s.toHunt 0).takeHeard h (s.isOwnFrame chars)
        | none => s.toHunt 0
    | .frame =>
        match takeFrame chars with
        | some h => (s.toHunt 0).takeHeard h (s.isOwnFrame chars)
        | none => s.toHunt 0
  else s

/-- The receiver has read characters of a frame and no fault yet; the last stop bit was recessive (03 R61). -/
def assembling (s : State) (chars : List Byte) : State :=
  s.setLine { s.line with
    receiver := .frame, chars := chars, idleCount := 0, stuckTimer := none, stuckLatch := false }

/-- RECEIVE_FAULT's effect (03 R49). A dominant stop bit leaves the idle count at 0 and the line-stuck timer running;
the eleventh recessive bit time leaves the count at 11, and the receiver in HUNT until the count is shown (log 35). -/
def faultReceived (s : State) (chars : List Byte) (ending : RxEnd) : State :=
  if s.receiving = true ∧ s.line.receiver ≠ .hunt then
    match ending with
    | .character => if contentFault chars then s.toHunt 0 else s.assembling chars
    | .framing =>
        s.setLine { s.line with
          receiver := .hunt, idleCount := 0, chars := [],
          stuckTimer := some (s.line.stuckTimer.getD 0) }
    | .gap => s.toHunt Config.idleGap
  else s

/-- IDLE_GAP's effect (03 R46): a count of 11 at least is shown. -/
def gapReached (s : State) : State :=
  if s.receiving then s.countShown (max s.line.idleCount Config.idleGap) else s

/-- LINE_STUCK's effect (03 R61): the line-stuck timer has reached 1 s and the latch is clear. The spell's characters
are no frame. -/
def lineHeld (s : State) : State :=
  if s.receiving = true ∧ s.line.stuckTimer = some Config.stuckLimit ∧ s.line.stuckLatch = false then
    (((s.setLine { s.line with
        stuckLatch := true, receiver := .hunt, idleCount := 0,
        chars := [] }).offer .lineStuck).isolateReport).followUp
  else s

/-- DUPLICATE_TIMER_EXPIRY's effect (03 R51). -/
def duplicateExpired (s : State) : State :=
  if s.roster.duplicateTimer = some 0 then s.setRoster { s.roster with duplicateTimer := none }
  else s

end State

/-- FRAME_START (03 R53). -/
def execFrameStart (boundary : Boundary) (s : State) : Result :=
  .next (s.frameStarted boundary.idle boundary.edge)

/-- LOSS (03 R54). -/
def execLoss (first second : Byte) (s : State) : Result := .next (s.lossTaken first second)

/-- TRANSMIT_FAILURE (03 R56). -/
def execTransmitFailure (s : State) : Result := .next s.transmitFailed

/-- FRAME_TRANSMITTED (03 R58). -/
def execFrameTransmitted (s : State) : Result := .next s.frameSent

/-- FRAME_RECEIVED (03 R50). -/
def execFrameReceived (chars : List Byte) (s : State) : Result := .next (s.frameHeard chars)

/-- LINE_STUCK (03 R61). -/
def execLineStuck (s : State) : Result := .next s.lineHeld

/-- DUPLICATE_TIMER_EXPIRY (03 R51). -/
def execDuplicateTimerExpiry (s : State) : Result := .next s.duplicateExpired

/-- IDLE_GAP (03 R46). -/
def execIdleGap (s : State) : Result := .next s.gapReached

/-- RECEIVE_FAULT (03 R49). -/
def execReceiveFault (chars : List Byte) (ending : RxEnd) (s : State) : Result :=
  .next (s.faultReceived chars ending)

end Sys2Proof.Machine
end

