-- ==== Sys2Proof/Machine/RosterUnit.lean ====
section
/-! DEFINITION. The roster unit's timers (05). BEACONs heard are taken in RoomLine.lean. -/

namespace Sys2Proof.Machine

namespace State

/-- BEACON_TIMER_EXPIRY's effect (05 R95). -/
def beaconExpired (s : State) : State :=
  if s.roster.beaconTimer = some 0 then s.sendBeacon else s

/-- ROSTER_AGE_EXPIRY's effect (05 R93). -/
def peerAged (s : State) (station : Nat) : State :=
  if s.roster.records.any fun r => r.station == station && r.age == 0 then
    s.setRoster { s.roster with records := dropPeer station s.roster.records }
  else s

end State

/-- BEACON_TIMER_EXPIRY (05 R95). -/
def execBeaconTimerExpiry (s : State) : Result := .next s.beaconExpired

/-- ROSTER_AGE_EXPIRY (05 R93). -/
def execRosterAgeExpiry (station : Nat) (s : State) : Result := .next (s.peerAged station)

end Sys2Proof.Machine
end

