-- ==== Sys2Proof/Machine/AgendaUnit.lean ====
section
/-! DEFINITION. The timers of the agenda (01, 02): the 1 s tick, the cadence timer and the expiry timer. The
1 ms and 100 ms ticks, which have no row of their own, stand in Timebase.lean. -/

namespace Sys2Proof.Machine

/-- A timer counts down; one that has run out stays at 0 until its expiry is taken. -/
def countDown (timer : Option Nat) : Option Nat := timer.map (· - 1)

/-- A timer counts up to a limit. -/
def countUp (limit : Nat) (timer : Option Nat) : Option Nat := timer.map fun n => min limit (n + 1)

/-- An entry on the 1 s tick (02 R27, R34). -/
def Entry.second (e : Entry) : Entry :=
  { e with
    wait := if e.state = .ready ∨ e.state = .bidding then min 255 (e.wait + 1) else e.wait,
    cadence := countDown e.cadence }

/-- The credit after a cadence expiry (02 R35); the timer reloads with I. -/
def Entry.cadenceStep (e : Entry) : Entry :=
  if 0 < e.ahead then { e with cadence := some e.post.interval, ahead := e.ahead - 1 }
  else if e.owed < 8 then { e with cadence := some e.post.interval, owed := e.owed + 1 }
  else { e with cadence := some e.post.interval }

namespace State

/-- The timers and counts that the 1 s tick steps (02 R27, R34, R38, 03 R51, 05 R95, 09 R162, 11 R182). -/
def secondCounted (s : State) : State :=
  let s1 := s.setTimebase { s.timebase with seconds := s.timebase.seconds + 1 }
  let s2 := s1.mapEntries Entry.second
  let s3 := s2.setFloor { s2.floor with
    quietAge := if s.floor.holders.isEmpty then min 255 (s.floor.quietAge + 1) else 0 }
  let s4 := s3.setRoster { s3.roster with
    beaconTimer := countDown s.roster.beaconTimer,
    duplicateTimer := countDown s.roster.duplicateTimer }
  let s5 := s4.setPanel { s4.panel with
    sessionTimer := countUp Config.sessionTimeout s.panel.sessionTimer }
  s5.setRest { s5.rest with idleTimer := countUp s.settings.idleTime s.rest.idleTimer }

/-- TICK_1S's effect: the counts, then the agenda's tests (01 R7, R18, 02 R37). The ticks stop with the core
clock (11 R186). -/
def secondTicked (s : State) : State :=
  if s.clocked then s.secondCounted.testEligible.followUp else s

/-- CADENCE_EXPIRY's effect (02 R35, R36, R37): nothing if the timer of the entry has not run out. -/
def cadenceExpired (s : State) (ticket : Nat) : State :=
  match s.agenda.find ticket with
  | some e =>
      if e.cadence = some 0 then
        (s.setAgenda (s.agenda.modify ticket Entry.cadenceStep)).testEligible.followUp
      else s
  | none => s

/-- EXPIRED's effect (01 R21): nothing if the timer of the entry has not run out. -/
def expiryTaken (s : State) (ticket : Nat) : State :=
  match s.agenda.find ticket with
  | some e => if e.expiryTimer = some 0 then (s.retireEntry e .expired).followUp else s
  | none => s

end State

/-- TICK_1S (02 R27). -/
def execTick1s (s : State) : Result := .next s.secondTicked

/-- CADENCE_EXPIRY (02 R35). -/
def execCadenceExpiry (ticket : Nat) (s : State) : Result := .next (s.cadenceExpired ticket)

/-- EXPIRED (01 R21). -/
def execExpired (ticket : Nat) (s : State) : Result := .next (s.expiryTaken ticket)

end Sys2Proof.Machine
end

