-- ==== Sys2Proof/Machine/FlashPort.lean ====
section
/-! DEFINITION. The flash port (06 6.1, 6.2): the directory scan, the arbiter and the delivery of reads. -/

namespace Sys2Proof.Machine

/-- The read a program needs, if it waits for one. -/
def Progress.need {σ α : Type} : Progress σ α → Option (Nat × Nat)
  | .done _ => none
  | .needs _ addr len => some (addr, len)

namespace State

/-- The request of a play (06 R106, R107): the lookup's next record read, or else the next part of a fill. -/
def playRequest (s : State) : Option PortRead :=
  match s.renderer.play with
  | none => none
  | some p =>
      match s.renderer.phase with
      | .idle => none
      | .tail => none
      | .fade => none
      | .lead | .item | .gap =>
          match p.ahead with
          | .looking index language replies =>
              ((lookupProgram s.flash.store p index language).resume replies).need.map
                fun (addr, len) => { purpose := .lookup, addr := addr, len := len, wanted := true }
          | .sounds _ | .exhausted =>
              if p.filled < bufferLimit p.stream p.played then
                (fillRead p.stream p.filled (bufferLimit p.stream p.played) 0).map
                  fun (addr, len) => { purpose := .fill, addr := addr, len := len, wanted := true }
              else none

/-- The renderer's request (06 R106): the next record of an estimate, which is made before its play starts (R123),
or else that of the play. -/
def speechRequest (s : State) : Option PortRead :=
  match s.flash.estimate with
  | (addr, len) :: _ => some { purpose := .estimate, addr := addr, len := len, wanted := true }
  | [] => s.playRequest

/-- The compositor's request (08 R144). -/
def composeRequest (s : State) : Option PortRead :=
  match s.display.compose with
  | .idle => none
  | .swapPending => none
  | .composing snap replies =>
      ((composeProgress s.flash.store snap replies).bind Progress.need).map
        fun (addr, len) => { purpose := .compose, addr := addr, len := len, wanted := true }

/-- The request the arbiter grants (06 R106): none while the scan runs or the store is UNUSABLE; speech before
compose. -/
def arbitrate (s : State) : Option PortRead :=
  match s.flash.store with
  | .scanning => none
  | .unusable => none
  | .usable _ => s.speechRequest.or s.composeRequest

/-- FLASH_GRANT's effect (06 R106). -/
def granted (s : State) : State :=
  if s.flash.port = none then s.setFlash { s.flash with port := s.arbitrate } else s

/-- The data of a record read goes to the lookup that asked for it (06 R110, R115). -/
def lookupData (s : State) (data : List Byte) : State :=
  match s.renderer.play with
  | none => s
  | some p =>
      match p.ahead with
      | .looking index language replies =>
          (s.setRenderer { s.renderer with play := some { p with
            ahead := .looking index language (replies ++ [data]) } }).advanceLookup
      | .sounds _ => s
      | .exhausted => s

/-- The data of a fill goes to the speech buffer (06 R107). -/
def fillData (s : State) (data : List Byte) : State :=
  match s.renderer.play with
  | none => s
  | some p =>
      (s.setFlash { s.flash with buffer := writeBuffer s.flash.buffer p.filled data }).setRenderer
        { s.renderer with play := some { p with filled := p.filled + data.length } }

/-- The data of a compose burst goes to the compose in progress (08 R144). -/
def composeData (s : State) (data : List Byte) : State :=
  match s.display.compose with
  | .composing snap replies =>
      (s.setDisplay { s.display with
        compose := .composing snap (replies ++ [data]) }).advanceCompose
  | .idle => s
  | .swapPending => s

/-- The data of a read that is still wanted goes to its requester (06 R105). -/
def deliver (s : State) (purpose : ReadFor) (data : List Byte) : State :=
  match purpose with
  | .directory => s.setFlash { s.flash with scanData := some data }
  | .lookup => s.lookupData data
  | .fill => s.fillData data
  | .estimate => s.setFlash { s.flash with estimate := s.flash.estimate.drop 1 }
  | .compose => s.composeData data

/-- FLASH_READ_DONE's effect (06 R105). -/
def readDone (s : State) : State :=
  match s.flash.port with
  | none => s
  | some r =>
      let s' := s.setFlash { s.flash with port := none }
      if r.wanted then s'.deliver r.purpose (readBytes s.phraseStore r.addr r.len) else s'

/-- DIRECTORY_SCAN's effect (06 R108): after the 1 ms wait the 37 bytes are read from address 0. -/
def scanStarted (s : State) : State :=
  if s.flash.store = .scanning ∧ s.flash.scanWait = some 0 ∧ s.flash.port = none then
    s.setFlash { s.flash with
      scanWait := none,
      port := some { purpose := .directory, addr := 0, len := 37, wanted := true } }
  else s

/-- The store leaves SCANNING (06 R109): the bad directory's record, the session reset after SETUP (09 R163),
the compose that waited (08 R151), and the tests of agenda and floor unit (06 R108). -/
def storeJudged (s : State) (store : Store) : State :=
  let s1 := s.setFlash { s.flash with store := store, scanData := none }
  let s2 := if store.isUsable then s1 else s1.offer .directoryBad
  let s3 := if s2.rest.warm then s2.sessionReset else s2
  s3.advanceCompose.followUp

/-- DIRECTORY_BAD's effect (06 R109): the completed directory read is judged. -/
def directoryJudged (s : State) : State :=
  match s.flash.store, s.flash.scanData with
  | .scanning, some data => s.storeJudged (judgeDirectory data)
  | _, _ => s

end State

/-- DIRECTORY_SCAN (06 R108). -/
def execDirectoryScan (s : State) : Result := .next s.scanStarted

/-- DIRECTORY_BAD (06 R109). -/
def execDirectoryBad (s : State) : Result := .next s.directoryJudged

/-- FLASH_GRANT (06 R106). -/
def execFlashGrant (s : State) : Result := .next s.granted

/-- FLASH_READ_DONE (06 R105). -/
def execFlashReadDone (s : State) : Result := .next s.readDone

end Sys2Proof.Machine
end

