-- ==== Sys2Proof/Machine/SpeechRenderer.lean ====
section
/-! DEFINITION. The speech renderer's steps through a play (06 6.4, 6.5): lead, items, gaps, tail, fade and the
drop of the amplifier enable. Starting and stopping a play stand in Ops.lean. -/

namespace Sys2Proof.Machine

/-- The current item of a play. -/
def Play.current (p : Play) : Option Item := p.items[p.index]?

/-- The lookup of the next item is still under way (06 R115). -/
def Play.isLooking (p : Play) : Bool :=
  match p.ahead with
  | .looking _ _ _ => true
  | .sounds _ => false
  | .exhausted => false

/-- The ending of a play whose tail runs out (06 R118): cut when its stop request is CUT, and otherwise completed. -/
def Play.tailEnding (p : Play) : PlayEnding := if p.stop = .cut then .cut else .completed

namespace State

/-- The play context while the renderer is in a phase. -/
def playIn (s : State) (phase : Phase) : Option Play :=
  if s.renderer.phase = phase then s.renderer.play else none

/-- Item `index` begins to sound (06 R112, R113): a tone part goes to the generator (07 R134), a PAUSE loads
the timer and looks up the item after it (R115), and a speech item plays from its stream. -/
def beginItem (s : State) (p : Play) (index : Nat) : State :=
  let s1 := s.setRenderer { s.renderer with phase := .item, play := some { p with index := index } }
  match p.items[index]? with
  | none => s.enterTail
  | some (.tone n) =>
      s1.setLevel { s1.level with tone := some { pattern := n, segment := 0, sample := 0 } }
  | some (.pause n) =>
      (s1.setRenderer { s1.renderer with timer := 800 * n }).startLookup { p with index := index }
        (index + 1)
  | some (.phrase _) => s1
  | some (.number _) => s1
  | some .minutes => s1
  | some (.refer _) => s1

/-- Enter GAP with 80 ms and look up the next item that sounds (06 R113, R115). -/
def enterGap (s : State) (p : Play) : State :=
  (s.setRenderer { s.renderer with phase := .gap, timer := Config.gapSamples }).startLookup p
    (p.index + 1)

/-- An item of a kind ends (06 R113): CUT and the end of the items lead to the tail, the item after a PAUSE
plays at once, and a gap stands before any other. -/
def endItem (s : State) (p : Play) (kind : ItemKind) : State :=
  let q := { p with lastPlayed := some kind }
  let s1 := s.setRenderer { s.renderer with play := some q }
  if p.stop = .cut then s1.enterTail
  else
    match kind, p.ahead with
    | .pause, .sounds index => s1.beginItem q index
    | .pause, .exhausted => s1.enterTail
    | .pause, .looking _ _ _ => s1
    | .tone, _ => s1.enterGap q
    | .speech, _ => s1.enterGap q

/-- LEAD_EXPIRY's effect (06 R111): the timer has run out, and the first item that sounds begins. -/
def leadExpired (s : State) : State :=
  match s.playIn .lead with
  | none => s
  | some p =>
      if s.renderer.timer = 0 then
        match p.ahead with
        | .sounds index => s.beginItem p index
        | .exhausted => s.enterTail
        | .looking _ _ _ => s
      else s

/-- The current item has sounded to its end: every sample of a speech item (06 R113), the whole pattern of a
tone part (07 R134), or the length of a PAUSE. -/
def itemOver (s : State) (p : Play) (kind : ItemKind) : Bool :=
  match p.current with
  | none => false
  | some item =>
      item.kind == kind &&
        match kind with
        | .speech => decide (streamLength p.stream ≤ p.played)
        | .tone =>
            match s.level.tone with
            | some t => t.value.isNone
            | none => false
        | .pause => s.renderer.timer == 0 && (p.stop == .cut || !p.isLooking)

/-- The current item of a kind ends, if it is over; the tone generator returns to idle (07 R134). -/
def itemEnded (s : State) (kind : ItemKind) : State :=
  match s.playIn .item with
  | none => s
  | some p =>
      if s.itemOver p kind then (s.setLevel { s.level with tone := none }).endItem p kind else s

/-- ITEM_END's effect (06 R113). -/
def speechItemEnded (s : State) : State := s.itemEnded .speech

/-- PATTERN_END's effect (07 R134). -/
def patternEnded (s : State) : State := s.itemEnded .tone

/-- PAUSE_EXPIRY's effect (06 R113). -/
def pauseExpired (s : State) : State := s.itemEnded .pause

/-- GAP_EXPIRY's effect (06 R113). -/
def gapExpired (s : State) : State :=
  match s.playIn .gap with
  | none => s
  | some p =>
      if s.renderer.timer = 0 then
        match p.ahead with
        | .sounds index => s.beginItem p index
        | .exhausted => s.enterTail
        | .looking _ _ _ => s
      else s

/-- The renderer in IDLE, its play context discarded (06 R120). -/
def rendererIdle (s : State) (enable : Bool) (dropTimer : Option Nat) : State :=
  s.setRenderer { s.renderer with
    phase := .idle, timer := 0, play := none, enable := enable, dropTimer := dropTimer }

/-- The renderer gives its end report to the floor unit and the agenda (06 R120). -/
def endReported (s : State) (report : EndReport) : State :=
  (s.setRenderer { s.renderer with report := some report }).playEnded report

/-- TAIL_EXPIRY's effect (06 R120): the enable drops and the play ends. -/
def tailExpired (s : State) : State :=
  match s.playIn .tail with
  | none => s
  | some p =>
      if s.renderer.timer = 0 then
        (s.rendererIdle false none).endReported { ticket := p.ticket, ending := p.tailEnding }
      else s

/-- FADE_EXPIRY's effect (06 R119, R120): the play ends faded, and the enable drops 10 ms later. -/
def fadeExpired (s : State) : State :=
  match s.playIn .fade with
  | none => s
  | some p =>
      if s.renderer.timer = 0 then
        (s.rendererIdle true (some Config.leadSamples)).endReported
          { ticket := p.ticket, ending := .faded }
      else s

/-- ENABLE_DROP's effect (06 R120): 10 ms after a fade with no new play. -/
def enableDropped (s : State) : State :=
  if s.renderer.dropTimer = some 0 then
    s.setRenderer { s.renderer with enable := false, dropTimer := none }
  else s

end State

/-- LEAD_EXPIRY (06 R111). -/
def execLeadExpiry (s : State) : Result := .next s.leadExpired

/-- ITEM_END (06 R113). -/
def execItemEnd (s : State) : Result := .next s.speechItemEnded

/-- PATTERN_END (07 R134). -/
def execPatternEnd (s : State) : Result := .next s.patternEnded

/-- GAP_EXPIRY (06 R113). -/
def execGapExpiry (s : State) : Result := .next s.gapExpired

/-- PAUSE_EXPIRY (06 R113). -/
def execPauseExpiry (s : State) : Result := .next s.pauseExpired

/-- TAIL_EXPIRY (06 R120). -/
def execTailExpiry (s : State) : Result := .next s.tailExpired

/-- FADE_EXPIRY (06 R119). -/
def execFadeExpiry (s : State) : Result := .next s.fadeExpired

/-- ENABLE_DROP (06 R120). -/
def execEnableDrop (s : State) : Result := .next s.enableDropped

end Sys2Proof.Machine
end

