-- ==== Sys2Proof/Machine/LevelUnit.lean ====
section
/-! DEFINITION. Level control (07): what one sample period does, and the end of an ambient window. -/

namespace Sys2Proof.Machine

namespace State

/-- The phrase sample a speech item plays next, if its stream has one (06 R107, 12 R191). -/
def nextSample (s : State) (p : Play) : Option Int :=
  if p.played < streamLength p.stream then
    some (s.flash.buffer.getD (p.played % 256) 0).toInt
  else none

/-- What the current item passes to the scaler in this period: a sample times 16 (07 R132), a tone value
(R133), or silence. -/
def itemValue (s : State) (p : Play) : Option Int :=
  match p.current.map Item.kind with
  | some .speech => (s.nextSample p).map (· * 16)
  | some .tone => s.level.tone.bind ToneCtx.value
  | some .pause => none
  | none => none

/-- The code written to the DAC in this period (07 R124). In FADE the output is the ramp's: with 160 periods
left it is the first (06 R119). -/
def dacNow (s : State) : Nat :=
  if s.sounding then
    match s.renderer.phase, s.renderer.play with
    | .item, some p =>
        match s.itemValue p with
        | some value => dacCode s.level.gain value
        | none => Config.dacCentre
    | .fade, some p => fadeCode p.fadeFrom (Config.fadeSamples - (s.renderer.timer - 1))
    | _, _ => Config.dacCentre
  else Config.dacCentre

/-- The inter-token timer runs in this period (06 6.4). -/
def timerRuns (s : State) : Bool :=
  match s.renderer.phase with
  | .lead | .gap | .tail | .fade => true
  | .item => (s.renderer.play.bind Play.current).map Item.kind == some .pause
  | .idle => false

/-- The play context after this period: a speech item has played one more sample. -/
def playStepped (s : State) (p : Play) : Play :=
  if s.renderer.phase = .item ∧ p.current.map Item.kind = some .speech ∧
      p.played < streamLength p.stream then
    { p with played := p.played + 1 }
  else p

/-- The renderer after this period. -/
def rendererStepped (s : State) : Renderer :=
  { s.renderer with
    timer := if s.timerRuns then s.renderer.timer - 1 else s.renderer.timer,
    play := s.renderer.play.map s.playStepped,
    dropTimer := countDown s.renderer.dropTimer }

/-- Level control after this period, in the window it stands in (07 R124, R125, R127, R134). -/
def levelStepped (s : State) (adc : BitVec 8) : LevelControl :=
  { s.level with
    dac := s.dacNow,
    tone := s.level.tone.map ToneCtx.advance,
    count := s.level.count + 1,
    sum := s.level.sum + adc.toInt.natAbs,
    soundingSeen := s.level.soundingSeen || s.sounding,
    holderSeen := s.level.holderSeen || !s.floor.holders.isEmpty }

/-- A valid window replaces Amb while the part is UNSET or ACTIVE (07 R127). -/
def windowCounts (s : State) : Bool :=
  !s.level.soundingSeen && !s.level.holderSeen &&
    (s.rest.part == .unset || s.rest.part == .active)

/-- AMBIENT_WINDOW_END's effect (07 R125, R126, R127): level, validity, and the next window. -/
def windowEnded (s : State) : State :=
  if s.level.count = Config.windowSamples then
    let a := levelOfMean (s.level.sum / Config.windowSamples)
    s.setLevel { s.level with
      lastLevel := a, amb := if s.windowCounts then a else s.level.amb,
      count := 0, sum := 0, soundingSeen := false, holderSeen := false }
  else s

/-- SAMPLE_PERIOD's effect (07 R124, R125). A full window that has not been ended ends first (log 25). The
sample clocks stop with the core clock (11 R186). -/
def sampleTaken (s : State) (adc : BitVec 8) : State :=
  if s.clocked then
    let s' := s.windowEnded
    (s'.setLevel (s'.levelStepped adc)).setRenderer s'.rendererStepped
  else s

end State

/-- SAMPLE_PERIOD (07 R124). -/
def execSamplePeriod (adc : BitVec 8) (s : State) : Result := .next (s.sampleTaken adc)

/-- AMBIENT_WINDOW_END (07 R127). -/
def execAmbientWindowEnd (s : State) : Result := .next s.windowEnded

end Sys2Proof.Machine
end

