-- ==== Sys2Proof/Machine/DisplayUnit.lean ====
section
/-! DEFINITION. The compositor and the display port (08): the end of a compose and the frame boundary. The
causes and the drawing stand in Ops.lean and Draw.lean. -/

namespace Sys2Proof.Machine

/-- A program has run to its end. -/
def Progress.isDone {σ α : Type} : Progress σ α → Bool
  | .done _ => true
  | .needs _ _ _ => false

namespace State

/-- The compose in progress has drawn its last item (08 R142). -/
def composeOver (s : State) : Bool :=
  match s.display.compose with
  | .composing snap replies =>
      (composeProgress s.flash.store snap replies).any Progress.isDone
  | .idle => false
  | .swapPending => false

/-- COMPOSE_END's effect (08 R142). -/
def composeEnded (s : State) : State :=
  if s.composeOver then s.setDisplay { s.display with compose := .swapPending } else s

/-- A pending swap is carried out, and a flagged recompose starts (08 R139). -/
def swapped (s : State) : State :=
  if s.display.compose = .swapPending then
    let s' := s.setDisplay { s.display with
      front := s.display.back, back := s.display.front, compose := .idle, recompose := false }
    if s.display.recompose then s'.startCompose else s'
  else s

/-- The blink count and phase step (08 R137). -/
def blinkStepped (s : State) : State :=
  if s.display.frameCount + 1 < Config.blinkFrames then
    s.setDisplay { s.display with frameCount := s.display.frameCount + 1 }
  else s.setDisplay { s.display with frameCount := 0, blinkOn := !s.display.blinkOn }

/-- FRAME_BOUNDARY's effect (08 R138): boundaries occur in ACTIVE only. The frame sent from here on is
`State.frameStream` of the state it leaves, bit by bit on `State.displayPins`. -/
def frameBegun (s : State) : State :=
  if s.rest.part = .active then s.swapped.blinkStepped else s

end State

/-- COMPOSE_END (08 R142). -/
def execComposeEnd (s : State) : Result := .next s.composeEnded

/-- FRAME_BOUNDARY (08 R138). -/
def execFrameBoundary (s : State) : Result := .next s.frameBegun

end Sys2Proof.Machine
end

