-- ==== Sys2Proof/Machine/PanelUnit.lean ====
section
/-! DEFINITION. The panel monitor (09): the samples of the eight lines, key presses, door edges, presence and
the session timer. -/

namespace Sys2Proof.Machine

/-- A role that is an enabled wake source (09 R164). -/
def WakeSources.wakesOn (set : WakeSources) : Role → Bool
  | .door => set.door
  | .presence => set.presence
  | .unused => false
  | .repeatKey => false
  | .language => false
  | .acknowledge => false
  | .keyOther => false

/-- A REPEAT press names the entry that most recently began a play (09 R157): the replay flag is set if it is
WAITING or READY. -/
def Entry.replayPressed (e : Entry) : Entry :=
  match e.state with
  | .waiting => { e with replay := true }
  | .ready => { e with replay := true }
  | .bidding => e
  | .playing => e

/-- The entry's retire-on matches a door edge (01 R23). -/
def RetireOn.matchesEdge : RetireOn → Door → Bool
  | .doorOpens, .opened => true
  | .doorCloses, .closed => true
  | .doorOpens, .closed => false
  | .doorCloses, .opened => false
  | .never, _ => false
  | .ackKey, _ => false

namespace State

/-- The role of a line. -/
def roleOf (s : State) (line : Nat) : Role := s.settings.roles.getD line .unused

/-- A line is sampled in this part state (09 R164). -/
def isSampled (s : State) (line : Nat) : Bool :=
  match s.rest.part with
  | .unset => true
  | .active => true
  | .standby => true
  | .settling => true
  | .dormant => s.settings.wakeSources.wakesOn (s.roleOf line)
  | .waking => s.settings.wakeSources.wakesOn (s.roleOf line)

/-- The filter of a line. -/
def filterOf (s : State) (line : Nat) : LineFilter :=
  s.panel.filters.getD line { level := .low, count := 0, primed := false }

/-- The filters of all sampled lines step (09 R154). -/
def filtersStepped (s : State) (levels : BitVec 8) : State :=
  s.setPanel { s.panel with
    filters := (List.range 8).map fun k =>
      if s.isSampled k then (s.filterOf k).take (sampledLevel levels k) else s.filterOf k }

/-- A running idle timer goes back to 0 (11 R182). -/
def idleRestarted (s : State) : State :=
  s.setRest { s.rest with idleTimer := s.rest.idleTimer.map fun _ => 0 }

/-- A running session timer goes back to 0 (09 R156, R162). -/
def sessionRestarted (s : State) : State :=
  s.setPanel { s.panel with sessionTimer := s.panel.sessionTimer.map fun _ => 0 }

/-! ### Keys -/

/-- A REPEAT press (09 R157, 02 R42). -/
def repeatPressed (s : State) : State :=
  match latestPlayed s.agenda.entries with
  | some e => (s.setAgenda (s.agenda.modify e.ticket Entry.replayPressed)).testEligible
  | none => s

/-- The PLAYING entry, if there is one, is interrupted by a cut (01 R9, 09 R158). -/
def interruptPlaying (s : State) : State :=
  match s.agenda.playing with
  | some e => s.stopEntry e.ticket .interrupt .cut
  | none => s

/-- A LANGUAGE press (09 R158). -/
def languagePressed (s : State) : State :=
  let language := nextLanguage s.flash.store s.panel.language
  if language = s.panel.language then s
  else (s.setPanel { s.panel with language := language }).interruptPlaying.cause

/-- The entry an ACKNOWLEDGE press names (01 R23, 09 R159). -/
def acknowledged (s : State) : Option Entry :=
  match s.agenda.entries.find? fun e => e.state == .playing && e.post.retireOn == .ackKey with
  | some e => some e
  | none =>
      match s.agenda.owner with
      | .entry ticket => (s.agenda.find ticket).filter fun e => e.post.retireOn == .ackKey
      | .basePage _ => none
      | .builtIn => none

/-- An ACKNOWLEDGE press (09 R159). -/
def acknowledgePressed (s : State) : State :=
  match s.acknowledged with
  | some e => s.retireEntry e .acknowledged
  | none => s

/-- The effect that a key's role gives a press (09 R156). -/
def keyEffect (s : State) : Role → State
  | .repeatKey => s.repeatPressed
  | .language => s.languagePressed
  | .acknowledge => s.acknowledgePressed
  | .keyOther => s
  | .unused => s
  | .door => s
  | .presence => s

/-- A press event of a line (09 R156): the return from STANDBY, the record, the timers, and the role's
effect. -/
def pressed (s : State) (line : Nat) : State :=
  ((((s.returnActive.offer (.key line (s.roleOf line))).sessionRestarted).idleRestarted).keyEffect
    (s.roleOf line)).followUp

/-- The key group is judged after a sample (09 R155). In DORMANT and WAKING its lines are not sampled and no
press occurs (R164). -/
def keysJudged (s : State) : State :=
  if s.clocked then
    match s.panel.keyDown s.settings with
    | none => s.setPanel { s.panel with keysAtRest := true }
    | some line =>
        if s.panel.keysAtRest then (s.setPanel { s.panel with keysAtRest := false }).pressed line
        else s
  else s

/-! ### Door and presence -/

/-- A door edge or an arrival is reported to rest control as a wake (11 R187): in DORMANT, the first of
them. -/
def reportWake (s : State) (source : WakeSource) : State :=
  if s.rest.part = .dormant ∧ s.rest.wakeReport = none then
    s.setRest { s.rest with wakeReport := some source }
  else s

/-- A door edge of a line (09 R160). -/
def doorEdge (s : State) (line : Nat) (door : Door) : State :=
  let s1 := s.returnActive
  let s2 := (s1.setPanel { s1.panel with door := door }).offer (.door line door)
  let s3 := s2.idleRestarted.retireAll .satisfied
    (s2.agenda.entries.filter fun e => e.post.retireOn.matchesEdge door)
  (s3.reportWake .door).followUp

/-- The door state that a line's filtered level shows (09 R153). -/
def doorShown (s : State) (line : Nat) : Door :=
  if s.panel.atRest s.settings line then .closed else .opened

/-- The door is judged after a sample (09 R160). -/
def doorJudged (s : State) : State :=
  match s.settings.lineOf .door with
  | none => s
  | some line => if s.doorShown line = s.panel.door then s else s.doorEdge line (s.doorShown line)

/-- An arrival (09 R161): the gate opens, and the WAITING entries are tested (02 R39). -/
def arrived (s : State) (line : Nat) : State :=
  let s1 := s.returnActive
  let s2 := (s1.setPanel { s1.panel with presence := .present, sessionTimer := none }).offer
    (.presence line true)
  ((s2.testEligible).reportWake .presence).followUp

/-- The PRESENCE line's filtered level has left rest (09 R161). -/
def presenceLeavesRest (s : State) (line : Nat) : State :=
  match s.panel.presence with
  | .absent => s.arrived line
  | .present => s.setPanel { s.panel with holdTimer := none }

/-- The PRESENCE line's filtered level has returned to rest (09 R161). -/
def presenceReturnsToRest (s : State) : State :=
  match s.panel.presence with
  | .absent => s
  | .present => s.setPanel { s.panel with holdTimer := some (10 * s.settings.presenceHold) }

/-- The presence is judged after a sample (09 R161), from whether its line was at rest before. -/
def presenceJudged (s : State) (line : Nat) (wasAtRest : Bool) : State :=
  match wasAtRest, s.panel.atRest s.settings line with
  | true, false => s.presenceLeavesRest line
  | false, true => s.presenceReturnsToRest
  | true, true => s
  | false, false => s

/-- The panel monitor judges key group, door and presence after all lines have stepped (09 R154), in this
order (log 19). -/
def panelJudged (s : State) (before : Panel) : State :=
  let s' := s.keysJudged.doorJudged
  match s.settings.lineOf .presence with
  | none => s'
  | some line => s'.presenceJudged line (before.atRest s.settings line)

/-- PANEL_SAMPLE's effect (09 R154). -/
def panelSampled (s : State) (levels : BitVec 8) : State :=
  (s.filtersStepped levels).panelJudged s.panel

/-- PRESENCE_HOLD_EXPIRY's effect (09 R161, 02 R39). -/
def presenceHoldExpired (s : State) : State :=
  if s.panel.holdTimer = some 0 ∧ s.panel.presence = .present then
    let s1 := (s.setPanel { s.panel with
      presence := .absent, holdTimer := none, sessionTimer := some 0 }).offer
        (.presence ((s.settings.lineOf .presence).getD 0) false)
    s1.closeGate.followUp
  else s

/-- The session timer stops (09 R162, R163). -/
def sessionStopped (s : State) : State := s.setPanel { s.panel with sessionTimer := none }

/-- SESSION_TIMEOUT's effect (09 R162, R163): the timer has counted 120 s. -/
def sessionTimedOut (s : State) : State :=
  if s.panel.sessionTimer = some Config.sessionTimeout then s.sessionReset.sessionStopped else s

/-! ### Panel states taken from the filtered levels (09 R153, R164) -/

/-- The key-group at-rest flag from the filtered levels. -/
def keysTaken (s : State) : State :=
  s.setPanel { s.panel with keysAtRest := (s.panel.keyDown s.settings).isNone }

/-- The door state from the filtered level, without report; CLOSED with no DOOR line. -/
def doorTaken (s : State) : State :=
  match s.settings.lineOf .door with
  | none => s.setPanel { s.panel with door := .closed }
  | some line => s.setPanel { s.panel with door := s.doorShown line }

/-- The presence state from the filtered level, without report; PRESENT with no PRESENCE line. -/
def presenceTaken (s : State) : State :=
  match s.settings.lineOf .presence with
  | none => s.setPanel { s.panel with presence := .present }
  | some line =>
      s.setPanel { s.panel with
        presence := if s.panel.atRest s.settings line then .absent else .present }

/-- The session timer starts from 0 if the presence state is ABSENT, and is stopped otherwise (09 R153,
R162, R164). -/
def sessionStarted (s : State) : State :=
  s.setPanel { s.panel with
    sessionTimer := match s.panel.presence with
                    | .absent => some 0
                    | .present => none }

end State

/-- PANEL_SAMPLE (09 R154). -/
def execPanelSample (levels : BitVec 8) (s : State) : Result := .next (s.panelSampled levels)

/-- PRESENCE_HOLD_EXPIRY (09 R161). -/
def execPresenceHoldExpiry (s : State) : Result := .next s.presenceHoldExpired

/-- SESSION_TIMEOUT (09 R162). -/
def execSessionTimeout (s : State) : Result := .next s.sessionTimedOut

end Sys2Proof.Machine
end

