-- ==== Sys2Proof/Machine/RestUnit.lean ====
section
/-! DEFINITION. Rest control (11): the idle timer's expiry, SETTLING, DORMANT entry and the wake. The end of
WAKING, which executes a held request, stands in Timebase.lean. -/

namespace Sys2Proof.Machine

/-- The RESTED records of an entry and its staged successor (01 R24). -/
def Entry.restedRecords (e : Entry) : List EventRecord :=
  .retired e.ticket e.post.topic .rested e.plays ::
    (e.successor.map fun q => EventRecord.retired q.ticket q.post.topic .rested 0).toList

namespace State

/-! ### STANDBY -/

/-- IDLE_TIMER_EXPIRY's effect (11 R182, R183). -/
def idleExpired (s : State) : State :=
  if s.rest.part = .active ∧ s.idleHolds = true ∧ s.rest.idleTimer = some s.settings.idleTime then
    s.enterStandby
  else s

/-! ### SETTLING -/

/-- Offer records one after another. -/
def offerAll (s : State) (records : List EventRecord) : State := records.foldl offer s

/-- Every entry and staged successor retires RESTED (01 R24). -/
def retireRested (s : State) : State :=
  let s' := s.offerAll (s.agenda.entries.flatMap Entry.restedRecords)
  (s'.setAgenda { s'.agenda with entries := [] }).selectOwner

/-- The floor unit at SETTLING entry (04 R90): a DONE for a hold that peers may know of, and IDLE. -/
def floorRested (s : State) : State :=
  match s.floor.ctx with
  | .holding _ hold =>
      if s.floor.isolated = true ∧ hold.announced = false then s.setCtx .idle
      else (s.queueFrame .done .done).setCtx .idle
  | .idle => s
  | .deferring _ => s.setCtx .idle
  | .pending _ => s.setCtx .idle
  | .claiming _ _ => s.setCtx .idle
  | .announcing _ => s.setCtx .idle

/-- SETTLING entry (11 R185). -/
def enterSettling (s : State) : State :=
  let s1 := s.setRest { s.rest with
    part := .settling, idleTimer := none, settlingLimit := some Config.settlingLimit }
  let s2 := (((s1.retireRested).floorRested).removeFrame .talk).removeFrame .beacon
  let s3 := s2.setRoster { s2.roster with beaconTimer := none }
  s3.fadePlay.abortCompose

/-! ### DORMANT -/

/-- The session at DORMANT entry (09 R164): nothing is queued. -/
def panelRested (s : State) : State :=
  s.setPanel { s.panel with
    holdTimer := none,
    presence := if (s.settings.lineOf .presence).isSome then .absent else s.panel.presence,
    language := defaultInUse s.settings s.flash.store, sessionTimer := none }

/-- Level control at DORMANT entry (07 R128, R135). -/
def levelRested (s : State) : State :=
  s.setLevel { s.level with
    count := 0, sum := 0, soundingSeen := false, holderSeen := false, dac := Config.dacCentre,
    tone := none }

/-- The display at DORMANT entry (08 R152). -/
def displayRested (s : State) : State :=
  s.setDisplay { s.display with
    front := Picture.blank, back := Picture.blank, compose := .idle, recompose := false,
    fallback := false }

/-- The floor unit's lists and the roster at DORMANT entry (04 R90, 05 R104); ISOLATED is kept. -/
def listsRested (s : State) : State :=
  (s.setFloor { s.floor with ctx := .idle, claims := [], holders := [], quietAge := 0 }).setRoster
    { records := [], beaconTimer := none, duplicateTimer := none }

/-- The flash port at DORMANT entry: idle with its select released (06 R121). A read still on the port is broken off
(log 41). A directory scan still under way, which 06 R108 rules out by its times, is kept (log 33). -/
def flashRested (s : State) : State :=
  match s.flash.store with
  | .scanning => s
  | .usable _ => s.setFlash { s.flash with port := none, estimate := [] }
  | .unusable => s.setFlash { s.flash with port := none, estimate := [] }

/-- DORMANT entry (11 R186). -/
def enterDormant (s : State) : State :=
  let s1 := s.setRest { s.rest with
    part := .dormant, idleTimer := none, settlingLimit := none, wakeReport := none }
  let s2 := (s1.setLine Line.initial).listsRested
  (((s2.rendererIdle false none).flashRested).levelRested.displayRested).panelRested

/-- The renderer is IDLE with the amplifier enable dropped (11 R185). -/
def speakerAtRest (s : State) : Bool := s.renderer.phase == .idle && !s.renderer.enable

/-- DORMANT_ENTRY's effect (11 R185, R186): the DONE slot is empty and the speaker is at rest. -/
def dormantTaken (s : State) : State :=
  if s.rest.part = .settling ∧ s.line.doneSlot.frame = none ∧ s.speakerAtRest = true then
    s.enterDormant
  else s

/-- SETTLING_LIMIT's effect (11 R185): the limit has run out while the DONE slot still holds a frame, which is
removed and reported. -/
def settlingRanOut (s : State) : State :=
  if s.rest.part = .settling ∧ s.rest.settlingLimit = some 0 ∧
      s.line.doneSlot.frame.isSome = true then
    ((s.removeFrame .done).offer (.lineAbandoned .done)).enterDormant
  else s

/-! ### Wake -/

/-- Rest control takes a wake from a source (11 R187): the record, and WAKING for 5 ms. -/
def wokenBy (s : State) (source : WakeSource) : State :=
  let s1 := s.offer (.woke source)
  (s1.setRest { s1.rest with part := .waking, wakeReport := none }).setTimebase
    { s1.timebase with wakeSettle := some Config.wakeSettle }

/-- The host select has fallen in DORMANT: the transaction it begins is discarded, wherever it ends (10 R169,
11 R187). -/
def selectDiscarded (s : State) : State := s.setHost { s.host with discard := true }

/-- The host select falls in DORMANT with the WAKE pin at a level (11 R187). -/
def selectFell (s : State) (pin : Level) : State :=
  if s.settings.wakeSources.host = true ∧ pin = s.settings.qualifier then
    s.selectDiscarded.wokenBy .host
  else s.selectDiscarded

/-- WAKE's effect (11 R187). An edge or arrival that the panel monitor has reported came first and takes the wake; a
host select that follows it falls in WAKING, and its transaction is the port's (log 20). -/
def wakeTaken (s : State) (event : WakeEvent) : State :=
  if s.rest.part = .dormant then
    match s.rest.wakeReport, event with
    | some source, _ => s.wokenBy source
    | none, .hostSelect pin => s.selectFell pin
    | none, .panelReport => s
  else s

end State

/-- IDLE_TIMER_EXPIRY (11 R182). -/
def execIdleTimerExpiry (s : State) : Result := .next s.idleExpired

/-- SETTLING_LIMIT (11 R185). -/
def execSettlingLimit (s : State) : Result := .next s.settlingRanOut

/-- DORMANT_ENTRY (11 R186). -/
def execDormantEntry (s : State) : Result := .next s.dormantTaken

/-- WAKE (11 R187). -/
def execWake (event : WakeEvent) (s : State) : Result := .next (s.wakeTaken event)

end Sys2Proof.Machine
end

