-- ==== Sys2Proof/Machine/HostPort.lean ====
section
/-! DEFINITION. The host port (10): write and read transactions, and the execution of the request that the
buffer holds, one row of the table for each request. -/

namespace Sys2Proof.Machine

namespace State

/-! ### Responses (10 R168, R169) -/

/-- The request completes: its response is placed in the slot with the overrun flag, which is then cleared, and
the buffer is empty. -/
def respond (s : State) (result : ResultCode) (body : List Byte) : State :=
  s.setHost { s.host with
    request := none, slot := some (responseFrame result s.host.overrun body), overrun := false }

/-- Requests are executed in this part state; in SETTLING, DORMANT and WAKING a request is held (10 R169). -/
def executes (s : State) : Bool :=
  match s.rest.part with
  | .unset => true
  | .active => true
  | .standby => true
  | .settling => false
  | .dormant => false
  | .waking => false

/-- The refusal by the part state (10 R168, second step). -/
def stateRefusal (s : State) (row : RequestRow) : Option ResultCode :=
  match row with
  | .setup => if s.rest.warm then some .alreadySet else none
  | .status => none
  | .roster => none
  | .events => none
  | .post => if s.rest.part = .unset then some .notSet else none
  | .withdraw => if s.rest.part = .unset then some .notSet else none
  | .machine => if s.rest.part = .unset then some .notSet else none
  | .basepage => if s.rest.part = .unset then some .notSet else none
  | .restStandby => if s.rest.part = .unset then some .notSet else none
  | .restDormant => if s.rest.part = .unset then some .notSet else none
  | .restActive => if s.rest.part = .unset then some .notSet else none
  | .sessionEnd => if s.rest.part = .unset then some .notSet else none

/-- The request in the buffer, if it is a row's and requests are executed now. -/
def held (s : State) (row : RequestRow) : Option (List Byte) :=
  if s.executes then s.host.request.filter fun buffer => requestRow buffer == some row else none

/-- Execute the held request of a row: the frame, then the part state, then the request itself (10 R168). -/
def runRequest (s : State) (row : RequestRow) (effect : State → List Byte → State) : State :=
  match s.held row with
  | none => s
  | some buffer =>
      match readRequest buffer with
      | none => s.respond .malformed []
      | some (_, body) =>
          match s.stateRefusal row with
          | some refusal => s.respond refusal []
          | none => effect s body

/-! ### SETUP (11 R180, R181) -/

/-- The floor unit takes the hear mask: records that no longer conflict leave (04 R65). -/
def hearMaskTaken (s : State) : State :=
  s.setFloor { s.floor with
    claims := s.floor.claims.filter fun r => conflicts s.settings.hearMask r.mask,
    holders := s.floor.holders.filter fun r => conflicts s.settings.hearMask r.mask }

/-- The session language takes the default language in use (09 R162). -/
def languageTaken (s : State) : State :=
  s.setPanel { s.panel with language := defaultInUse s.settings s.flash.store }

/-- A SETUP that passes its checks (11 R181). -/
def setUp (s : State) (cfg : Settings) (kind : MachineKind) : State :=
  let s1 := (s.setSettings cfg).setMachine { s.machine with kind := kind }
  let s2 := s1.setRest { s1.rest with warm := true }
  let s3 := (s2.hearMaskTaken.doorTaken.presenceTaken.keysTaken.sessionStarted).languageTaken
  ((s3.enterActive.sendBeacon).followUp).respond .ok []

/-- SETUP's own steps. -/
def setupEffect (s : State) (body : List Byte) : State :=
  match readSetup body with
  | some (cfg, kind) => s.setUp cfg kind
  | none => s.respond .malformed []

/-! ### POST (01 R11 to R16) -/

/-- Admit a POST under the next ticket (01 R2, R3). -/
def admitPost (s : State) (p : Post) : State :=
  (((s.admission p s.agenda.issue).ticketUsed s.agenda.issue).followUp).respond .admitted
    (bytes2 s.agenda.issue)

/-- Stage a POST as the successor of a PLAYING entry (01 R14). -/
def stagePost (s : State) (e : Entry) (p : Post) : State :=
  let s1 := s.retireSuccessor e.successor .replaced
  let s2 := s1.setAgenda (s1.agenda.modify e.ticket fun q => { q with successor := none })
  let ticket := s2.agenda.issue
  let s3 := s2.setAgenda (s2.agenda.modify e.ticket fun q =>
    { q with successor := some { post := p, ticket := ticket } })
  ((s3.stopEntry e.ticket (.retire .replaced) .cut).ticketUsed ticket).respond .staged
    (bytes2 ticket)

/-- The entry that displacement compares (01 R16): the lowest that is neither PLAYING nor BIDDING. -/
def displaced (s : State) : Option Entry :=
  lowestEntry (s.agenda.entries.filter fun e => e.state == .waiting || e.state == .ready)

/-- A POST for a full agenda (01 R16). -/
def displacePost (s : State) (p : Post) : State :=
  match s.displaced with
  | some e =>
      if e.key < urgencyKey p.cls 0 1 false then (s.dropEntry e .displaced).admitPost p
      else s.respond .agendaFull []
  | none => s.respond .agendaFull []

/-- A POST that passes its checks (01 R11): supersede (R12, R13, R14), admission, or displacement. Where one POST retires
an entry and admits another, local plays and candidates are tested once, after the admission (log 39). -/
def posted (s : State) (p : Post) : State :=
  match s.agenda.findTopic p.topic with
  | some e => if e.state = .playing then s.stagePost e p else (s.retireEntry e .replaced).admitPost p
  | none =>
      if s.agenda.entries.length < Config.agendaSize then s.admitPost p else s.displacePost p

/-- POST's own steps: the return from STANDBY comes first (11 R184). -/
def postEffect (s : State) (body : List Byte) : State :=
  match readPost body with
  | some p => s.returnActive.posted p
  | none => s.returnActive.respond .malformed []

/-! ### The other requests -/

/-- An entry retires WITHDRAWN, after its staged successor (01 R22). -/
def withdrawEntry (s : State) (e : Entry) : State :=
  let s1 := s.retireSuccessor e.successor .withdrawn
  let s2 := s1.setAgenda (s1.agenda.modify e.ticket fun q => { q with successor := none })
  ((s2.retireEntry { e with successor := none } .withdrawn).followUp).respond .ok []

/-- WITHDRAW's own steps (01 R22). -/
def withdrawEffect (s : State) (body : List Byte) : State :=
  let topic := (body.headD 0).toNat
  if topic = 0 then s.respond .malformed []
  else
    match s.agenda.findTopic topic with
    | some e => s.withdrawEntry e
    | none => s.respond .unknownTopic []

/-- The machine record written, and the effects of each field that changed (10 R171, 05 R96, 08 R140). -/
def machineWritten (s : State) (availability : Availability) (minutes progress : Nat) : State :=
  let s1 := s.setMachine { s.machine with
    availability := availability, minutes := minutes, progress := progress }
  let s2 := if availability ≠ s.machine.availability ∨ minutes ≠ s.machine.minutes then
      s1.sendBeacon
    else s1
  if minutes ≠ s.machine.minutes ∨ progress ≠ s.machine.progress then s2.cause else s2

/-- MACHINE's own steps (10 R171). -/
def machineEffect (s : State) (body : List Byte) : State :=
  match availabilityOfCode (body.getD 0 0).toNat with
  | some availability =>
      (s.machineWritten availability (body.getD 1 0).toNat (body.getD 2 0).toNat).respond .ok []
  | none => s.respond .malformed []

/-- The base page a page byte names (10 R170). -/
def basePageOf (b : Byte) : Option Nat := if b = 0xFF then none else some b.toNat

/-- BASEPAGE's own steps (10 R170): a new owner is a cause, and so is a new base page under fallback. -/
def basepageEffect (s : State) (body : List Byte) : State :=
  let page := basePageOf (body.headD 0xFF)
  let s1 := (s.setAgenda { s.agenda with basePage := page }).selectOwner
  (if s.display.fallback = true ∧ page ≠ s.agenda.basePage then s1.cause else s1).respond .ok []

/-- The records an EVENTS response carries (10 R175). -/
def eventsBody (s : State) : List Byte :=
  let records := s.events.queue.take Config.eventsPerResponse
  byteOf records.length :: byteOf s.events.overflow :: records.flatMap EventRecord.bytes

/-- EVENTS' own steps (10 R175). -/
def eventsEffect (s : State) (_ : List Byte) : State :=
  (s.setEvents { queue := s.events.queue.drop Config.eventsPerResponse, overflow := 0 }).respond
    .ok s.eventsBody

/-- The flags byte of STATUS (12 R190). -/
def statusFlags (s : State) : Nat :=
  s.floor.isolated.toNat + 2 * (s.panel.presence == .present).toNat +
    4 * (s.panel.door == .opened).toNat

/-- The ten header bytes of STATUS (10 R173, 12 R190). -/
def statusHeader (s : State) : List Byte :=
  [partCode s.rest.part, storeCode s.flash.store, floorCode s.floor.ctx, s.statusFlags,
    s.agenda.entries.length, s.events.queue.length, s.level.amb, s.level.lastLevel, s.level.gain,
    s.panel.language].map byteOf

end State

/-- An entry record of STATUS (10 R173, 12 R190). -/
def Entry.bytes (e : Entry) : List Byte :=
  byteOf e.post.topic :: bytes2 e.ticket ++
    [classCode e.post.cls + 8 * entryStateCode e.state + 32 * e.interrupted.toNat, e.key,
      16 * e.owed + e.ahead, e.remaining.getD 255].map byteOf

namespace State

/-- STATUS' own steps (10 R173). -/
def statusEffect (s : State) (_ : List Byte) : State :=
  s.respond .ok (s.statusHeader ++ s.agenda.entries.flatMap Entry.bytes)

/-- ROSTER's own steps (05 R102); the records are kept in ascending station order. -/
def rosterEffect (s : State) (_ : List Byte) : State :=
  s.respond .ok
    (byteOf s.roster.records.length :: s.roster.records.flatMap PeerRecord.bytes)

/-- REST(STANDBY)'s own steps (10 R172, 11 R183). -/
def restStandbyEffect (s : State) (_ : List Byte) : State :=
  if s.rest.part = .active then
    if s.agenda.entries.isEmpty then s.enterStandby.respond .ok [] else s.respond .agendaBusy []
  else s.respond .ok []

/-- REST(DORMANT)'s own steps (10 R172, 11 R185). -/
def restDormantEffect (s : State) (_ : List Byte) : State := s.enterSettling.respond .ok []

/-- REST(ACTIVE)'s own steps (10 R172, 11 R184). -/
def restActiveEffect (s : State) (_ : List Byte) : State :=
  s.returnActive.followUp.respond .ok []

/-- SESSION_END's own steps (09 R163). -/
def sessionEndEffect (s : State) (_ : List Byte) : State :=
  s.sessionReset.sessionStopped.respond .ok []

/-- What a row's request does by itself. -/
def requestEffect : RequestRow → State → List Byte → State
  | .setup => setupEffect
  | .post => postEffect
  | .withdraw => withdrawEffect
  | .machine => machineEffect
  | .basepage => basepageEffect
  | .events => eventsEffect
  | .status => statusEffect
  | .roster => rosterEffect
  | .restStandby => restStandbyEffect
  | .restDormant => restDormantEffect
  | .restActive => restActiveEffect
  | .sessionEnd => sessionEndEffect

/-! ### Transactions (10 R165 to R167) -/

/-- A frame that names no row: a frame fault, or a REST mode outside its set, which in UNSET is refused by the
part state first (10 R168, R172). -/
def answerUnnamed (s : State) (buffer : List Byte) : State :=
  match readRequest buffer with
  | none => s.respond .malformed []
  | some _ => if s.rest.part = .unset then s.respond .notSet [] else s.respond .malformed []

/-- A held request is executed, whatever it is (10 R169). -/
def executeHeld (s : State) : State :=
  match s.host.request with
  | none => s
  | some buffer =>
      match requestRow buffer with
      | some row => s.runRequest row (requestEffect row)
      | none => if s.executes then s.answerUnnamed buffer else s

/-- The bytes sent on the data-out pin. -/
def sent (s : State) (bytes : List Byte) : State := s.setHost { s.host with dataOut := bytes }

/-- A write is taken, or lost to a held request (10 R166). A frame that names no row is answered here. -/
def writeTaken (s : State) (frame : List Byte) : State :=
  match s.host.request with
  | some _ => s.setHost { s.host with overrun := true }
  | none =>
      let s' := s.setHost { s.host with request := some (frame.take 64) }
      if s.executes = true ∧ requestRow (frame.take 64) = none then
        s'.answerUnnamed (frame.take 64)
      else s'

/-- The transaction that ends is discarded: in DORMANT, and when its select fell in DORMANT (10 R169). -/
def discards (s : State) : Bool := s.rest.part == .dormant || s.host.discard

/-- A discarded transaction has ended: every byte sent was 0x00, and nothing is taken (10 R169). -/
def discarded (s : State) (bytes : Nat) : State :=
  s.setHost { s.host with discard := false, dataOut := List.replicate bytes 0 }

/-- WRITE_TRANSACTION's effect (10 R165, R166, R169). -/
def written (s : State) (bytes : List Byte) : State :=
  if s.discards then s.discarded bytes.length
  else
    let s' := s.sent (List.replicate bytes.length 0)
    match bytes with
    | [] => s'
    | lead :: frame => if lead = 0xA1 then s'.writeTaken frame else s'

/-- The slot byte (10 R167). -/
def slotByte (s : State) : Byte :=
  match s.host.request, s.host.slot with
  | some _, _ => 0x01
  | none, none => 0x00
  | none, some _ => 0x5A

/-- The response frame a read sends (10 R167). -/
def frameSentOut (s : State) : List Byte :=
  match s.host.request, s.host.slot with
  | some _, _ => []
  | none, none => []
  | none, some frame => frame

/-- A read has clocked the last bit of the response it sent. -/
def slotRead (s : State) (clocked : Nat) : Bool :=
  s.slotByte == 0x5A && decide (s.frameSentOut.length + 1 ≤ clocked)

/-- READ_TRANSACTION's effect (10 R165, R167, R169). -/
def read (s : State) (clocked : Nat) : State :=
  if s.discards then s.discarded (clocked + 1)
  else
    s.setHost { s.host with
      slot := if s.slotRead clocked then none else s.host.slot,
      dataOut := 0x00 ::
        (s.slotByte :: s.frameSentOut ++ List.replicate clocked 0).take clocked }

end State

/-- WRITE_TRANSACTION (10 R166). -/
def execWriteTransaction (bytes : List Byte) (s : State) : Result := .next (s.written bytes)

/-- READ_TRANSACTION (10 R167). -/
def execReadTransaction (clocked : Nat) (s : State) : Result := .next (s.read clocked)

/-- SETUP (11 R181). -/
def execSetup (s : State) : Result := .next (s.runRequest .setup State.setupEffect)

/-- POST (01 R11). -/
def execPost (s : State) : Result := .next (s.runRequest .post State.postEffect)

/-- WITHDRAW (01 R22). -/
def execWithdraw (s : State) : Result := .next (s.runRequest .withdraw State.withdrawEffect)

/-- MACHINE (10 R171). -/
def execMachine (s : State) : Result := .next (s.runRequest .machine State.machineEffect)

/-- BASEPAGE (10 R170). -/
def execBasepage (s : State) : Result := .next (s.runRequest .basepage State.basepageEffect)

/-- EVENTS (10 R175). -/
def execEvents (s : State) : Result := .next (s.runRequest .events State.eventsEffect)

/-- STATUS (10 R173). -/
def execStatus (s : State) : Result := .next (s.runRequest .status State.statusEffect)

/-- ROSTER (05 R102). -/
def execRoster (s : State) : Result := .next (s.runRequest .roster State.rosterEffect)

/-- REST_STANDBY (10 R172). -/
def execRestStandby (s : State) : Result :=
  .next (s.runRequest .restStandby State.restStandbyEffect)

/-- REST_DORMANT (10 R172). -/
def execRestDormant (s : State) : Result :=
  .next (s.runRequest .restDormant State.restDormantEffect)

/-- REST_ACTIVE (10 R172). -/
def execRestActive (s : State) : Result := .next (s.runRequest .restActive State.restActiveEffect)

/-- SESSION_END (09 R163). -/
def execSessionEnd (s : State) : Result := .next (s.runRequest .sessionEnd State.sessionEndEffect)

end Sys2Proof.Machine
end

