-- ==== Sys2Proof/Machine/Timebase.lean ====
section
/-! DEFINITION. The timebase (11 R177, R178, R187): the cold reset, the 1 ms tick, which carries the 100 ms tick
and which step takes on an empty queue (log 2), and the end of WAKING. -/

namespace Sys2Proof.Machine

/-- A record of the floor unit's lists after a 1 ms tick (04 R67). -/
def Rival.msTick (r : Rival) : Rival := { r with left := r.left - 1 }

/-- The floor context after a 1 ms tick: the window and renewal timers count down (04 R76, R79). The settle
count has a row of its own. -/
def FloorCtx.msTick : FloorCtx → FloorCtx
  | .claiming bid window => .claiming bid (window - 1)
  | .holding bid hold => .holding bid { hold with renewal := hold.renewal - 1 }
  | .idle => .idle
  | .deferring settle => .deferring settle
  | .pending bid => .pending bid
  | .announcing bid => .announcing bid

/-- The floor unit after a 1 ms tick. -/
def Floor.msTick (f : Floor) : Floor :=
  { f with ctx := f.ctx.msTick, claims := f.claims.map Rival.msTick,
           holders := f.holders.map Rival.msTick }

/-- An entry after a 100 ms tick (01 R2). -/
def Entry.tenthTick (e : Entry) : Entry := { e with expiryTimer := countDown e.expiryTimer }

/-- A peer record after a 100 ms tick (05 R93). -/
def PeerRecord.tenthTick (r : PeerRecord) : PeerRecord := { r with age := r.age - 1 }

namespace State

/-- The timers of the 1 ms tick: line-stuck timer (03 R61), floor unit (04), settling limit (11 R185) and the scan's
wait (06 R108). -/
def msCounted (s : State) : State :=
  let s0 := s.setLine { s.line with stuckTimer := countUp Config.stuckLimit s.line.stuckTimer }
  let s1 := s0.setTimebase { s0.timebase with ms := s0.timebase.ms + 1 }
  let s2 := s1.setFloor s1.floor.msTick
  let s3 := s2.setRest { s2.rest with settlingLimit := countDown s2.rest.settlingLimit }
  s3.setFlash { s3.flash with scanWait := countDown s3.flash.scanWait }

/-- The timers of the 100 ms tick: expiry timers (01 R2), roster ages (05 R93) and the presence hold
(09 R161). -/
def tenthCounted (s : State) : State :=
  let s1 := s.mapEntries Entry.tenthTick
  let s2 := s1.setRoster { s1.roster with records := s1.roster.records.map PeerRecord.tenthTick }
  s2.setPanel { s2.panel with holdTimer := countDown s2.panel.holdTimer }

/-- The 1 ms tick; every hundredth is a 100 ms tick too. -/
def msTicked (s : State) : State :=
  let s' := s.msCounted
  if s'.timebase.ms % 100 = 0 then s'.tenthCounted else s'

/-- What the part does in one millisecond with no command (log 2): the ticks run with the core clock, and the
wake settle counts on the low-speed oscillator (11 R187). -/
def idled (s : State) : State :=
  match s.rest.part with
  | .dormant => s
  | .waking =>
      s.setTimebase { s.timebase with wakeSettle := countDown s.timebase.wakeSettle }
  | .unset => s.msTicked
  | .active => s.msTicked
  | .standby => s.msTicked
  | .settling => s.msTicked

/-! ### The end of WAKING (11 R187) -/

/-- The lines that were not sampled take their filtered levels from their first sample (09 R164). -/
def unsampledTaken (s : State) (levels : BitVec 8) : State :=
  s.setPanel { s.panel with
    filters := (List.range 8).map fun k =>
      if s.isSampled k then s.filterOf k
      else { level := sampledLevel levels k, count := 0, primed := true } }

/-- The states of the lines that were not sampled are set without any record (09 R164): the key group, which
never is, and the door and the presence unless they are wake sources. -/
def panelWoken (s : State) (levels : BitVec 8) : State :=
  let s1 := (s.unsampledTaken levels).keysTaken
  let s2 := if s.settings.wakeSources.door then s1 else s1.doorTaken
  let s3 := if s.settings.wakeSources.presence then s2 else s2.presenceTaken
  s3.sessionStarted

/-- Entry to ACTIVE from WAKING (11 R187): the panel, the BEACON (05 R95), the compose and the stream, the
held request (10 R169), and the idle timer's test. -/
def awoken (s : State) (levels : BitVec 8) : State :=
  let s1 := s.setTimebase { s.timebase with wakeSettle := none }
  ((((s1.panelWoken levels).enterActive).sendBeacon).followUp).executeHeld

/-- WAKING_END's effect: the 5 ms have passed. -/
def wakingEnded (s : State) (levels : BitVec 8) : State :=
  if s.rest.part = .waking ∧ s.timebase.wakeSettle = some 0 then s.awoken levels else s

/-! ### Cold reset (11 R177, R178) -/

/-- COLD_RESET's effect: every block at its cold-reset value, with the straps read; the phrase store is outside
the part, and the speech buffer is not cleared (06 R107). -/
def coldStarted (s : State) (stn : BitVec 5) (xsel : BitVec 2) : State :=
  State.afterReset stn.toNat xsel s.flash.buffer s.phraseStore s.pending

end State

/-- COLD_RESET (11 R178). -/
def execColdReset (stn : BitVec 5) (xsel : BitVec 2) (s : State) : Result :=
  .next (s.coldStarted stn xsel)

/-- WAKING_END (11 R187). -/
def execWakingEnd (levels : BitVec 8) (s : State) : Result := .next (s.wakingEnded levels)

end Sys2Proof.Machine
end

