-- ==== Sys2Proof/Machine/Dispatch.lean ====
section
/-! DEFINITION. One arm for each command: the meaning it has. -/

namespace Sys2Proof.Machine

/-- The effect of a command on everything but the queue. -/
def exec (i : Instr) (s : State) : Host.Outcome State Fault Refusal :=
  match i with
  | .coldReset stn xsel => Sys2Proof.Machine.execColdReset stn xsel s
  | .directoryScan => Sys2Proof.Machine.execDirectoryScan s
  | .directoryBad => Sys2Proof.Machine.execDirectoryBad s
  | .flashGrant => Sys2Proof.Machine.execFlashGrant s
  | .flashReadDone => Sys2Proof.Machine.execFlashReadDone s
  | .writeTransaction bytes => Sys2Proof.Machine.execWriteTransaction bytes s
  | .readTransaction clocked => Sys2Proof.Machine.execReadTransaction clocked s
  | .setup => Sys2Proof.Machine.execSetup s
  | .post => Sys2Proof.Machine.execPost s
  | .withdraw => Sys2Proof.Machine.execWithdraw s
  | .machine => Sys2Proof.Machine.execMachine s
  | .basepage => Sys2Proof.Machine.execBasepage s
  | .events => Sys2Proof.Machine.execEvents s
  | .status => Sys2Proof.Machine.execStatus s
  | .roster => Sys2Proof.Machine.execRoster s
  | .restStandby => Sys2Proof.Machine.execRestStandby s
  | .restDormant => Sys2Proof.Machine.execRestDormant s
  | .restActive => Sys2Proof.Machine.execRestActive s
  | .sessionEnd => Sys2Proof.Machine.execSessionEnd s
  | .frameStart boundary => Sys2Proof.Machine.execFrameStart boundary s
  | .loss first second => Sys2Proof.Machine.execLoss first second s
  | .transmitFailure => Sys2Proof.Machine.execTransmitFailure s
  | .frameTransmitted => Sys2Proof.Machine.execFrameTransmitted s
  | .frameReceived chars => Sys2Proof.Machine.execFrameReceived chars s
  | .lineStuck => Sys2Proof.Machine.execLineStuck s
  | .duplicateTimerExpiry => Sys2Proof.Machine.execDuplicateTimerExpiry s
  | .claimAgeExpiry station => Sys2Proof.Machine.execClaimAgeExpiry station s
  | .holdTimerExpiry station => Sys2Proof.Machine.execHoldTimerExpiry station s
  | .settleComplete => Sys2Proof.Machine.execSettleComplete s
  | .windowExpiry => Sys2Proof.Machine.execWindowExpiry s
  | .renewalExpiry => Sys2Proof.Machine.execRenewalExpiry s
  | .tick1s => Sys2Proof.Machine.execTick1s s
  | .cadenceExpiry ticket => Sys2Proof.Machine.execCadenceExpiry ticket s
  | .expired ticket => Sys2Proof.Machine.execExpired ticket s
  | .samplePeriod adc => Sys2Proof.Machine.execSamplePeriod adc s
  | .leadExpiry => Sys2Proof.Machine.execLeadExpiry s
  | .itemEnd => Sys2Proof.Machine.execItemEnd s
  | .patternEnd => Sys2Proof.Machine.execPatternEnd s
  | .gapExpiry => Sys2Proof.Machine.execGapExpiry s
  | .pauseExpiry => Sys2Proof.Machine.execPauseExpiry s
  | .tailExpiry => Sys2Proof.Machine.execTailExpiry s
  | .fadeExpiry => Sys2Proof.Machine.execFadeExpiry s
  | .enableDrop => Sys2Proof.Machine.execEnableDrop s
  | .ambientWindowEnd => Sys2Proof.Machine.execAmbientWindowEnd s
  | .composeEnd => Sys2Proof.Machine.execComposeEnd s
  | .frameBoundary => Sys2Proof.Machine.execFrameBoundary s
  | .panelSample levels => Sys2Proof.Machine.execPanelSample levels s
  | .presenceHoldExpiry => Sys2Proof.Machine.execPresenceHoldExpiry s
  | .sessionTimeout => Sys2Proof.Machine.execSessionTimeout s
  | .beaconTimerExpiry => Sys2Proof.Machine.execBeaconTimerExpiry s
  | .rosterAgeExpiry station => Sys2Proof.Machine.execRosterAgeExpiry station s
  | .idleTimerExpiry => Sys2Proof.Machine.execIdleTimerExpiry s
  | .settlingLimit => Sys2Proof.Machine.execSettlingLimit s
  | .dormantEntry => Sys2Proof.Machine.execDormantEntry s
  | .wake event => Sys2Proof.Machine.execWake event s
  | .wakingEnd levels => Sys2Proof.Machine.execWakingEnd levels s
  | .idleGap => Sys2Proof.Machine.execIdleGap s
  | .receiveFault chars ending => Sys2Proof.Machine.execReceiveFault chars ending s
  | .settleTick => Sys2Proof.Machine.execSettleTick s

end Sys2Proof.Machine
end

