-- ==== Sys2Proof/Safety.lean ====
section
/-! DEFINITION. The laws of the part that every step keeps; the obligations state that it does. -/

namespace Sys2Proof.Machine

/-- At most 16 records, and an overflow count of at most 255 (10 R174). -/
def EventQueue.bounded (q : EventQueue) : Prop :=
  q.queue.length ≤ Config.queueSize ∧ q.overflow ≤ Config.overflowMax

/-- What makes up an entry for its whole life but for its successor: ticket, post and staged successor. -/
def Entry.id (e : Entry) : Nat × Post × Option Successor := (e.ticket, e.post, e.successor)

/-- The ids of the entries, in admission order. -/
def Agenda.ids (a : Agenda) : List (Nat × Post × Option Successor) := a.entries.map Entry.id

/-- A queue that has grown from another: records joined at its end or were counted (10 R174). -/
def EventQueue.grewFrom (q' q : EventQueue) : Prop :=
  q.queue <+: q'.queue ∧ (q.bounded → q'.bounded ∧ q.overflow ≤ q'.overflow)

/-- The agenda's law (01 R3, R11): at most 16 entries, no ticket of an entry or a staged successor held twice,
no topic held twice, and each successor under the topic of its entry. -/
def Agenda.lawful (a : Agenda) : Prop :=
  a.entries.length ≤ Config.agendaSize ∧ a.tickets.Nodup ∧ (a.entries.map (·.post.topic)).Nodup ∧
    ∀ e ∈ a.entries, ∀ q, e.successor = some q → q.post.topic = e.post.topic

/-- Stations rise strictly from `low` on, and none is the own station. -/
def stationsFrom (own : Nat) : (low : Nat) → List Nat → Bool
  | _, [] => true
  | low, k :: ks => decide (low ≤ k) && decide (k < 32) && k != own && stationsFrom own (k + 1) ks

/-- The roster's law (05 R91): at most one record of a station, and none of the own. -/
def State.rosterLawful (s : State) : Prop :=
  stationsFrom s.timebase.station 0 (s.roster.records.map (·.station)) = true

/-- The floor unit's lists (04 R67): at most one record of a station in each, and none of the own. -/
def State.listsLawful (s : State) : Prop :=
  stationsFrom s.timebase.station 0 (s.floor.claims.map (·.station)) = true ∧
    stationsFrom s.timebase.station 0 (s.floor.holders.map (·.station)) = true ∧
    ∀ r ∈ s.floor.claims, ∀ q ∈ s.floor.holders, r.station ≠ q.station

/-- The floor context is HOLDING. -/
def FloorCtx.isHolding : FloorCtx → Bool
  | .holding _ _ => true
  | .idle => false
  | .deferring _ => false
  | .pending _ => false
  | .claiming _ _ => false
  | .announcing _ => false

/-- The law of 06 R116: a play on the FLOOR route that is not fading is one while the floor context is
HOLDING. -/
def State.speechLawful (s : State) : Prop :=
  ∀ p, s.renderer.play = some p → p.route = .floor → s.renderer.phase ≠ .fade →
    s.floor.ctx.isHolding = true

/-- The warm flag is set in every part state but UNSET (11 R188). -/
def State.warmLawful (s : State) : Prop := s.rest.warm = true ↔ s.rest.part ≠ .unset

/-- An entry is BIDDING or PLAYING (01 R5). -/
def Entry.busy (e : Entry) : Bool := e.state == .bidding || e.state == .playing

/-- The bid of a floor context that has no hold yet. -/
def FloorCtx.bidding : FloorCtx → Option Bid
  | .pending bid => some bid
  | .claiming bid _ => some bid
  | .announcing bid => some bid
  | .idle => none
  | .deferring _ => none
  | .holding _ _ => none

/-- The law of turns (01 R5): at most one entry is BIDDING or PLAYING; a BIDDING entry is the candidate of the floor
unit's bid, and none is PLAYING beside a bid; outside ACTIVE the agenda is empty (11 R183, R185). -/
def State.turnLawful (s : State) : Prop :=
  (s.agenda.entries.filter Entry.busy).length ≤ 1 ∧
    (∀ e ∈ s.agenda.entries, e.state = .bidding →
      ∃ bid, s.floor.ctx.bidding = some bid ∧ bid.ticket = e.ticket) ∧
    (∀ bid, s.floor.ctx.bidding = some bid → s.agenda.isPlaying = false) ∧
    (s.rest.part ≠ .active → s.agenda.entries = [])

/-- The law of credit (02 R33): owed and ahead lie in 0 to 8 and are never both above 0. With ahead at 8 no pull-in is
under way or in line, so that none completes (R38). -/
def Entry.creditLawful (e : Entry) : Prop :=
  e.owed ≤ 8 ∧ e.ahead ≤ 8 ∧ (e.owed = 0 ∨ e.ahead = 0) ∧
    (e.ahead = 8 → e.playKind ≠ some .pullIn ∧
      (e.state = .ready ∨ e.state = .bidding → e.replay = true))

/-- Every entry has the law of credit. -/
def Agenda.creditLawful (a : Agenda) : Prop := ∀ e ∈ a.entries, e.creditLawful

/-! ### The words of the obligations -/

/-- The blocks of the state. -/
inductive Block where
  | timebase
  | host
  | machine
  | settings
  | agenda
  | floor
  | line
  | roster
  | flash
  | renderer
  | level
  | display
  | panel
  | events
  | rest
deriving DecidableEq, Repr

/-- Two states agree on a block. -/
def State.agreesOn (t s : State) : Block → Prop
  | .timebase => t.timebase = s.timebase
  | .host => t.host = s.host
  | .machine => t.machine = s.machine
  | .settings => t.settings = s.settings
  | .agenda => t.agenda = s.agenda
  | .floor => t.floor = s.floor
  | .line => t.line = s.line
  | .roster => t.roster = s.roster
  | .flash => t.flash = s.flash
  | .renderer => t.renderer = s.renderer
  | .level => t.level = s.level
  | .display => t.display = s.display
  | .panel => t.panel = s.panel
  | .events => t.events = s.events
  | .rest => t.rest = s.rest

/-- `t` differs from `s` in the blocks named at most: the frame. The phrase store and the queue of commands are
never among them. -/
def State.changedIn (t s : State) (blocks : List Block) : Prop :=
  t.phraseStore = s.phraseStore ∧ t.pending = s.pending ∧ ∀ b, b ∉ blocks → t.agreesOn s b

/-- The blocks that the tests after an event may change: they select the display owner, start a compose or a
play, move the floor context and test the idle timer. -/
def Block.followUp : List Block :=
  [.timebase, .agenda, .floor, .flash, .renderer, .level, .display, .events, .rest]

/-- What the urgency rules read and write of an entry (02): ticket, state, wait, owed, ahead and cadence timer. -/
def Entry.credit (e : Entry) : Nat × EntryState × Nat × Nat × Nat × Option Nat :=
  (e.ticket, e.state, e.wait, e.owed, e.ahead, e.cadence)

/-- The credits of the entries, in admission order. -/
def Agenda.credits (a : Agenda) : List (Nat × EntryState × Nat × Nat × Nat × Option Nat) :=
  a.entries.map Entry.credit

/-- What only the cadence and the accounting change of an entry's credit (02 R33): owed, ahead and cadence timer. -/
def Entry.due (e : Entry) : Nat × Nat × Nat × Option Nat := (e.ticket, e.owed, e.ahead, e.cadence)

/-- The dues of the entries, in admission order. -/
def Agenda.dues (a : Agenda) : List (Nat × Nat × Nat × Option Nat) := a.entries.map Entry.due

/-- The end request of a PLAYING entry after another is set (01 R9): a retirement stands, and REPLACED gives way to
WITHDRAWN alone. -/
def EndRequest.asked (old new : EndRequest) : EndRequest :=
  match old with
  | .none => new
  | .interrupt => if new = .none then .interrupt else new
  | .retire o => if o = .replaced ∧ new = .retire .withdrawn then .retire .withdrawn else .retire o

/-- The renderer once a cut is asked for (06 R118): LEAD and GAP go to TAIL, and a fade stands. -/
def Renderer.cut (r : Renderer) : Renderer :=
  match r.play with
  | none => r
  | some p =>
      { r with
        play := some { p with stop := if p.stop = .fade then .fade else .cut },
        phase := if r.phase = .lead ∨ r.phase = .gap then .tail else r.phase,
        timer := if r.phase = .lead ∨ r.phase = .gap then 80 else r.timer }

/-- The renderer once a fade is asked for with the last DAC code sent (06 R119). -/
def Renderer.faded (r : Renderer) (dac : Nat) : Renderer :=
  match r.play with
  | none => r
  | some p =>
      if r.phase = .fade then r
      else { r with phase := .fade, timer := 160, play := some { p with stop := .fade, fadeFrom := dac } }

/-- A WAITING entry that a due reminder or the replay flag makes READY (02 R37, but for pull-in). -/
def Entry.madeReady (e : Entry) (presence : Presence) : Entry :=
  if e.state = .waiting ∧ e.post.isSilent = false ∧
      ((1 ≤ e.owed ∧ gateOpen presence e.post.cls = true) ∨ e.replay = true) then
    { e with state := .ready, wait := 0 }
  else e

/-- The command of a request's row. -/
def RequestRow.command : RequestRow → Instr
  | .setup => .setup
  | .post => .post
  | .withdraw => .withdraw
  | .machine => .machine
  | .basepage => .basepage
  | .events => .events
  | .status => .status
  | .roster => .roster
  | .restStandby => .restStandby
  | .restDormant => .restDormant
  | .restActive => .restActive
  | .sessionEnd => .sessionEnd

/-- The buffer holds a request of a row, with a frame that passes the first step of 10 R168, in a part state in
which requests are executed. -/
def State.asks (s : State) (row : RequestRow) (body : List Byte) : Prop :=
  s.executes = true ∧ ∃ buffer code, s.host.request = some buffer ∧
    requestRow buffer = some row ∧ readRequest buffer = some (code, body)

/-- The host port once a response is placed: the buffer empty, the overrun flag reported and cleared
(10 R168). -/
def State.answered (s : State) (result : ResultCode) (body : List Byte) : HostPort :=
  { s.host with
    request := none, slot := some (responseFrame result s.host.overrun body), overrun := false }

/-- A slot after a frame is queued to it (03 R52): stored with failure count 0 in an empty slot, as
the next frame of one whose frame is on the line, in place of any other frame with its count kept. -/
def queuedTo (slot : Slot) (onLine : Bool) (f : LineFrame) : Slot :=
  if slot.frame = none then { frame := some f, next := none, failures := 0 }
  else if onLine = true then { slot with next := some f }
  else { slot with frame := some f }

/-- A frame queued to the TALK/CLAIM slot. -/
def Line.withTalk (l : Line) (f : LineFrame) : Line :=
  { l with talkSlot := queuedTo l.talkSlot (decide (l.onLine = some .talk)) f }

/-- A frame queued to the BEACON slot. -/
def Line.withBeacon (l : Line) (f : LineFrame) : Line :=
  { l with beaconSlot := queuedTo l.beaconSlot (decide (l.onLine = some .beacon)) f }

/-- The floor unit in DEFERRING with a settle count. -/
def Floor.withSettle (f : Floor) (settle : Nat) : Floor := { f with ctx := .deferring settle }

/-- What a free floor unit does with a frame of another station (04 R68 to R70, R72, R73, R89): in DEFERRING the settle
count is 0 when the candidate's view is no longer clear, or the frame has cleared ISOLATED, and stands otherwise; in IDLE
nothing, unless there is a candidate. -/
def State.freeFloorAfter (t s : State) : Prop :=
  (∀ settle, s.floor.ctx = .deferring settle →
    (s.floor.isolated = true → t.floor.ctx = .deferring 0) ∧
    (s.floor.isolated = false →
      (∀ e, s.agenda.answer s.flash.store ≠ .candidate e) → t.floor.ctx = .deferring settle) ∧
    (∀ e, s.agenda.answer s.flash.store = .candidate e →
      (t.viewClear e.key = false → t.floor.ctx = .deferring 0) ∧
      (t.viewClear e.key = true → s.floor.isolated = false → t.floor.ctx = .deferring settle))) ∧
  (s.floor.ctx = .idle → (t.floor.ctx = .idle ∨ t.floor.ctx = .deferring 0) ∧
    (s.agenda.answer s.flash.store = .noCandidate → t.floor.ctx = .idle))

/-- The filtered level of the DOOR line, if there is one, shows the door state after a sample: no door edge (09
R160). -/
def State.doorSteady (s : State) (levels : BitVec 8) : Bool :=
  (s.settings.lineOf .door).all fun line =>
    (s.filtersStepped levels).panel.atRest s.settings line == decide (s.panel.door = .closed)

/-- The filtered level of the PRESENCE line, if there is one, neither leaves rest nor returns to it at a sample (09
R161). -/
def State.presenceSteady (s : State) (levels : BitVec 8) : Bool :=
  (s.settings.lineOf .presence).all fun line =>
    (s.filtersStepped levels).panel.atRest s.settings line == s.panel.atRest s.settings line

/-- A sample makes no press (09 R155): the key group is at rest, or was not at rest before. -/
def State.noPress (s : State) (levels : BitVec 8) : Bool :=
  ((s.filtersStepped levels).panel.keyDown s.settings).isNone || !s.panel.keysAtRest

/-- The strap is a station number (03 R47). -/
def State.strapLawful (s : State) : Prop := s.timebase.station < 32

end Sys2Proof.Machine
end

