-- ==== Sys2Proof/Certificates/Slice0/Obligations.lean ====
section
/-! DEFINITION. The statements for the provers, in the order of the spec's files. "Log n" in a docstring names
the model's own choice a clause rests on. -/

section

open Sys2Proof Sys2Proof.Machine

/-! ### The machine -/

/-- A step takes the command at the front of the queue and runs it with the queue's rest. -/
def Obligations.StepTakesTheFront : Prop :=
  ∀ (c : Instr) (rest : List Instr) (s : State), s.pending = c :: rest →
    step s = exec c (s.setPending rest)

/-- A step with no command is one millisecond (log 2): nothing in DORMANT, the wake settle alone in WAKING, and
otherwise the count of 1 ms ticks and the timers they run: line-stuck timer, window, renewal, records of both lists,
settling limit and scan wait. Each hundredth tick is a 100 ms tick too: expiry timers, roster ages and the presence
hold are each one tenth less (01 R2, 05 R93, 09 R161). -/
def Obligations.AnIdleStepIsOneMillisecond : Prop :=
  ∀ s : State, s.pending = [] →
    (s.rest.part = .dormant → step s = .next s) ∧
    (s.rest.part = .waking → step s = .next (s.setTimebase
      { s.timebase with wakeSettle := s.timebase.wakeSettle.map (· - 1) })) ∧
    (s.clocked = true → ∃ t, step s = .next t ∧
      t.timebase = { s.timebase with ms := s.timebase.ms + 1 } ∧
      t.floor.claims = s.floor.claims.map (fun r => { r with left := r.left - 1 }) ∧
      t.floor.holders = s.floor.holders.map (fun r => { r with left := r.left - 1 }) ∧
      t.floor.quietAge = s.floor.quietAge ∧ t.floor.isolated = s.floor.isolated ∧
      (∀ bid window, s.floor.ctx = .claiming bid window →
        t.floor.ctx = .claiming bid (window - 1)) ∧
      (∀ bid hold, s.floor.ctx = .holding bid hold →
        t.floor.ctx = .holding bid { hold with renewal := hold.renewal - 1 }) ∧
      t.line = { s.line with stuckTimer := s.line.stuckTimer.map fun n => min 1000 (n + 1) } ∧
      t.rest = { s.rest with settlingLimit := s.rest.settlingLimit.map (· - 1) } ∧
      t.flash = { s.flash with scanWait := s.flash.scanWait.map (· - 1) } ∧
      t.changedIn s [.timebase, .floor, .line, .rest, .flash, .agenda, .roster, .panel] ∧
      ((s.timebase.ms + 1) % 100 ≠ 0 → t.changedIn s [.timebase, .floor, .line, .rest, .flash]) ∧
      ((s.timebase.ms + 1) % 100 = 0 →
        t.agenda = { s.agenda with entries := s.agenda.entries.map fun e =>
          { e with expiryTimer := e.expiryTimer.map (· - 1) } } ∧
        t.roster = { s.roster with
          records := s.roster.records.map fun r => { r with age := r.age - 1 } } ∧
        t.panel = { s.panel with holdTimer := s.panel.holdTimer.map (· - 1) }))

/-- The state after reset, in what the manual gives: UNSET and cold, COLD_START in the event queue and ATTN high,
the agenda empty with ticket 1 next, the lists and the roster empty, the line in HUNT with empty slots, the store
SCANNING, the renderer idle with the enable dropped, Amb 0 and D 2048, blank buffers, the configuration of 11 R180's
last column, and the machine record of 10 R171. -/
def Obligations.ResetLeavesThePartCold : Prop :=
  let s := State.reset
  s.rest.part = .unset ∧ s.rest.warm = false ∧ s.rest.idleTimer = none ∧
    s.rest.settlingLimit = none ∧ s.settings = Settings.initial ∧
    s.settings.wakeSources = { host := false, door := false, presence := false } ∧
    s.settings.qualifier = .low ∧ s.events = { queue := [.coldStart], overflow := 0 } ∧
    s.attn = true ∧ s.agenda = { entries := [], nextTicket := 1, basePage := none, owner := .builtIn } ∧
    s.floor = { ctx := .idle, claims := [], holders := [], quietAge := 0, isolated := false } ∧
    s.line = Line.initial ∧ s.roster = { records := [], beaconTimer := none, duplicateTimer := none } ∧
    s.flash.store = .scanning ∧ s.flash.port = none ∧ s.flash.estimate = [] ∧ s.renderer.phase = .idle ∧
    s.renderer.play = none ∧ s.renderer.enable = false ∧ s.level.amb = 0 ∧ s.level.lastLevel = 0 ∧
    s.level.gain = 0 ∧ s.level.dac = 2048 ∧ s.level.tone = none ∧
    s.display.front = Picture.blank ∧ s.display.back = Picture.blank ∧ s.display.compose = .idle ∧
    s.host.request = none ∧ s.host.slot = none ∧ s.host.overrun = false ∧ s.host.discard = false ∧
    s.machine = { kind := .washer, availability := .outOfService, minutes := 255, progress := 0 } ∧
    s.panel.door = .closed ∧ s.panel.presence = .present ∧ s.panel.language = 0 ∧
    s.panel.sessionTimer = none

/-- COLD_RESET, in any state: the state of a reset with the straps read; the phrase store is outside the part, no
reset clears the speech buffer (06 R107), and the queue of commands is not the part's. -/
def Obligations.ColdResetStartsThePartAfresh : Prop :=
  ∀ (stn : BitVec 5) (xsel : BitVec 2) (s : State), ∃ t, exec (.coldReset stn xsel) s = .next t ∧
    t.timebase.station = stn.toNat ∧ t.timebase.crystal = xsel ∧
    t.rest = State.reset.rest ∧ t.events = { queue := [.coldStart], overflow := 0 } ∧
    t.agenda = State.reset.agenda ∧ t.floor = State.reset.floor ∧ t.line = Line.initial ∧
    t.roster = State.reset.roster ∧ t.host.request = none ∧ t.host.slot = none ∧
    t.host.overrun = false ∧ t.host.discard = false ∧ t.machine = State.reset.machine ∧ t.settings = Settings.initial ∧
    t.flash.store = .scanning ∧ t.flash.scanWait = some 1 ∧ t.flash.port = none ∧ t.flash.estimate = [] ∧
    t.flash.buffer = s.flash.buffer ∧ t.renderer = State.reset.renderer ∧
    t.level = State.reset.level ∧ t.display = State.reset.display ∧ t.panel = State.reset.panel ∧
    t.phraseStore = s.phraseStore ∧ t.pending = s.pending

/-! ### The agenda (01, 02) -/

/-- The urgency key (02 R28): the band high when owed is 8 or the replay flag is set; otherwise the band low, the
bonus of the wait and 4 for each owed play, brought into the band. -/
def Obligations.UrgencyKeyOfClassWaitAndOwed : Prop :=
  let table : List (PromptClass × Nat × Nat × Nat) :=
    [(.safety, 192, 255, 16), (.action, 144, 191, 8), (.ending, 112, 143, 4), (.step, 80, 111, 2),
      (.hint, 48, 79, 1), (.idle, 16, 47, 0)]
  ∀ row ∈ table, ∀ (wait owed : Nat) (replay : Bool),
    urgencyKey row.1 wait owed replay =
      if owed = 8 ∨ replay = true then row.2.2.1
      else max row.2.1 (min (row.2.1 + wait * row.2.2.2 / 4 + 4 * owed) row.2.2.1)

/-- TICK_1S while the core clock runs: the count of ticks and the quiet age (02 R38), the beacon and
duplicate-report timers, the session timer, and the idle timer, which counts up to the idle time while its
conditions hold and is stopped otherwise (11 R182); the lists and the ids of the entries stand, owed and ahead
stand, and every cadence timer counts down (R34). While an entry is PLAYING, so that no play can start, every READY
or BIDDING entry gains 1 in wait up to 255 (02 R27), and a WAITING entry with a reminder due at an open gate becomes
READY with wait 0 (R37). With none PLAYING, a WAITING entry that the conditions of R38 pull in is READY with wait 0,
or has begun its play at once (01 R7). -/
def Obligations.SecondTickAgesEntriesAndTimers : Prop :=
  ∀ s : State, s.clocked = true → ∃ t, exec .tick1s s = .next t ∧
    t.agenda.ids = s.agenda.ids ∧ t.timebase.seconds = s.timebase.seconds + 1 ∧
    t.floor.quietAge = (if s.floor.holders = [] then min 255 (s.floor.quietAge + 1) else 0) ∧
    t.floor.claims = s.floor.claims ∧ t.floor.holders = s.floor.holders ∧
    t.roster = { s.roster with beaconTimer := s.roster.beaconTimer.map (· - 1),
                               duplicateTimer := s.roster.duplicateTimer.map (· - 1) } ∧
    t.panel = { s.panel with
      sessionTimer := s.panel.sessionTimer.map fun n => min 120 (n + 1) } ∧
    t.rest = { s.rest with idleTimer := t.rest.idleTimer } ∧
    t.rest.idleTimer = (
      if s.rest.part = .active ∧ s.agenda.entries = [] ∧
          (s.panel.presence = .absent ∨ s.settings.lineOf .presence = none) then
        some (match s.rest.idleTimer with
          | none => 0
          | some n => min s.settings.idleTime (n + 1))
      else none) ∧
    t.changedIn s (.roster :: .panel :: Block.followUp) ∧
    t.agenda.dues = s.agenda.entries.map
      (fun e => (e.ticket, e.owed, e.ahead, e.cadence.map (· - 1))) ∧
    (∀ e ∈ s.agenda.entries, ∀ start, s.agenda.isPlaying = false → e.state = .waiting →
      e.post.isSilent = false → e.owed = 0 → e.ahead < 8 → e.post.interval ≠ 0 →
      e.remaining ≠ some 0 → e.lastPlayStart = some start →
      e.post.interval / 2 ≤ s.timebase.seconds + 1 - start.seconds →
      (s.panel.presence = .present ∨ e.post.cls = .safety ∨ e.post.cls = .action ∨
        e.post.cls = .ending) → s.settings.quietGap ≤ t.floor.quietAge →
      ∃ q ∈ t.agenda.entries, q.ticket = e.ticket ∧ q.wait = 0 ∧
        (q.state = .ready ∨ q.state = .playing)) ∧
    (s.agenda.isPlaying = true → t.agenda.credits = (s.agenda.entries.map fun e =>
      ({ e with
          wait := if e.state = .ready ∨ e.state = .bidding then min 255 (e.wait + 1) else e.wait,
          cadence := e.cadence.map (· - 1) } : Entry).madeReady s.panel.presence).map Entry.credit)

/-- CADENCE_EXPIRY of an entry whose cadence timer has run out (02 R35, R37): the timer reloads with I, ahead falls
by 1, or else owed rises by 1 up to 8, and no other entry's counts change; while an entry is PLAYING, so that no
play can start, a WAITING entry with a reminder due at an open gate becomes READY with wait 0, and no other credit
changes. A counted or pull-in play that completes (R40) adds 1 to plays up to 255, takes 1 from remaining, loads the
cadence timer with I and clears the replay flag; owed falls by 1, or with none owed the pull-in raises ahead. A
replay only clears the replay flag. -/
def Obligations.CreditIsRaisedAndSpent : Prop :=
  (∀ (s : State) (e : Entry), s.agenda.find e.ticket = some e → e.cadence = some 0 →
    ∃ t, exec (.cadenceExpiry e.ticket) s = .next t ∧ t.agenda.ids = s.agenda.ids ∧
      t.changedIn s Block.followUp ∧
      t.agenda.dues = s.agenda.entries.map (fun q =>
        if q.ticket = e.ticket then
          (q.ticket, if q.ahead = 0 ∧ q.owed < 8 then q.owed + 1 else q.owed, q.ahead - 1,
            some q.post.interval)
        else q.due) ∧
      (s.agenda.isPlaying = true → t.agenda.credits = (s.agenda.entries.map fun q =>
        (if q.ticket = e.ticket then
            { q with cadence := some q.post.interval,
                     ahead := q.ahead - 1,
                     owed := if q.ahead = 0 ∧ q.owed < 8 then q.owed + 1 else q.owed }
          else q : Entry).madeReady s.panel.presence).map Entry.credit)) ∧
  (∀ e : Entry,
    (e.playKind = some .counted ∨ e.playKind = some .pullIn →
      e.account = { e with
        remaining := e.remaining.map (· - 1), plays := min 255 (e.plays + 1),
        cadence := if e.post.interval = 0 then none else some e.post.interval, replay := false,
        owed := e.owed - 1,
        ahead := if e.playKind = some .pullIn ∧ e.owed = 0 then e.ahead + 1 else e.ahead }) ∧
    (e.playKind = some .replay → e.account = { e with replay := false }))

/-- EXPIRED of an entry whose expiry timer has run out (01 R21): an entry that is not PLAYING leaves with its
RETIRED record; a PLAYING entry stays, its expiry timer stopped and its end request EXPIRED unless an earlier
retirement stands, and the renderer is asked to cut (06 R118): its play stops after the item that sounds, and a lead
or a gap becomes the tail. -/
def Obligations.ExpiryRetiresTheEntry : Prop :=
  ∀ (s : State) (e : Entry), s.agenda.find e.ticket = some e → e.expiryTimer = some 0 →
    ∃ t, exec (.expired e.ticket) s = .next t ∧ t.changedIn s (.line :: Block.followUp) ∧
      (e.state ≠ .playing →
        t.agenda.ids = s.agenda.ids.filter (·.1 != e.ticket) ∧
        t.events.grewFrom (s.offer (.retired e.ticket e.post.topic .expired e.plays)).events) ∧
      (e.state = .playing → t.agenda.ids = s.agenda.ids ∧
        t.agenda.credits = s.agenda.credits ∧ t.renderer = s.renderer.cut ∧
        ∀ e', t.agenda.find e.ticket = some e' → e'.expiryTimer = none ∧
          (e.endRequest = .none ∨ e.endRequest = .interrupt → e'.endRequest = .retire .expired) ∧
          (∀ o, e.endRequest = .retire o → e'.endRequest = .retire o))

/-- The number phrases (06 R114). -/
def Obligations.NumberPhrasesOfAValue : Prop :=
  ∀ v, v ≤ 99 → ∀ unitsFirst : Bool,
    numberPhrases unitsFirst v =
      if v ≤ 19 then [960 + v]
      else if v % 10 = 0 then [978 + v / 10]
      else if unitsFirst then [960 + v % 10, 978 + v / 10]
      else [978 + v / 10, 960 + v % 10]

/-! ### The room line (03) -/

/-- FRAME_START, a bit boundary with an idle count and perhaps an edge of the line (03 R46, R53, R57, R61, R63). In
ACTIVE, STANDBY and SETTLING, with the receiver in IDLE, nothing being sent, a frame waiting, and the idle count at
11 or more, or with the back-off flag set at 11 + station or more, the first of DONE, TALK/CLAIM and BEACON that
holds a frame starts, and the start clears the back-off flag. Where any of this fails, no frame starts, and the
boundary shows the line (log 16): the count is kept, a count of 11 ends HUNT and the frame of FRAME, so that the
receiver is in IDLE, and a recessive bit time stops the line-stuck timer and clears its latch. An edge after it
begins a frame to receive in IDLE, zeroes the count and starts the timer. In DORMANT and WAKING nothing changes. The
frame that starts goes out on the transmit output character by character, ten bit times each: a dominant start bit,
the data bits, most significant first, a 0 dominant and a 1 recessive, and a recessive stop bit; the output is
recessive after the frame, and while nothing is sent (R44, R45). -/
def Obligations.FrameStartsInLocalOrder : Prop :=
  ∀ (s : State) (idle : Nat) (edge : Bool), idle ≤ 63 →
    ((s.rest.part = .waking ∨ s.rest.part = .dormant) →
      exec (.frameStart ⟨idle, edge⟩) s = .next s) ∧
    (∀ name : SlotName,
      (s.rest.part = .active ∨ s.rest.part = .standby ∨ s.rest.part = .settling) →
      s.line.receiver = .idle → s.line.onLine = none →
      (name = .done → s.line.doneSlot.frame.isSome = true) →
      (name = .talk → s.line.doneSlot.frame = none ∧ s.line.talkSlot.frame.isSome = true) →
      (name = .beacon → s.line.doneSlot.frame = none ∧ s.line.talkSlot.frame = none ∧
        s.line.beaconSlot.frame.isSome = true) →
      11 + (if s.line.backoff = true then s.timebase.station else 0) ≤ idle →
      let t := s.setLine { s.line with
        onLine := some name, backoff := false, receiver := .frame, idleCount := 0, chars := [],
        stuckTimer := some 0, stuckLatch := false }
      exec (.frameStart ⟨idle, edge⟩) s = .next t ∧
      ∀ f, (s.slotAt name).frame = some f →
        (∀ i c bit, (f.chars s.timebase.station)[i]? = some c → bit < 10 →
          t.transmitOut (10 * i + bit) =
            (if bit = 0 then .dominant else if bit = 9 then .recessive
              else if c.getLsbD (8 - bit) = true then .recessive else .dominant)) ∧
        ∀ n, 10 * (f.chars s.timebase.station).length ≤ n → t.transmitOut n = .recessive) ∧
    (s.line.onLine = none → ∀ n, s.transmitOut n = .recessive) ∧
    (s.clocked = true →
      (s.rest.part = .unset ∨ s.line.receiver ≠ .idle ∨ s.line.onLine ≠ none ∨
        (s.line.doneSlot.frame = none ∧ s.line.talkSlot.frame = none ∧
          s.line.beaconSlot.frame = none) ∨
        idle < 11 + (if s.line.backoff = true then s.timebase.station else 0)) →
      let shown : Line := { s.line with
        receiver := if 11 ≤ idle then .idle else s.line.receiver,
        idleCount := idle,
        chars := if s.line.receiver = .frame ∧ 11 ≤ idle then [] else s.line.chars,
        stuckTimer := if idle = 0 then s.line.stuckTimer else none,
        stuckLatch := if idle = 0 then s.line.stuckLatch else false }
      (edge = false → exec (.frameStart ⟨idle, edge⟩) s = .next (s.setLine shown)) ∧
      (edge = true → exec (.frameStart ⟨idle, edge⟩) s = .next (s.setLine { shown with
        receiver := if shown.receiver = .hunt then .hunt else .frame, idleCount := 0,
        stuckTimer := some 0, stuckLatch := false })))

/-- LOSS, and TRANSMIT_FAILURE below the eighth failure of the frame (03 R52, R54, R56): the slot keeps its frame,
or its next frame takes the frame's place, and nothing is being sent any more. After a loss the failure count stands
and the receiver goes on with the winner's characters; a failure is counted, sets the back-off flag and queues no
record. -/
def Obligations.LossAndFailureKeepTheFrame : Prop :=
  (∀ (s : State) (name : SlotName) (f : LineFrame) (first second : Byte),
    s.line.onLine = some name → (s.slotAt name).frame = some f →
    256 * first.toNat + second.toNat < numberOf ((f.chars s.timebase.station).take 2) →
    ∃ t, exec (.loss first second) s = .next t ∧ t.changedIn s [.line] ∧
      t.line.onLine = none ∧ t.line.receiver = .frame ∧ t.line.chars = [first, second] ∧
      t.line.backoff = s.line.backoff ∧
      (t.slotAt name).failures = (s.slotAt name).failures ∧ (t.slotAt name).next = none ∧
      (t.slotAt name).frame = some ((s.slotAt name).next.getD f) ∧
      ∀ other, other ≠ name → t.slotAt other = s.slotAt other) ∧
  (∀ (s : State) (name : SlotName) (f : LineFrame), s.line.onLine = some name →
    (s.slotAt name).frame = some f → (s.slotAt name).failures < 7 →
    ∃ t, exec .transmitFailure s = .next t ∧ t.changedIn s [.line] ∧ t.line.onLine = none ∧
      t.line.backoff = true ∧ t.line.abandonRun = s.line.abandonRun ∧
      t.line.receiver = .hunt ∧
      (t.slotAt name).failures = (s.slotAt name).failures + 1 ∧
      (t.slotAt name).frame = some ((s.slotAt name).next.getD f) ∧
      (t.slotAt name).next = none ∧ ∀ other, other ≠ name → t.slotAt other = s.slotAt other)

/-- TRANSMIT_FAILURE at the eighth failure of a slot's frame (03 R56, R59, R62): the frame is abandoned with its
record, the next frame takes its place with failure count 0, the abandon run count rises to at most 3, and reaching
3 it sets ISOLATED, with ISOLATED_ON after the ABANDONED record, and empties both lists (04 R87); at 3 it makes no
further report. An abandoned CLAIM in PENDING, and an abandoned TALK in ANNOUNCING, return the candidate (04 R86):
no entry is BIDDING, and while ISOLATED is clear the floor context is DEFERRING with settle count 0. -/
def Obligations.EighthFailureAbandonsTheFrame : Prop :=
  ∀ (s : State) (name : SlotName) (f : LineFrame), s.line.onLine = some name →
    (s.slotAt name).frame = some f → 7 ≤ (s.slotAt name).failures →
    ∃ t, exec .transmitFailure s = .next t ∧ t.changedIn s (.line :: Block.followUp) ∧
      t.line.onLine = none ∧ t.line.backoff = true ∧ t.agenda.ids = s.agenda.ids ∧
      (name ≠ .talk ∨ (∀ bid, s.floor.ctx = .pending bid → f.kind = .claim) ∧
          (∀ bid, s.floor.ctx = .announcing bid → f.kind = .talk) →
        t.slotAt name = { frame := (s.slotAt name).next, next := none, failures := 0 }) ∧
      (s.line.abandonRun < 3 → t.line.abandonRun = s.line.abandonRun + 1) ∧
      (3 ≤ s.line.abandonRun → t.line.abandonRun = s.line.abandonRun) ∧
      (s.line.abandonRun ≠ 2 ∨ s.floor.isolated = true →
        t.floor.isolated = s.floor.isolated ∧ t.floor.claims = s.floor.claims ∧
        t.floor.holders = s.floor.holders ∧
        t.events.grewFrom (s.offer (.lineAbandoned f.kind)).events) ∧
      (s.line.abandonRun = 2 → s.floor.isolated = false →
        t.floor.isolated = true ∧ t.floor.claims = [] ∧ t.floor.holders = [] ∧
        t.events.grewFrom ((s.offer (.lineAbandoned f.kind)).offer .isolatedOn).events) ∧
      (∀ bid, f.kind = .claim ∧ s.floor.ctx = .pending bid ∨
          f.kind = .talk ∧ s.floor.ctx = .announcing bid →
        (∀ q ∈ t.agenda.entries, q.state ≠ .bidding) ∧
        (t.floor.isolated = false → t.floor.ctx = .deferring 0))

/-- FRAME_TRANSMITTED (03 R58, R62): the slot's next frame takes its place with failure count 0, the abandon run
count is 0, and a set ISOLATED flag clears with its record. A transmitted CLAIM in PENDING starts the claim window
(04 R76). A transmitted TALK in ANNOUNCING starts the hold and the play of the BIDDING candidate (04 R79, 06 R111):
the entry is PLAYING with wait 0, its play kind (01 R8) and the binding of its first REFER token (05 R98), at the
gain of 07 R129. The tests that follow every event are made after a transmission too, which is the model's choice
(log 26): where the floor unit is free in ACTIVE and no entry is PLAYING, a BEACON sent lets the first local entry
that 01 R7 names start its play. -/
def Obligations.TransmissionEmptiesTheSlot : Prop :=
  ∀ (s : State) (name : SlotName) (f : LineFrame), s.line.onLine = some name →
    (s.slotAt name).frame = some f →
    ∃ t, exec .frameTransmitted s = .next t ∧ t.changedIn s (.line :: Block.followUp) ∧
      t.line.onLine = none ∧ t.line.abandonRun = 0 ∧ t.line.backoff = s.line.backoff ∧
      (∀ other, other ≠ name → t.slotAt other = s.slotAt other) ∧
      t.agenda.ids = s.agenda.ids ∧ t.floor.isolated = false ∧
      t.floor.claims = s.floor.claims ∧ t.floor.holders = s.floor.holders ∧
      t.events.grewFrom s.events ∧
      (s.floor.isolated = true → (∀ bid, s.floor.ctx ≠ .announcing bid) →
        t.events.grewFrom (s.offer .isolatedOff).events) ∧
      (t.slotAt name) = { frame := (s.slotAt name).next, next := none, failures := 0 } ∧
      (∀ bid, f.kind = .claim → s.floor.ctx = .pending bid →
        t.floor.ctx = .claiming bid (50 * s.settings.window)) ∧
      (∀ bid e, f.kind = .talk → s.floor.ctx = .announcing bid →
        s.agenda.find bid.ticket = some e → e.state = .bidding →
        t.floor.ctx = .holding bid { renewal := 10000, start := s.timebase.ms, announced := true,
                                     yield := .none } ∧
        t.renderer.phase = .lead ∧ t.renderer.timer = 80 ∧ t.renderer.enable = true ∧
        t.level.gain = gainCode s.settings s.level.amb e.post.cls s.floor.isolated ∧
        (∃ p, t.renderer.play = some p ∧ p.ticket = e.ticket ∧ p.route = .floor) ∧
        ∃ q, t.agenda.find e.ticket = some q ∧ q.state = .playing ∧ q.wait = 0 ∧
          q.endRequest = .none ∧ q.interrupted = false ∧ q.due = e.due ∧
          q.playKind = some (if 1 ≤ e.owed then .counted else if e.replay = true then .replay
            else .pullIn) ∧
          q.lastPlayStart = some { seconds := s.timebase.seconds, order := s.timebase.plays } ∧
          q.binding = (firstRefer e.post.tokens).map
            (resolveReferral s.roster.records s.settings.zone)) ∧
      (∀ e, f.kind = .beacon → s.rest.part = .active → s.agenda.isPlaying = false →
        s.floorFree = true → s.agenda.localCandidate s.flash.store = some e →
        t.renderer.phase = .lead ∧ t.renderer.timer = 80 ∧ t.renderer.enable = true ∧
        (∃ p, t.renderer.play = some p ∧ p.ticket = e.ticket ∧
          p.route = (if e.post.isSpeech = true then .degraded else .local)) ∧
        ∃ q, t.agenda.find e.ticket = some q ∧ q.state = .playing)

/-- FRAME_RECEIVED of a DONE, CLAIM or TALK from another station (04 R65, R68, R69, R70, 02 R38). A conflicting
CLAIM is recorded in Claims Heard with age timer W + 50 ms, a conflicting TALK in Holders with hold timer length ×
100 ms + 2 s and the quiet age 0, and the station's record in the other list leaves; a DONE, and a frame that does
not conflict, removes both. The frame is a line-good report (03 R62). A conflicting TALK defers the bid in PENDING
and ANNOUNCING, a conflicting CLAIM where its pair beats the own (R75, R78): the TALK/CLAIM slot is emptied, no
entry is BIDDING, and the floor context is DEFERRING with settle count 0; in CLAIMING the bid stands. In HOLDING, a
SAFETY claim against a lower class interrupts the play after its item and marks the yield AT_TOKEN_END (R82), a TALK
whose pair beats the own fades it and marks AT_ONCE (R83); any other queues a renewal TALK while no yield is marked
(R81, R83). A mark of AT_ONCE stands whatever is heard (log 36). In DEFERRING the settle count is 0 when a
candidate's view is no longer clear (R73), or when the frame has cleared ISOLATED (R89), and stands otherwise; in
IDLE the context stands, or is DEFERRING from 0 where the cleared flag lets a candidate in (R72). -/
def Obligations.FloorFramesHeardAreRecorded : Prop :=
  (∀ (s : State) (station : Nat), s.clocked = true → s.line.receiver ≠ .hunt → station < 32 →
    s.strapLawful → station ≠ s.timebase.station →
    ∃ t, exec (.frameReceived (LineFrame.done.chars station)) s = .next t ∧
      t.floor.claims = s.floor.claims.filter (·.station != station) ∧
      t.floor.holders = s.floor.holders.filter (·.station != station) ∧
      t.floor.isolated = false ∧ t.line.receiver = .hunt ∧ t.agenda.ids = s.agenda.ids ∧
      t.freeFloorAfter s ∧ t.changedIn s (.line :: Block.followUp)) ∧
  (∀ (s : State) (station key : Nat) (mask : BitVec 4), s.clocked = true →
    s.line.receiver ≠ .hunt → station < 32 → s.strapLawful → station ≠ s.timebase.station → key < 256 →
    ∃ t, exec (.frameReceived ((LineFrame.claim key mask).chars station)) s = .next t ∧
      t.floor.holders = s.floor.holders.filter (·.station != station) ∧
      t.floor.isolated = false ∧ t.line.receiver = .hunt ∧ t.agenda.ids = s.agenda.ids ∧
      t.freeFloorAfter s ∧ t.changedIn s (.line :: Block.followUp) ∧
      (s.settings.hearMask &&& mask ≠ 0 →
        { station := station, key := key, mask := mask, left := 50 * s.settings.window + 50 } ∈
          t.floor.claims ∧
        (∀ r, r.station ≠ station → (r ∈ t.floor.claims ↔ r ∈ s.floor.claims)) ∧
        (∀ bid, s.floor.ctx = .pending bid ∨ s.floor.ctx = .announcing bid →
          bid.key < key ∨ key = bid.key ∧ station < s.timebase.station →
          t.floor.ctx = .deferring 0 ∧ t.line.talkSlot = Slot.empty ∧
          ∀ q ∈ t.agenda.entries, q.state ≠ .bidding) ∧
        (∀ bid, s.floor.ctx = .announcing bid →
          ¬ (bid.key < key ∨ key = bid.key ∧ station < s.timebase.station) →
          t.floor.ctx = .announcing bid ∧ t.line.talkSlot = s.line.talkSlot) ∧
        (∀ bid window, s.floor.ctx = .claiming bid window → t.floor.ctx = .claiming bid window) ∧
        ∀ bid hold, s.floor.ctx = .holding bid hold → s.rest.part = .active →
          (bid.key < 192 → 192 ≤ key → hold.yield = .none →
            t.floor.ctx = .holding bid { hold with yield := .atTokenEnd } ∧
            t.line.talkSlot = Slot.empty ∧ t.renderer = s.renderer.cut ∧
            ∀ q, t.agenda.find bid.ticket = some q → ∀ was, s.agenda.find bid.ticket = some was →
              q.endRequest = was.endRequest.asked .interrupt) ∧
          (bid.key < 192 → 192 ≤ key → hold.yield ≠ .none → t.floor.ctx = s.floor.ctx ∧
            t.line.talkSlot = s.line.talkSlot ∧ t.renderer = s.renderer) ∧
          (192 ≤ bid.key ∨ key < 192 → t.floor.ctx = s.floor.ctx ∧ t.renderer = s.renderer ∧
            t.line.talkSlot = (if hold.yield = .none then
                queuedTo s.line.talkSlot (decide (s.line.onLine = some .talk))
                  (.talk bid.key s.settings.hearMask
                    (max 1 (bid.length - (s.timebase.ms - hold.start) / 100)))
              else s.line.talkSlot))) ∧
      (s.settings.hearMask &&& mask = 0 →
        t.floor.claims = s.floor.claims.filter (·.station != station))) ∧
  (∀ (s : State) (station key length : Nat) (mask : BitVec 4), s.clocked = true →
    s.line.receiver ≠ .hunt → station < 32 → s.strapLawful → station ≠ s.timebase.station → key < 256 →
    0 < length → length < 256 →
    ∃ t, exec (.frameReceived ((LineFrame.talk key mask length).chars station)) s = .next t ∧
      t.floor.claims = s.floor.claims.filter (·.station != station) ∧
      t.floor.isolated = false ∧ t.line.receiver = .hunt ∧ t.agenda.ids = s.agenda.ids ∧
      t.freeFloorAfter s ∧ t.changedIn s (.line :: Block.followUp) ∧
      (s.settings.hearMask &&& mask ≠ 0 → t.floor.quietAge = 0 ∧
        { station := station, key := key, mask := mask, left := 100 * length + 2000 } ∈
          t.floor.holders ∧
        (∀ r, r.station ≠ station → (r ∈ t.floor.holders ↔ r ∈ s.floor.holders)) ∧
        (∀ bid, s.floor.ctx = .pending bid ∨ s.floor.ctx = .announcing bid →
          t.floor.ctx = .deferring 0 ∧ t.line.talkSlot = Slot.empty ∧
          ∀ q ∈ t.agenda.entries, q.state ≠ .bidding) ∧
        (∀ bid window, s.floor.ctx = .claiming bid window → t.floor.ctx = .claiming bid window) ∧
        ∀ bid hold, s.floor.ctx = .holding bid hold → s.rest.part = .active →
          (bid.key < key ∨ key = bid.key ∧ station < s.timebase.station → hold.yield ≠ .atOnce →
            t.floor.ctx = .holding bid { hold with yield := .atOnce } ∧
            t.line.talkSlot = Slot.empty ∧ t.renderer = s.renderer.faded s.level.dac ∧
            ∀ q, t.agenda.find bid.ticket = some q → ∀ was, s.agenda.find bid.ticket = some was →
              q.endRequest = was.endRequest.asked .interrupt) ∧
          (bid.key < key ∨ key = bid.key ∧ station < s.timebase.station → hold.yield = .atOnce →
            t.floor.ctx = s.floor.ctx ∧ t.line.talkSlot = s.line.talkSlot ∧
            t.renderer = s.renderer) ∧
          (¬ (bid.key < key ∨ key = bid.key ∧ station < s.timebase.station) →
            t.floor.ctx = s.floor.ctx ∧ t.renderer = s.renderer ∧
            t.line.talkSlot = (if hold.yield = .none then
                queuedTo s.line.talkSlot (decide (s.line.onLine = some .talk))
                  (.talk bid.key s.settings.hearMask
                    (max 1 (bid.length - (s.timebase.ms - hold.start) / 100)))
              else s.line.talkSlot))) ∧
      (s.settings.hearMask &&& mask = 0 →
        t.floor.holders = s.floor.holders.filter (·.station != station)))

/-- FRAME_RECEIVED of a BEACON from another station (05 R92): its record takes every field of the frame and the age
3 × B; no other record changes. -/
def Obligations.BeaconHeardIsRecorded : Prop :=
  ∀ (s : State) (station zone minutes : Nat) (kind : MachineKind) (a : Availability),
    s.clocked = true → s.line.receiver ≠ .hunt → station < 32 → s.strapLawful → station ≠ s.timebase.station →
    zone < 4 → minutes < 256 →
    ∃ t, exec (.frameReceived ((LineFrame.beacon kind a zone minutes).chars station)) s = .next t ∧
      { station := station, kind := kind, availability := a, zone := zone, minutes := minutes,
        age := 30 * s.settings.beaconPeriod } ∈ t.roster.records ∧
      (∀ r, r.station ≠ station → (r ∈ t.roster.records ↔ r ∈ s.roster.records)) ∧
      t.floor.isolated = false ∧ t.floor.claims = s.floor.claims ∧
      t.floor.holders = s.floor.holders ∧ t.agenda.ids = s.agenda.ids ∧
      t.changedIn s (.line :: .roster :: Block.followUp)

/-- FRAME_RECEIVED of a frame under the own number that this station is not sending (03 R51): it is discarded, with
LINE DUPLICATE and the 10 s timer if the timer is stopped; it is no line-good report. -/
def Obligations.DuplicateIsReportedOnce : Prop :=
  ∀ (s : State) (chars : List Byte) (h : Heard), s.clocked = true → s.line.receiver ≠ .hunt →
    takeFrame chars = some h → h.station = s.timebase.station → s.line.onLine = none →
    ∃ t, exec (.frameReceived chars) s = .next t ∧ t.line.receiver = .hunt ∧
      t.changedIn s [.line, .roster, .events] ∧ t.roster.records = s.roster.records ∧
      (s.roster.duplicateTimer = none → t.roster.duplicateTimer = some 10 ∧
        t.events = (s.offer .lineDuplicate).events) ∧
      (s.roster.duplicateTimer ≠ none → t.roster = s.roster ∧ t.events = s.events)

/-- RECEIVE_FAULT and IDLE_GAP (03 R46, R49): a fault discards the frame in reception, and the receiver hunts;
eleven recessive bit times bring it to IDLE from every state, and no frame is then in reception. That a fault at the
eleventh recessive bit time leaves it in HUNT with the idle count at 11 is the model's choice (log 35). Nothing
outside the line interface changes. -/
def Obligations.ReceiverHuntsAfterAFault : Prop :=
  ∀ (s : State) (chars : List Byte), s.clocked = true → chars.length ≤ 5 →
    (s.line.receiver ≠ .hunt → ∀ ending : RxEnd,
      (ending = .character → contentFault chars = true) →
      ∃ t, exec (.receiveFault chars ending) s = .next t ∧ t.changedIn s [.line] ∧
        t.line.receiver = .hunt ∧ t.line.chars = [] ∧
        t.line.idleCount = (if ending = .gap then 11 else 0) ∧ t.line.onLine = s.line.onLine ∧
        ∀ name, t.slotAt name = s.slotAt name) ∧
    ∃ t, exec .idleGap s = .next t ∧ t.changedIn s [.line] ∧
      t.line.receiver = .idle ∧ t.line.idleCount = min 63 (max s.line.idleCount 11) ∧
      t.line.stuckTimer = none ∧ t.line.stuckLatch = false ∧
      (s.line.receiver = .frame → t.line.chars = []) ∧ ∀ name, t.slotAt name = s.slotAt name

/-- LINE_STUCK once the line-stuck timer has reached 1 s with the latch clear (03 R61, R62, 04 R87): the record and
the latch, once for a dominant spell, and ISOLATED with its record after it and both lists empty; before 1 s, and
with the latch set, nothing. That the timer runs from the edges that commands show is the model's choice (log 16).
In ACTIVE with a free floor unit and a candidate that no local entry precedes, the candidate's play then starts
without the exchange (04 R88): HOLDING with its key and estimate and no frame. The step takes the estimate at once,
and its record reads are then asked of the flash port (06 R123), which is the model's order (log 12). -/
def Obligations.StuckLineIsolates : Prop :=
  ∀ s : State, s.clocked = true →
    (s.line.stuckLatch = true ∨ s.line.stuckTimer ≠ some 1000 → exec .lineStuck s = .next s) ∧
    (s.line.stuckLatch = false → s.line.stuckTimer = some 1000 → ∃ t, exec .lineStuck s = .next t ∧ t.line.stuckLatch = true ∧
      t.line.stuckTimer = some 1000 ∧ t.floor.isolated = true ∧ t.agenda.ids = s.agenda.ids ∧
      t.changedIn s (.line :: Block.followUp) ∧
      (s.floor.isolated = false → t.floor.claims = [] ∧ t.floor.holders = [] ∧
        t.events.grewFrom ((s.offer .lineStuck).offer .isolatedOn).events) ∧
      (s.floor.isolated = true → t.floor.claims = s.floor.claims ∧
        t.floor.holders = s.floor.holders ∧ t.events.grewFrom (s.offer .lineStuck).events) ∧
      (∀ e, s.rest.part = .active → s.floorFree = true →
        s.agenda.answer s.flash.store = .candidate e →
        s.agenda.localCandidate s.flash.store = none →
        t.floor.ctx = .holding
          { ticket := e.ticket, key := e.key, length := s.estimate e.post }
          { renewal := 10000, start := s.timebase.ms, announced := false, yield := .none } ∧
        t.flash.estimate = (s.estimateProgram e.post).requests s.phraseStore ∧
        t.renderer.phase = .lead ∧ t.renderer.timer = 80 ∧ t.renderer.enable = true ∧
        (∃ p, t.renderer.play = some p ∧ p.ticket = e.ticket ∧ p.route = .floor) ∧
        ∃ q, t.agenda.find e.ticket = some q ∧ q.state = .playing))

/-! ### Sharing the floor (04) -/

/-- CLAIM_AGE_EXPIRY, HOLD_TIMER_EXPIRY and ROSTER_AGE_EXPIRY of a record that has run out (04 R67, 05 R93): the
station's record leaves its list and the other lists stand. DUPLICATE_TIMER_EXPIRY at 0 stops the timer (03 R51). -/
def Obligations.RecordsRunOut : Prop :=
  (∀ (s : State) (r : Rival), r.left = 0 →
    (r ∈ s.floor.claims → ∃ t, exec (.claimAgeExpiry r.station) s = .next t ∧
      t.floor.claims = s.floor.claims.filter (·.station != r.station) ∧
      t.floor.holders = s.floor.holders ∧ t.agenda.ids = s.agenda.ids ∧
      t.changedIn s (.line :: Block.followUp)) ∧
    (r ∈ s.floor.holders → ∃ t, exec (.holdTimerExpiry r.station) s = .next t ∧
      t.floor.holders = s.floor.holders.filter (·.station != r.station) ∧
      t.floor.claims = s.floor.claims ∧ t.agenda.ids = s.agenda.ids ∧
      t.changedIn s (.line :: Block.followUp))) ∧
  (∀ s : State,
    (∀ r ∈ s.roster.records, r.age = 0 → exec (.rosterAgeExpiry r.station) s = .next
      (s.setRoster { s.roster with
        records := s.roster.records.filter (·.station != r.station) })) ∧
    (s.roster.duplicateTimer = some 0 → exec .duplicateTimerExpiry s = .next
      (s.setRoster { s.roster with duplicateTimer := none })))

/-- SETTLE_TICK in DEFERRING (04 R73): IDLE without a READY floor entry, whether an entry is PLAYING or a local play
starts then or not; with one, while no play can start, a settle count of 0 while an entry is PLAYING or the view is
not clear for the candidate's key; and one more otherwise, up to 239, the largest it is compared with (log 28). -/
def Obligations.SettleCountsTheClearView : Prop :=
  ∀ (s : State) (settle : Nat), s.floor.ctx = .deferring settle → s.rest.part = .active →
    s.floor.isolated = false →
    (s.agenda.answer s.flash.store = .noCandidate →
      ∃ t, exec .settleTick s = .next t ∧ t.floor = { s.floor with ctx := .idle } ∧
        t.changedIn s Block.followUp) ∧
    (s.agenda.answer s.flash.store = .playing → ∃ t, exec .settleTick s = .next t ∧
      t.floor = { s.floor with ctx := .deferring 0 } ∧ t.changedIn s Block.followUp) ∧
    (∀ e, s.agenda.answer s.flash.store = .candidate e →
      s.agenda.localCandidate s.flash.store = none →
      ∃ t, exec .settleTick s = .next t ∧ t.changedIn s Block.followUp ∧
        t.floor = s.floor.withSettle (if s.floor.holders = [] ∧
              (∀ r ∈ s.floor.claims, ¬ (e.key < r.key ∨
                (r.key = e.key ∧ r.station < s.timebase.station))) then
            min 239 (settle + 1) else 0))

/-- SETTLE_COMPLETE when the settle count has reached 255 less the candidate's key under a clear view (04 R74): the
entry is BIDDING, its key of now is frozen, the estimate gives the announced length, and a CLAIM with the frozen key
and the own hear mask is queued (03 R52); the floor context is PENDING. The renderer asks for the records that the
estimate needs (06 R106, R123), one for each distinct PHRASE and three more for a REFER, as far as the language has
them; the step takes their data at once (log 12). The estimate itself (06 R122) counts the samples of each item and
gap and of lead and tail, in units of 800 rounded up, at least 1 and at most 255. -/
def Obligations.SettleCompleteClaims : Prop :=
  (∀ (s : State) (settle : Nat) (e : Entry), s.floor.ctx = .deferring settle →
    s.rest.part = .active → s.floor.isolated = false → s.floor.holders = [] →
    s.agenda.answer s.flash.store = .candidate e →
    (∀ r ∈ s.floor.claims, ¬ (e.key < r.key ∨
      (r.key = e.key ∧ r.station < s.timebase.station))) →
    255 ≤ settle + e.key → s.line.talkSlot.frame = none →
    ∃ t, exec .settleComplete s = .next t ∧ 1 ≤ s.estimate e.post ∧ s.estimate e.post ≤ 255 ∧
      t.floor = { s.floor with ctx := .pending { ticket := e.ticket, key := e.key,
                                                 length := s.estimate e.post } } ∧
      t.line = { s.line with talkSlot :=
        { frame := some (.claim e.key s.settings.hearMask), next := none, failures := 0 } } ∧
      t.agenda.ids = s.agenda.ids ∧
      (∀ q ∈ t.agenda.entries, q.ticket = e.ticket → q.state = .bidding) ∧
      (∀ d, s.flash.store = .usable d →
        let slot := d.slot s.panel.language
        t.flash.estimate = (e.post.estimatePhrases.filter fun n =>
            decide (n < slot.phrases ∧ slot.table + 5 * n + 5 ≤ d.size)).map
          fun n => (slot.table + 5 * n, 5)) ∧
      t.changedIn s [.floor, .line, .agenda, .display, .flash, .events]) ∧
  (∀ (s : State) (d : Directory) (p : Post), s.flash.store = .usable d →
    let slot := d.slot s.panel.language
    let count := fun n =>
      let data := readBytes s.phraseStore (slot.table + 5 * n) 5
      let start := numberOf (data.take 3)
      let samples := numberOf ((data.drop 3).take 2)
      if n < slot.phrases ∧ slot.table + 5 * n + 5 ≤ d.size ∧ 1 ≤ samples ∧ samples ≤ 32000 ∧
        start + samples ≤ d.size then samples else 0
    let words := fun v => if v ≤ 19 ∨ v % 10 = 0 then 1 else 2
    let samples := fun item : Item =>
      match item with
      | .phrase n => count n
      | .number v => 800 * words v
      | .minutes => if s.machine.minutes = 255 then 0 else 800 * words (min s.machine.minutes 99)
      | .refer _ => count 1002 + count 1003 + count 1004
      | .pause n => 800 * n
      | .tone n => patternLength n
    let gaps := (p.items.dropLast.filter fun item => item.kind != .pause).length
    s.estimate p =
      max 1 (min 255 (((p.items.map samples).sum + 640 * gaps + 160 + 799) / 800)))

/-- WINDOW_EXPIRY (04 R77): with a clear view for the frozen key a TALK with the announced length is queued, and the
floor context is ANNOUNCING; with a view not clear the bid is deferred, and no entry stays BIDDING. RENEWAL_EXPIRY
in HOLDING (R80): the timer reloads with 10 s, and with ISOLATED clear and no yield marked a TALK with the remaining
length is queued: the announced length less the whole 100 ms units since the hold start, at least 1. -/
def Obligations.WindowAndRenewalExpire : Prop :=
  (∀ (s : State) (bid : Bid), s.floor.ctx = .claiming bid 0 → s.rest.part = .active →
    s.floor.isolated = false →
    (s.viewClear bid.key = true → ∃ t, exec .windowExpiry s = .next t ∧
      t.floor = { s.floor with ctx := .announcing bid } ∧
      t.line = s.line.withTalk (.talk bid.key s.settings.hearMask bid.length) ∧
      t.changedIn s [.floor, .line]) ∧
    (s.viewClear bid.key = false → ∃ t, exec .windowExpiry s = .next t ∧
      t.floor.ctx = .deferring 0 ∧ t.floor.claims = s.floor.claims ∧
      t.floor.holders = s.floor.holders ∧ t.agenda.ids = s.agenda.ids ∧
      (∀ q ∈ t.agenda.entries, q.state ≠ .bidding) ∧ t.changedIn s Block.followUp)) ∧
  (∀ (s : State) (bid : Bid) (hold : Hold), s.floor.ctx = .holding bid hold → hold.renewal = 0 →
    s.rest.part = .active →
    ∃ t, exec .renewalExpiry s = .next t ∧ t.changedIn s [.floor, .line] ∧
      t.floor = { s.floor with ctx := .holding bid { hold with renewal := 10000 } } ∧
      (s.floor.isolated = false → hold.yield = .none → t.line = s.line.withTalk
        (.talk bid.key s.settings.hearMask
          (max 1 (bid.length - (s.timebase.ms - hold.start) / 100)))) ∧
      (s.floor.isolated = true ∨ hold.yield ≠ .none → t.line = s.line))

/-! ### The roster (05) -/

/-- BEACON_TIMER_EXPIRY outside SETTLING (05 R94, R95, 03 R52): the timer reloads with B, and a BEACON of the values
that stand is queued: stored in an empty slot with failure count 0, in place of a frame that is not on the line with
its count kept, or as the next frame of one that is. -/
def Obligations.BeaconTimerQueuesABeacon : Prop :=
  ∀ s : State, s.roster.beaconTimer = some 0 → s.rest.part ≠ .settling →
    exec .beaconTimerExpiry s = .next ((s.setLine (s.line.withBeacon
      (.beacon s.machine.kind s.machine.availability s.settings.zone s.machine.minutes))).setRoster
        { s.roster with beaconTimer := some s.settings.beaconPeriod })

/-- A referral (05 R99): the FREE machine of the kind with the lowest station, of the own zone if one is there; else
the RUNNING one with the fewest known minutes; else none. -/
def Obligations.ReferralPrefersFreeThenSoonest : Prop :=
  ∀ (rs : List PeerRecord) (zone : Nat) (kind : ReferKind),
    let r := resolveReferral rs zone kind
    (∀ q ∈ rs, kind.accepts q.kind = true → q.availability = .free →
      r.outcome = .free ∧ ∃ best ∈ rs, kind.accepts best.kind = true ∧ best.availability = .free ∧
        r.station = some best.station ∧ (q.zone = zone → best.zone = zone) ∧
        ((q.zone = zone ↔ best.zone = zone) → best.station ≤ q.station)) ∧
    ((∀ q ∈ rs, ¬ (kind.accepts q.kind = true ∧ q.availability = .free)) →
      (∀ q ∈ rs, kind.accepts q.kind = true → q.availability = .running → q.minutes ≠ 255 →
        r.outcome = .soon ∧ r.minutes ≤ q.minutes ∧ ∃ best ∈ rs, r.station = some best.station ∧
          best.availability = .running ∧ kind.accepts best.kind = true ∧
          best.minutes = r.minutes ∧ (best.minutes = q.minutes → best.station ≤ q.station)) ∧
      ((∀ q ∈ rs, ¬ (kind.accepts q.kind = true ∧ q.availability = .running ∧
          q.minutes ≠ 255)) → r.outcome = .none ∧ r.station = none))

/-! ### The phrase store (06 6.1, 6.2) -/

/-- DIRECTORY_SCAN after the wait (06 R108): the read of the 37 directory bytes from address 0. DIRECTORY_BAD, the
judgement of the completed read (R109): the store is USABLE when the mark, the CRC-16 and the count of languages
hold, with the normalised copy; otherwise it is UNUSABLE, with the DIRECTORY_BAD record. After SETUP the session
language becomes the default in use (09 R162, R163). -/
def Obligations.DirectoryIsReadAndJudged : Prop :=
  (∀ s : State, s.flash.store = .scanning → s.flash.scanWait = some 0 → s.flash.port = none →
    exec .directoryScan s = .next (s.setFlash { s.flash with
      scanWait := none,
      port := some { purpose := .directory, addr := 0, len := 37, wanted := true } })) ∧
  (∀ (s : State) (data : List Byte), s.flash.store = .scanning → s.flash.scanData = some data →
    let good := data.take 2 = [0x46, 0x4A] ∧
      (crc16 (data.take 35)).toNat = numberOf ((data.drop 35).take 2) ∧
      1 ≤ (data.getD 2 0).toNat ∧ (data.getD 2 0).toNat ≤ 4
    ∃ t, exec .directoryBad s = .next t ∧ t.flash.scanData = none ∧
      t.agenda.ids = s.agenda.ids ∧ t.changedIn s (.panel :: Block.followUp) ∧
      (s.rest.warm = false → t.panel = s.panel) ∧
      (s.rest.warm = true → t.panel = { s.panel with
        language := min s.settings.defaultLanguage (t.flash.store.languages - 1) }) ∧
      (data.length = 37 → good → t.flash.store = .usable (directoryOf data) ∧
        t.events.grewFrom s.events) ∧
      (data.length = 37 → ¬ good → t.flash.store = .unusable ∧
        t.events.grewFrom (s.offer .directoryBad).events))

/-- FLASH_GRANT (06 R106, R107, R110): a busy port, and a store that is not USABLE, are granted nothing; a request
of the renderer comes before one of the compositor, and the record reads of a play estimate, which is made before
its play starts, before those of a play (R123, log 12). The lookup of a PHRASE item asks for the 5 bytes of its
record at 5 × phrase in the language's table, and the first fill of a phrase for the first half of the buffer. -/
def Obligations.FlashGrantPrefersSpeech : Prop :=
  ∀ s : State,
    (s.flash.port ≠ none ∨ s.flash.store.isUsable = false → exec .flashGrant s = .next s) ∧
    ∀ d, s.flash.store = .usable d → s.flash.port = none →
      (∀ r, s.speechRequest = some r →
        exec .flashGrant s = .next (s.setFlash { s.flash with port := some r })) ∧
      (s.speechRequest = none →
        exec .flashGrant s = .next (s.setFlash { s.flash with port := s.composeRequest })) ∧
      (∀ addr len more, s.flash.estimate = (addr, len) :: more →
        exec .flashGrant s = .next (s.setFlash { s.flash with
          port := some { purpose := .estimate, addr := addr, len := len, wanted := true } })) ∧
      ∀ p, s.flash.estimate = [] → s.renderer.play = some p →
        (s.renderer.phase = .lead ∨ s.renderer.phase = .item ∨ s.renderer.phase = .gap) →
        (∀ index language n, p.ahead = .looking index language [] → p.route = .floor →
          p.items[index]? = some (.phrase n) → n < (d.slot language).phrases →
          (d.slot language).table + 5 * n + 5 ≤ d.size →
          exec .flashGrant s = .next (s.setFlash { s.flash with
            port := some { purpose := .lookup, addr := (d.slot language).table + 5 * n, len := 5,
                           wanted := true } })) ∧
        (∀ index span, p.ahead = .sounds index → p.stream = [span] → p.filled = 0 →
          p.played = 0 → 0 < span.count →
          exec .flashGrant s = .next (s.setFlash { s.flash with
            port := some { purpose := .fill, addr := span.start, len := min span.count 128,
                           wanted := true } }))

/-- FLASH_READ_DONE (06 R105, R107, R110, 08 R144): while a read is on the port its select is low, and it sends the
command byte 0x03 and the three bytes of the address, most significant first, in 32 + 8n clock periods with the
data; then the port becomes free, with its select released; data no longer wanted is dropped, the directory's waits
for its judgement, an estimate's makes way for its next record (06 R123), a fill's goes into the buffer where the
stream has got to, and a compose's to the compose. The record of a PHRASE item makes it the item that sounds, or,
once for an entry, queues MISSING_PHRASE. -/
def Obligations.FlashReadDoneDelivers : Prop :=
  ∀ (s : State) (r : PortRead), s.flash.port = some r →
    let free : State := s.setFlash { s.flash with port := none }
    let data := readBytes s.phraseStore r.addr r.len
    (s.flashSelected = true ∧ s.flashSent =
      [0x03, byteOf (r.addr / 65536), byteOf (r.addr / 256), byteOf r.addr] ∧
      r.clocks = 32 + 8 * r.len ∧ free.flashSelected = false ∧ free.flashSent = []) ∧
    (r.wanted = false → exec .flashReadDone s = .next free) ∧
    (r.wanted = true → r.purpose = .directory → exec .flashReadDone s =
      .next (s.setFlash { s.flash with port := none, scanData := some data })) ∧
    (r.wanted = true → r.purpose = .estimate → exec .flashReadDone s =
      .next (s.setFlash { s.flash with port := none, estimate := s.flash.estimate.drop 1 })) ∧
    (∀ p, r.wanted = true → r.purpose = .fill → s.renderer.play = some p →
      exec .flashReadDone s = .next ((s.setFlash { s.flash with
        port := none, buffer := writeBuffer s.flash.buffer p.filled data }).setRenderer
          { s.renderer with play := some { p with filled := p.filled + data.length } })) ∧
    (∀ snap replies, r.wanted = true → r.purpose = .compose →
      s.display.compose = .composing snap replies → ∃ t, exec .flashReadDone s = .next t ∧
        t.display.compose = .composing snap (replies ++ [data]) ∧ t.agenda.ids = s.agenda.ids ∧
        t.changedIn s [.flash, .display, .agenda, .events]) ∧
    (∀ p d index language n, r.wanted = true → r.purpose = .lookup →
      s.renderer.play = some p → s.flash.store = .usable d → p.route = .floor →
      p.ahead = .looking index language [] → p.items[index]? = some (.phrase n) →
      n < (d.slot language).phrases → (d.slot language).table + 5 * n + 5 ≤ d.size →
      let start := numberOf (data.take 3)
      let count := numberOf ((data.drop 3).take 2)
      (1 ≤ count ∧ count ≤ 32000 ∧ start + count ≤ d.size → exec .flashReadDone s =
        .next (free.setRenderer { s.renderer with play := some { p with
          ahead := .sounds index, stream := [{ start := start, count := count }], filled := 0,
          played := 0 } })) ∧
      (count = 0 ∨ 32000 < count ∨ d.size < start + count →
        ∃ t, exec .flashReadDone s = .next t ∧ t.agenda.ids = s.agenda.ids ∧
          t.changedIn s [.flash, .renderer, .agenda, .events] ∧
          ∀ e, s.agenda.find p.ticket = some e →
            (e.phraseReported = true → t.events = s.events) ∧
            (e.phraseReported = false →
              t.events = (s.offer (.missingPhrase e.post.topic n)).events)))

/-! ### The host port (10) -/

/-- WRITE_TRANSACTION (10 R165, R166, R169): a write is taken into the empty buffer, up to its 64 bytes, and a frame
that no request code names is answered at once (log 10); with a request held the write is lost and the overrun flag
set; another lead byte changes nothing. Every byte sent is 0x00. A transaction that ends in DORMANT, and the one
whose select fell in DORMANT, is discarded (log 1). -/
def Obligations.WriteIsTakenOrLost : Prop :=
  ∀ (s : State) (lead : Byte) (frame : List Byte),
    let zeros := List.replicate (frame.length + 1) (0x00 : Byte)
    let kept := frame.take 64
    (lead ≠ 0xA1 ∨ s.rest.part = .dormant ∨ s.host.discard = true →
      exec (.writeTransaction (lead :: frame)) s =
        .next (s.setHost { s.host with discard := false, dataOut := zeros })) ∧
    (lead = 0xA1 → s.rest.part ≠ .dormant → s.host.discard = false →
      (s.host.request ≠ none → exec (.writeTransaction (lead :: frame)) s =
        .next (s.setHost { s.host with overrun := true, dataOut := zeros })) ∧
      (s.host.request = none →
        (requestRow kept ≠ none ∨ s.executes = false →
          exec (.writeTransaction (lead :: frame)) s =
            .next (s.setHost { s.host with request := some kept, dataOut := zeros })) ∧
        (requestRow kept = none → s.executes = true →
          exec (.writeTransaction (lead :: frame)) s = .next (s.setHost
            { s.answered (if readRequest kept ≠ none ∧ s.rest.part = .unset then .notSet
                else .malformed) [] with dataOut := zeros }))))

/-- READ_TRANSACTION of n bytes after the lead byte (10 R167, R169): the slot byte, and with READY the response
frame; it leaves the slot once its last bit has been clocked. A read that ends in DORMANT, and the one whose select
fell in DORMANT, is discarded and sends 0x00 (log 1). -/
def Obligations.ReadSendsTheSlot : Prop :=
  ∀ (s : State) (n : Nat),
    let zeros := List.replicate n (0x00 : Byte)
    let sends := fun (bytes : List Byte) (slot : Option (List Byte)) =>
      exec (.readTransaction n) s = .next (s.setHost { s.host with
        discard := false, slot := slot, dataOut := 0x00 :: (bytes ++ zeros).take n })
    (s.rest.part = .dormant ∨ s.host.discard = true → sends [] s.host.slot) ∧
    (s.rest.part ≠ .dormant → s.host.discard = false →
      (s.host.request ≠ none → sends [0x01] s.host.slot) ∧
      (s.host.request = none → s.host.slot = none → sends [0x00] none) ∧
      (∀ frame, s.host.request = none → s.host.slot = some frame →
        sends (0x5A :: frame) (if frame.length + 1 ≤ n then none else some frame)))

/-- The checks of a held request in their order (10 R168): a frame fault gives MALFORMED; then in UNSET every
request but SETUP, STATUS, ROSTER and EVENTS gives NOT_SET, and a set warm flag refuses SETUP. A refusal changes
nothing but the host port. A frame is good when its length byte, which counts code, body and check, is the one of
its code, and its check byte is the CRC-8 of the bytes before it. -/
def Obligations.RequestsAreCheckedInOrder : Prop :=
  (∀ (s : State) (row : RequestRow) (buffer : List Byte), s.executes = true →
    s.host.request = some buffer → requestRow buffer = some row →
    (readRequest buffer = none →
      exec row.command s = .next (s.setHost (s.answered .malformed []))) ∧
    (∀ code body, readRequest buffer = some (code, body) →
      (s.rest.part = .unset → row ≠ .setup → row ≠ .status → row ≠ .roster → row ≠ .events →
        exec row.command s = .next (s.setHost (s.answered .notSet []))) ∧
      (row = .setup → s.rest.warm = true →
        exec row.command s = .next (s.setHost (s.answered .alreadySet []))))) ∧
  (∀ (code check : Byte) (body : List Byte), body.length ≤ 61 →
    let fields := byteOf (body.length + 2) :: code :: body
    readRequest (fields ++ [check]) =
      if check = crc8 fields ∧ body.length + 2 = lengthOfCode code.toNat body then
        some (code.toNat, body)
      else none)

/-- SETUP's values (11 R180, 09 R153). The body of 30 bytes is MALFORMED when the machine kind, a role, the wake
sources or the qualifier holds a code outside its set. Otherwise each number is brought into its range, the own zone
joins the hear mask, each line has the role its byte names but for a second DOOR or PRESENCE, which is UNUSED, and
palette, rest levels, attention mask, wake sources and qualifier are those of their bytes. -/
def Obligations.SetupValuesAreClamped : Prop :=
  (∀ body : List Byte, body.length = 30 →
    let n := fun k => (body.getD k 0).toNat
    readSetup body = none ↔
      2 < n 2 ∨ (∃ k, k < 8 ∧ 6 < n (15 + k)) ∨ 8 ≤ n 28 ∨ 2 ≤ n 29) ∧
  ∀ (body : List Byte) (cfg : Settings) (kind : MachineKind), readSetup body = some (cfg, kind) →
    let n := fun k => (body.getD k 0).toNat
    cfg.zone = min (n 0) 3 ∧ cfg.hearMask.getLsbD cfg.zone = true ∧
      (∀ z, z < 4 → z ≠ cfg.zone → cfg.hearMask.getLsbD z = (body.getD 1 0).getLsbD z) ∧
      some kind = kindOfCode (n 2) ∧ cfg.beaconPeriod = max 1 (min (n 3) 10) ∧
      cfg.window = max 2 (min (n 4) 16) ∧ cfg.quietGap = max 2 (min (n 5) 30) ∧
      cfg.baseLevel = min (n 6) 63 ∧ cfg.aref = min (n 7) 47 ∧ cfg.slope = min (n 8) 4 ∧
      cfg.gainFloor = min (n 9) 63 ∧ cfg.defaultLanguage = min (n 10) 3 ∧
      cfg.presenceHold = max 2 (min (n 24) 60) ∧
      cfg.idleTime = max 30 (min (256 * n 25 + n 26) 900) ∧
      (∀ i j : Nat, cfg.roles[i]? = some Role.door → cfg.roles[j]? = some Role.door → i = j) ∧
      (∀ i j : Nat, cfg.roles[i]? = some Role.presence → cfg.roles[j]? = some Role.presence → i = j) ∧
      (∀ k : Nat, cfg.wakeSources.host = (body.getD 28 0).getLsbD 0 ∧
        (k < 5 → [cfg.attention.retired, cfg.attention.panel, cfg.attention.line,
          cfg.attention.store, cfg.attention.power][k]? = some ((body.getD 27 0).getLsbD k))) ∧
      cfg.restLevels = body.getD 23 0 ∧
      cfg.wakeSources.door = (body.getD 28 0).getLsbD 1 ∧
      cfg.wakeSources.presence = (body.getD 28 0).getLsbD 2 ∧
      cfg.qualifier = (if n 29 = 0 then .low else .high) ∧
      (body.length = 30 → cfg.roles.length = 8 ∧
        (∃ roles, readRoles ((body.drop 15).take 8) = some roles ∧
          cfg.roles = keepFirst .presence (keepFirst .door roles)) ∧
        (∀ k role, k < 8 → roleOfCode (n (15 + k)) = some role →
          cfg.roles[k]? = some role ∨
          cfg.roles[k]? = some .unused ∧ (role = .door ∨ role = .presence) ∧
            ∃ j, j < k ∧ roleOfCode (n (15 + j)) = some role) ∧
        (∀ k role, k < 8 → roleOfCode (n (15 + k)) = some role →
          (∀ j, j < k → roleOfCode (n (15 + j)) ≠ some role) → cfg.roles[k]? = some role) ∧
        cfg.palette = (List.range 4).map (fun k =>
          { level := n (11 + k) % 16, blink := (body.getD (11 + k) 0).getLsbD 7 }))

/-- SETUP in UNSET (11 R181, 04 R65, 05 R95, 09 R162, 08 R138): the settings and the machine kind take effect, the
warm flag is set and the part is ACTIVE; records that the hear mask does not share leave the lists; the first BEACON
is queued and the beacon timer loaded; the session starts in the default language; the door, presence and key-group
states are those of the filtered levels (09 R153); a compose starts (R140) and the display stream with the blink
phase ON; the idle timer is tested (R182); the response is OK. -/
def Obligations.SetupConfiguresThePart : Prop :=
  ∀ (s : State) (body : List Byte) (cfg : Settings) (kind : MachineKind), s.asks .setup body →
    s.rest.part = .unset → s.rest.warm = false → readSetup body = some (cfg, kind) →
    ∃ t, exec .setup s = .next t ∧ t.settings = cfg ∧ t.machine = { s.machine with kind := kind } ∧
      t.rest.part = .active ∧ t.rest.warm = true ∧ t.host = s.answered .ok [] ∧
      t.floor.claims = s.floor.claims.filter (fun r => cfg.hearMask &&& r.mask != 0) ∧
      t.floor.holders = s.floor.holders.filter (fun r => cfg.hearMask &&& r.mask != 0) ∧
      t.line = s.line.withBeacon
        (.beacon kind s.machine.availability cfg.zone s.machine.minutes) ∧
      t.roster = { s.roster with beaconTimer := some cfg.beaconPeriod } ∧
      t.panel.language = min cfg.defaultLanguage (s.flash.store.languages - 1) ∧
      t.panel.filters = s.panel.filters ∧
      t.panel.sessionTimer = (if t.panel.presence = .absent then some 0 else none) ∧
      (cfg.lineOf .presence = none → t.panel.presence = .present) ∧
      (cfg.lineOf .door = none → t.panel.door = .closed) ∧
      (∀ line, cfg.lineOf .door = some line →
        t.panel.door = (if s.panel.atRest cfg line = true then .closed else .opened)) ∧
      (∀ line, cfg.lineOf .presence = some line →
        t.panel.presence = (if s.panel.atRest cfg line = true then .absent else .present)) ∧
      (t.panel.keysAtRest = true ↔ ∀ k, k < 8 → (cfg.roles.getD k .unused).isKey = true →
        s.panel.atRest cfg k = true) ∧
      (s.agenda.entries = [] → s.display.compose = .idle →
        t.display.compose = .composing t.snapshot []) ∧
      t.rest.idleTimer = (if s.agenda.entries = [] ∧
          (t.panel.presence = .absent ∨ cfg.lineOf .presence = none) then
        some (s.rest.idleTimer.getD 0) else none) ∧
      t.display.blinkOn = true ∧ t.display.frameCount = 0 ∧ t.agenda.ids = s.agenda.ids ∧
      t.events.grewFrom s.events ∧ t.phraseStore = s.phraseStore ∧ t.pending = s.pending

/-! ### Requests to the agenda (01) -/

/-- The fields of a POST (01 R1), whose body has 11 bytes and two for each token: it is MALFORMED for topic 0, a
class, token kind or retire-on code outside its set, more than 12 tokens, or an argument of PHRASE, REFER or TONE
outside its range; every other field is stored in its range. POST of a new topic to an agenda with room, in ACTIVE
or STANDBY (01 R2, R3, R11, 11 R184): the entry joins the end of the admission list under the ticket issued, which
no live ticket equals; the response is ADMITTED with it, most significant byte first; STANDBY is left first with its
record. A POST whose fields are bad is MALFORMED (R1), and returns the part from STANDBY all the same. The new entry
starts with owed 1 and ahead 0, and the other entries' counts stand (02 R33). While an entry is PLAYING, so that no
play can start, every other credit stands, and the new entry is READY at an open gate, WAITING otherwise or when it
is silent. -/
def Obligations.PostIsAdmitted : Prop :=
  (∀ body : List Byte, body.length = 11 + 2 * (body.getD 10 0).toNat →
    let n := fun k => (body.getD k 0).toNat
    let kind := fun k => n (11 + 2 * k) / 16
    let arg := fun k => n (11 + 2 * k) % 16 * 256 + n (12 + 2 * k)
    let interval := 256 * n 4 + n 5
    (readPost body = none ↔ n 0 = 0 ∨ 5 < n 1 ∨ 3 < n 9 ∨ 12 < n 10 ∨
      ∃ k, k < n 10 ∧ (kind k = 0 ∨ 6 < kind k ∨ (kind k = 1 ∧ 1023 < arg k) ∨
        (kind k = 4 ∧ arg k ≠ 1 ∧ arg k ≠ 2) ∨ (kind k = 6 ∧ (arg k = 0 ∨ 8 < arg k)))) ∧
    ∀ p, readPost body = some p →
      p.topic = n 0 ∧
      [PromptClass.safety, .action, .ending, .step, .hint, .idle][n 1]? = some p.cls ∧
      p.page = n 2 ∧ p.tone = (if 8 < n 3 then 0 else n 3) ∧
      p.interval = (if interval = 0 then 0 else max 5 (min interval 600)) ∧
      p.count = (if interval = 0 then some 1 else if n 6 % 16 = 0 then none
        else some (n 6 % 16)) ∧
      p.expiry = min (256 * n 7 + n 8) 3600 ∧
      [RetireOn.never, .doorOpens, .doorCloses, .ackKey][n 9]? = some p.retireOn ∧
      p.tokens.length = n 10 ∧
      ∀ k, k < n 10 → p.tokens[k]? = [Token.phrase (arg k), .number (min (arg k) 99), .minutes,
        .refer (if arg k = 1 then .washer else .dryer), .pause (max 1 (min (arg k) 20)),
        .tone (arg k)][kind k - 1]?) ∧
  ∀ (s : State) (body : List Byte), s.asks .post body →
    (s.rest.part = .active ∨ s.rest.part = .standby) →
    (readPost body = none → ∃ t, exec .post s = .next t ∧ t.host = s.answered .malformed [] ∧
      t.rest.part = .active ∧ t.agenda.ids = s.agenda.ids ∧
      t.changedIn s [.host, .agenda, .flash, .display, .events, .rest] ∧
      (s.rest.part = .active → t = s.setHost (s.answered .malformed []))) ∧
    (∀ p, readPost body = some p → s.agenda.findTopic p.topic = none →
      s.agenda.entries.length < 16 → ∃ t, exec .post s = .next t ∧
        t.host = s.answered .admitted
          [byteOf (s.agenda.issue / 256), byteOf s.agenda.issue] ∧
        t.agenda.ids = s.agenda.ids ++ [(s.agenda.issue, p, none)] ∧
        (s.agenda.lawful → s.agenda.issue ∉ s.agenda.tickets) ∧
        t.agenda.nextTicket =
          (if s.agenda.issue < 65535 then s.agenda.issue + 1 else 1) ∧
        t.rest.part = .active ∧ t.changedIn s (.host :: Block.followUp) ∧
        t.events.grewFrom s.events ∧
        (s.rest.part = .standby → t.events.grewFrom (s.offer .standbyOff).events) ∧
        t.agenda.dues = s.agenda.dues ++ [(s.agenda.issue, 1, 0, none)] ∧
        (s.agenda.isPlaying = true → t.agenda.credits = s.agenda.credits ++
          [(s.agenda.issue,
            if (p.tokens ≠ [] ∨ p.tone ≠ 0) ∧
              (s.panel.presence = .present ∨ p.cls = .safety ∨ p.cls = .action ∨
                p.cls = .ending) then .ready else .waiting, 0, 1, 0, none)]))

/-- POST of a topic that an entry has (01 R12, R13, R14). An entry that is not PLAYING retires REPLACED first, and
the new one joins the end of the list under a fresh ticket. A PLAYING one stays: the POST is staged as its successor
under a ticket of its own, one staged before retires REPLACED with plays 0, and the play is asked to end by a cut
(06 R118); unless a retirement stands already, its end request is REPLACED. -/
def Obligations.PostReplacesOrIsStaged : Prop :=
  ∀ (s : State) (body : List Byte) (p : Post) (e : Entry), s.asks .post body →
    s.rest.part = .active → readPost body = some p → s.agenda.findTopic p.topic = some e →
    (e.state ≠ .playing →
      let left : Agenda :=
        { s.agenda with entries := s.agenda.entries.filter (·.ticket != e.ticket) }
      ∃ t, exec .post s = .next t ∧ t.host = s.answered .admitted (bytes2 left.issue) ∧
        t.agenda.ids = left.ids ++ [(left.issue, p, none)] ∧
        t.events.grewFrom (s.offer (.retired e.ticket e.post.topic .replaced e.plays)).events ∧
        t.changedIn s (.host :: .line :: Block.followUp)) ∧
    (e.state = .playing →
      let old : Agenda := s.agenda.modify e.ticket fun q => { q with successor := none }
      ∃ t, exec .post s = .next t ∧ t.host = s.answered .staged (bytes2 old.issue) ∧
        t.agenda.ids = old.ids.map (fun i =>
          if i.1 = e.ticket then (i.1, i.2.1, some { post := p, ticket := old.issue }) else i) ∧
        t.events = (match e.successor with
          | none => s
          | some q => s.offer (.retired q.ticket q.post.topic .replaced 0)).events ∧
        t.agenda.credits = s.agenda.credits ∧ t.renderer = s.renderer.cut ∧
        (∀ q, t.agenda.find e.ticket = some q → ∀ first, s.agenda.find e.ticket = some first →
          q.endRequest = (match first.endRequest with
            | .none => .retire .replaced
            | .interrupt => .retire .replaced
            | .retire o => .retire o)) ∧
        t.changedIn s [.host, .agenda, .renderer, .flash, .events])

/-- POST of a new topic to a full agenda (01 R16): the entry that is lowest in the urgency order among the WAITING
and READY ones, the last admitted of equal keys, is DISPLACED when the new key is strictly greater than its key;
otherwise the POST is refused AGENDA_FULL and nothing changes but the response. -/
def Obligations.FullAgendaDisplacesTheLowest : Prop :=
  ∀ (s : State) (body : List Byte) (p : Post) (before after : List Entry) (low : Entry),
    s.asks .post body → s.rest.part = .active → readPost body = some p →
    s.agenda.findTopic p.topic = none → 16 ≤ s.agenda.entries.length →
    s.agenda.entries = before ++ low :: after →
    (low.state = .waiting ∨ low.state = .ready) →
    (∀ q ∈ before, q.state = .waiting ∨ q.state = .ready → low.key ≤ q.key) →
    (∀ q ∈ after, q.state = .waiting ∨ q.state = .ready → low.key < q.key) →
    (low.key < urgencyKey p.cls 0 1 false →
      let left : Agenda :=
        { s.agenda with entries := s.agenda.entries.filter (·.ticket != low.ticket) }
      ∃ t, exec .post s = .next t ∧ t.host = s.answered .admitted (bytes2 left.issue) ∧
        t.agenda.ids = left.ids ++ [(left.issue, p, none)] ∧
        t.events.grewFrom
          (s.offer (.retired low.ticket low.post.topic .displaced low.plays)).events ∧
        t.changedIn s (.host :: Block.followUp)) ∧
    (urgencyKey p.cls 0 1 false ≤ low.key →
      exec .post s = .next (s.setHost (s.answered .agendaFull [])))

/-- WITHDRAW (01 R22): topic 0 is MALFORMED and an unknown one UNKNOWN_TOPIC, with nothing else changed. An entry
that is not PLAYING leaves with its WITHDRAWN record; a PLAYING one stays until its play ends, which is cut (06
R118), its end request WITHDRAWN unless a retirement other than REPLACED stands. A staged successor retires
WITHDRAWN at once, its record first. -/
def Obligations.WithdrawRetiresTheTopic : Prop :=
  ∀ (s : State) (topic : Byte), s.asks .withdraw [topic] → s.rest.part ≠ .unset →
    (topic = 0 → exec .withdraw s = .next (s.setHost (s.answered .malformed []))) ∧
    (topic ≠ 0 → s.agenda.findTopic topic.toNat = none →
      exec .withdraw s = .next (s.setHost (s.answered .unknownTopic []))) ∧
    (∀ e, topic ≠ 0 → s.agenda.findTopic topic.toNat = some e →
      let first : State := match e.successor with
        | none => s
        | some q => s.offer (.retired q.ticket q.post.topic .withdrawn 0)
      ∃ t, exec .withdraw s = .next t ∧ t.host = s.answered .ok [] ∧
        t.changedIn s (.host :: .line :: Block.followUp) ∧
        (e.state ≠ .playing → t.agenda.ids = s.agenda.ids.filter (·.1 != e.ticket) ∧
          t.events.grewFrom
            (first.offer (.retired e.ticket e.post.topic .withdrawn e.plays)).events) ∧
        (e.state = .playing → t.agenda.ids = s.agenda.ids.map (fun i =>
            if i.1 = e.ticket then (i.1, i.2.1, none) else i) ∧
          t.events.grewFrom first.events ∧ t.renderer = s.renderer.cut ∧
          ∀ q, t.agenda.find e.ticket = some q → ∀ was, s.agenda.find e.ticket = some was →
            q.endRequest = (match was.endRequest with
              | .none => .retire .withdrawn
              | .interrupt => .retire .withdrawn
              | .retire o => .retire (if o = .replaced then .withdrawn else o))))

/-! ### The other requests (05, 09, 10, 11) -/

/-- MACHINE and BASEPAGE after SETUP (10 R170, R171, 05 R96, 01 R18). MACHINE with an availability outside its set
is MALFORMED; otherwise the record takes the three values, the kind stands, and a change of availability or minutes
queues a BEACON and reloads the beacon timer. The base page is the page, or none for 255, and with no entry that has
a page it is the display owner. -/
def Obligations.MachineAndBasePageAreWritten : Prop :=
  (∀ (s : State) (a minutes progress : Byte), s.asks .machine [a, minutes, progress] →
    s.rest.part ≠ .unset →
    (availabilityOfCode a.toNat = none →
      exec .machine s = .next (s.setHost (s.answered .malformed []))) ∧
    (∀ av, availabilityOfCode a.toNat = some av → ∃ t, exec .machine s = .next t ∧
      t.host = s.answered .ok [] ∧
      t.machine = { s.machine with
        availability := av, minutes := minutes.toNat, progress := progress.toNat } ∧
      t.agenda.ids = s.agenda.ids ∧
      t.changedIn s [.host, .machine, .line, .roster, .display, .flash, .agenda, .events] ∧
      (s.machine.availability = av → s.machine.minutes = minutes.toNat →
        t.line = s.line ∧ t.roster = s.roster) ∧
      (s.machine.availability ≠ av ∨ s.machine.minutes ≠ minutes.toNat →
        t.line = s.line.withBeacon
          (.beacon s.machine.kind av s.settings.zone minutes.toNat) ∧
        t.roster = { s.roster with beaconTimer := some s.settings.beaconPeriod }))) ∧
  (∀ (s : State) (page : Byte), s.asks .basepage [page] → s.rest.part ≠ .unset →
    ∃ t, exec .basepage s = .next t ∧ t.host = s.answered .ok [] ∧
      t.agenda.basePage = (if page = 0xFF then none else some page.toNat) ∧
      t.agenda.ids = s.agenda.ids ∧
      t.changedIn s [.host, .agenda, .display, .flash, .events] ∧
      ((∀ e ∈ s.agenda.entries, e.post.page = 255) →
        t.agenda.owner = (if page = 0xFF then .builtIn else .basePage page.toNat)))

/-- EVENTS, STATUS and ROSTER (10 R173, R175, 05 R102, 12 R190). The oldest records, eight at most, leave the queue
with the EVENTS response, which counts them and the overflow; the overflow count becomes 0. STATUS holds the header
and a record for each entry in admission order, ROSTER each peer record with its age left in whole seconds, at least
1; they change nothing else. -/
def Obligations.ReportsSayWhatStands : Prop :=
  (∀ s : State, s.asks .events [] →
    exec .events s = .next ((s.setEvents
      { queue := s.events.queue.drop 8, overflow := 0 }).setHost (s.answered .ok
        (byteOf (min 8 s.events.queue.length) :: byteOf s.events.overflow ::
          (s.events.queue.take 8).flatMap EventRecord.bytes)))) ∧
  (∀ s : State,
    (s.asks .status [] → exec .status s = .next (s.setHost (s.answered .ok
      ([partCode s.rest.part, storeCode s.flash.store, floorCode s.floor.ctx,
        (if s.floor.isolated = true then 1 else 0) +
          (if s.panel.presence = .present then 2 else 0) +
          (if s.panel.door = .opened then 4 else 0),
        s.agenda.entries.length, s.events.queue.length, s.level.amb, s.level.lastLevel,
        s.level.gain, s.panel.language].map byteOf ++
        s.agenda.entries.flatMap (fun e => [e.post.topic, e.ticket / 256, e.ticket,
          classCode e.post.cls + 8 * entryStateCode e.state +
            (if e.interrupted = true then 32 else 0),
          e.key, 16 * e.owed + e.ahead, e.remaining.getD 255].map byteOf))))) ∧
    (s.asks .roster [] → exec .roster s = .next (s.setHost (s.answered .ok
      (byteOf s.roster.records.length :: s.roster.records.flatMap (fun r =>
        [r.station, 64 * kindCode r.kind + 16 * availabilityCode r.availability + 4 * r.zone,
          r.minutes, max 1 ((r.age + 9) / 10), 0].map byteOf))))))

/-- REST(STANDBY), the idle timer's expiry, and REST(ACTIVE) (10 R172, 11 R182, R183, R184). STANDBY is entered from
ACTIVE with an empty agenda: the record, no idle timer, the compose aborted with the front buffer kept, the
amplifier enable dropped, and the floor context IDLE (04 R90), although no settle tick has found the agenda empty.
With an entry in the agenda REST(STANDBY) is refused AGENDA_BUSY, and in STANDBY it is OK and changes nothing.
REST(ACTIVE) brings the part back, with the record. -/
def Obligations.StandbyIsEnteredAndLeft : Prop :=
  ∀ s : State,
    (∀ command result, (command = .restStandby ∧ s.asks .restStandby [1] ∧
          result = s.answered .ok [] ∨
        command = .idleTimerExpiry ∧ s.rest.idleTimer = some s.settings.idleTime ∧
          (s.panel.presence = .absent ∨ s.settings.lineOf .presence = none) ∧
          result = s.host) →
      s.rest.part = .active → s.agenda.entries = [] → ∃ t, exec command s = .next t ∧
        t.host = result ∧ t.rest = { s.rest with part := .standby, idleTimer := none } ∧
        t.events = (s.offer .standbyOn).events ∧ t.display.front = s.display.front ∧
        t.display.compose = .idle ∧ t.renderer = { s.renderer with
          enable := false, dropTimer := none } ∧
        (s.floor.ctx.isHolding = false → t.floor = { s.floor with ctx := .idle }) ∧
        (s.floor.ctx.isHolding = true → t.floor = s.floor) ∧
        t.changedIn s [.host, .rest, .events, .floor, .display, .flash, .renderer]) ∧
    (s.asks .restStandby [1] → s.rest.part = .active → s.agenda.entries ≠ [] →
      exec .restStandby s = .next (s.setHost (s.answered .agendaBusy []))) ∧
    (s.asks .restStandby [1] → s.rest.part = .standby →
      exec .restStandby s = .next (s.setHost (s.answered .ok []))) ∧
    (s.asks .restActive [0] → (s.rest.part = .active ∨ s.rest.part = .standby) →
      ∃ t, exec .restActive s = .next t ∧ t.host = s.answered .ok [] ∧
        t.rest.part = .active ∧ t.agenda.ids = s.agenda.ids ∧
        t.changedIn s (.host :: Block.followUp) ∧
        (s.rest.part = .standby → t.events.grewFrom (s.offer .standbyOff).events ∧
          t.display.blinkOn = true ∧ t.display.frameCount = 0))

/-- REST(DORMANT) (10 R172, 11 R185, 01 R24, 04 R90, 03 R63): SETTLING with its limit of 2 s; every entry and staged
successor retires RESTED, in admission order; the TALK/CLAIM and BEACON slots are empty and the beacon timer is
stopped; a hold leaves a DONE, unless ISOLATED is set and no TALK of it was sent; a play fades. -/
def Obligations.RestDormantSettles : Prop :=
  ∀ s : State, s.asks .restDormant [2] → (s.rest.part = .active ∨ s.rest.part = .standby) →
    ∃ t, exec .restDormant s = .next t ∧ t.host = s.answered .ok [] ∧
      t.rest = { s.rest with part := .settling, idleTimer := none, settlingLimit := some 2000 } ∧
      t.agenda.entries = [] ∧ t.agenda.nextTicket = s.agenda.nextTicket ∧
      t.agenda.basePage = s.agenda.basePage ∧
      t.events = ((s.agenda.entries.flatMap Entry.restedRecords).foldl State.offer s).events ∧
      t.floor = { s.floor with ctx := .idle } ∧
      t.line.talkSlot = Slot.empty ∧ t.line.beaconSlot = Slot.empty ∧
      (∀ bid hold, s.floor.ctx = .holding bid hold →
        s.floor.isolated = false ∨ hold.announced = true →
        t.line.doneSlot = queuedTo s.line.doneSlot (decide (s.line.onLine = some .done)) .done) ∧
      (∀ bid hold, s.floor.ctx = .holding bid hold →
        s.floor.isolated = true → hold.announced = false → t.line.doneSlot = s.line.doneSlot) ∧
      (s.floor.ctx.isHolding = false → t.line.doneSlot = s.line.doneSlot) ∧
      t.roster = { s.roster with beaconTimer := none } ∧
      (s.renderer.play ≠ none → t.renderer.phase = .fade) ∧ t.display.compose = .idle ∧
      t.changedIn s [.host, .rest, .agenda, .events, .floor, .line, .roster, .flash, .renderer,
        .level, .display]

/-- SESSION_END, and SESSION_TIMEOUT at 120 s (09 R162, R163): the language becomes the default in use and the
session timer stops. PRESENCE_HOLD_EXPIRY (09 R161, 02 R39): the state becomes ABSENT with its record and the
session timer starts from 0; while an entry is PLAYING, so that no play can start, each READY entry of class STEP,
HINT or IDLE without the replay flag returns to WAITING with wait 0, and no other credit changes. -/
def Obligations.SessionsEnd : Prop :=
  (∀ (s : State) (command : Instr) (result : HostPort),
    (command = .sessionEnd ∧ s.asks .sessionEnd [] ∧ s.rest.part ≠ .unset ∧
        result = s.answered .ok [] ∨
      command = .sessionTimeout ∧ s.panel.sessionTimer = some 120 ∧ result = s.host) →
    ∃ t, exec command s = .next t ∧ t.host = result ∧
      t.panel = { s.panel with
        language := min s.settings.defaultLanguage (s.flash.store.languages - 1),
        sessionTimer := none } ∧
      t.agenda.ids = s.agenda.ids ∧
      t.changedIn s [.host, .panel, .display, .flash, .agenda, .events]) ∧
  (∀ s : State, s.panel.holdTimer = some 0 → s.panel.presence = .present →
    ∃ t, exec .presenceHoldExpiry s = .next t ∧
      t.panel = { s.panel with presence := .absent, holdTimer := none, sessionTimer := some 0 } ∧
      t.agenda.ids = s.agenda.ids ∧ t.changedIn s (.panel :: Block.followUp) ∧
      (∀ line, s.settings.lineOf .presence = some line →
        t.events.grewFrom (s.offer (.presence line false)).events) ∧
      (s.agenda.isPlaying = true → t.agenda.credits = (s.agenda.entries.map fun e =>
        if e.state = .ready ∧ e.replay = false ∧
            (e.post.cls = .step ∨ e.post.cls = .hint ∨ e.post.cls = .idle) then
          ({ e with state := .waiting, wait := 0 } : Entry)
        else e).map Entry.credit))

/-! ### Speech (06) -/

/-- LEAD_EXPIRY and GAP_EXPIRY with the timer run out (06 R111, R113): the item that the lookup found begins, with a
tone part at the pattern's first sample and a PAUSE for its length; with none left the tail begins. A LEAD that
finds every item empty waits for its timer before the tail, which is the model's choice (log 13). -/
def Obligations.ItemsFollowLeadAndGap : Prop :=
  ∀ (s : State) (p : Play) (command : Instr),
    (command = .leadExpiry ∧ s.renderer.phase = .lead ∨
      command = .gapExpiry ∧ s.renderer.phase = .gap) →
    s.renderer.play = some p → s.renderer.timer = 0 →
    (p.ahead = .exhausted → ∃ t, exec command s = .next t ∧ t.changedIn s [.renderer, .flash] ∧
      t.renderer = { s.renderer with phase := .tail, timer := 80 }) ∧
    ∀ index, p.ahead = .sounds index →
      let at_ : Renderer :=
        { s.renderer with phase := .item, play := some { p with index := index } }
      (∀ item, p.items[index]? = some item → item.kind = .speech →
        exec command s = .next (s.setRenderer at_)) ∧
      (∀ n, p.items[index]? = some (.tone n) → exec command s =
        .next ((s.setRenderer at_).setLevel
          { s.level with tone := some { pattern := n, segment := 0, sample := 0 } })) ∧
      (∀ n, p.items[index]? = some (.pause n) → ∃ t, exec command s = .next t ∧
        t.changedIn s [.renderer, .flash, .agenda, .events] ∧ t.agenda.ids = s.agenda.ids ∧
        t.renderer.phase = .item ∧ t.renderer.timer = 800 * n ∧
        t.renderer.play.map (·.index) = some index)

/-- ITEM_END, PATTERN_END and PAUSE_EXPIRY of the item that has sounded to its end (06 R113, R118, 07 R134): after a
cut request, and after the last item, comes the tail; the item after a PAUSE follows at once; after another item
comes a gap of 80 ms, in which the next item, here a PHRASE of the language, is looked up. -/
def Obligations.ItemsEndInAGapOrTheTail : Prop :=
  ∀ (s : State) (p : Play) (item : Item) (command : Instr), s.renderer.phase = .item →
    s.renderer.play = some p → p.items[p.index]? = some item →
    (command = .itemEnd ∧ item.kind = .speech ∧ streamLength p.stream ≤ p.played ∨
      command = .patternEnd ∧ item.kind = .tone ∧ (∃ c, s.level.tone = some c ∧ c.value = none) ∨
      command = .pauseExpiry ∧ item.kind = .pause ∧ s.renderer.timer = 0 ∧
        p.isLooking = false) →
    ∃ t, exec command s = .next t ∧ t.agenda.ids = s.agenda.ids ∧
      t.changedIn s [.renderer, .level, .flash, .agenda, .events] ∧
      (item.kind ≠ .pause → t.level = { s.level with tone := none }) ∧
      (p.stop = .cut → t.renderer.phase = .tail ∧ t.renderer.timer = 80) ∧
      (p.stop ≠ .cut → item.kind = .pause → p.ahead = .exhausted →
        t.renderer.phase = .tail ∧ t.renderer.timer = 80) ∧
      (∀ index next, p.stop ≠ .cut → item.kind = .pause → p.ahead = .sounds index →
        p.items[index]? = some next → t.renderer.phase = .item ∧
        t.renderer.play.map (·.index) = some index) ∧
      (p.stop ≠ .cut → item.kind ≠ .pause → p.items.length ≤ p.index + 1 →
        t.renderer.phase = .tail ∧ t.renderer.timer = 80) ∧
      (∀ d n, p.stop ≠ .cut → item.kind ≠ .pause → s.flash.store = .usable d →
        p.route = .floor → p.items[p.index + 1]? = some (.phrase n) →
        n < (d.slot s.panel.language).phrases →
        (d.slot s.panel.language).table + 5 * n + 5 ≤ d.size →
        t.renderer = { s.renderer with
          phase := .gap, timer := 640,
          play := some { p with lastPlayed := some item.kind,
                                ahead := .looking (p.index + 1) s.panel.language [] } })

/-- TAIL_EXPIRY, FADE_EXPIRY and ENABLE_DROP (06 R118, R119, R120, 04 R84, 01 R10). The play ends, and the renderer
reports it: cut when its tail runs out with the stop request CUT, and otherwise completed, and faded after a fade.
It is IDLE unless a next play starts at once: the amplifier enable drops with the tail, and 80 sample periods after
a fade (log 24). A retirement request retires the entry with its outcome, its record after any that the cleared
binding's compose makes (05 R101). An interrupt keeps the entry and its counts, clears the replay flag and sets the
interrupted flag (02 R43). A completed play is accounted (02 R40), and the entry leaves SPOKEN with no play
remaining (R41). A staged successor is admitted. HOLDING is left: a renewal is removed and a DONE queued, unless no
peer knows of the hold. -/
def Obligations.PlaysEndWithTheirReport : Prop :=
  (∀ (s : State) (p : Play) (command : Instr) (enable : Bool) (drop : Option Nat)
      (how : PlayEnding),
    (command = .tailExpiry ∧ s.renderer.phase = .tail ∧ enable = false ∧ drop = none ∧
        how = (if p.stop = .cut then .cut else .completed) ∨
      command = .fadeExpiry ∧ s.renderer.phase = .fade ∧ enable = true ∧ drop = some 80 ∧
        how = .faded) →
    s.renderer.play = some p → s.renderer.timer = 0 →
    ∃ t, exec command s = .next t ∧ t.changedIn s (.line :: Block.followUp) ∧
      t.renderer.report = some { ticket := p.ticket, ending := how } ∧
      (s.rest.part ≠ .active ∨ t.agenda.isPlaying = false ∨
          (∀ q ∈ s.agenda.entries, q.post.isSilent = true ∧ q.ticket ≠ p.ticket ∨
            q.ticket = p.ticket ∧ q.successor = none ∧ ∃ o, q.endRequest = .retire o) →
        t.renderer = { phase := .idle, timer := 0, play := none, enable := enable,
                       dropTimer := drop,
                       report := some { ticket := p.ticket, ending := how } }) ∧
      (∀ e, s.agenda.find p.ticket = some e →
        let leaves := fun (o : Retirement) (plays : Nat) =>
          t.agenda.ids = s.agenda.ids.filter (·.1 != e.ticket) ++
            (e.successor.map fun q => (q.ticket, q.post, none)).toList ∧
          (e.binding = none ∨ s.agenda.owner ≠ .entry p.ticket →
            t.events.grewFrom (s.offer (.retired e.ticket e.post.topic o plays)).events) ∧
          ∃ u : State, u.events.grewFrom s.events ∧
            t.events.grewFrom (u.offer (.retired e.ticket e.post.topic o plays)).events
        (∀ o, e.endRequest = .retire o → leaves o e.plays) ∧
        (e.endRequest = .none → e.account.remaining = some 0 → leaves .spoken e.account.plays) ∧
        (∀ kept : Entry, (e.endRequest = .interrupt ∧ kept = { e with interrupted := true } ∨
            e.endRequest = .none ∧ e.account.remaining ≠ some 0 ∧ kept = e.account) →
          t.agenda.ids = s.agenda.ids ∧ ∃ q, t.agenda.find e.ticket = some q ∧
            q.due = kept.due ∧ q.remaining = kept.remaining ∧ q.plays = kept.plays ∧
            q.replay = false ∧ q.wait = 0 ∧ q.state ≠ .bidding ∧
            (q.state ≠ .playing → q.interrupted = kept.interrupted ∧ q.playKind = none ∧
              q.endRequest = .none ∧ q.binding = none))) ∧
      (s.floor.ctx.isHolding = false → t.line = s.line) ∧
      (∀ bid hold, s.floor.ctx = .holding bid hold → t.line.talkSlot = Slot.empty ∧
        (s.floor.isolated = false ∨ hold.announced = true → t.line.doneSlot =
          queuedTo s.line.doneSlot (decide (s.line.onLine = some .done)) .done) ∧
        (s.floor.isolated = false ∨ s.rest.part ≠ .active → t.floor.ctx.isHolding = false) ∧
        (s.floor.isolated = true → hold.announced = false →
          t.line.doneSlot = s.line.doneSlot))) ∧
  (∀ s : State, s.renderer.dropTimer = some 0 → exec .enableDrop s =
    .next (s.setRenderer { s.renderer with enable := false, dropTimer := none }))

/-! ### Sound level and tones (07) -/

/-- SAMPLE_PERIOD with the core clock running, in a window that is not full (06 R119, 07 R124, R125, R127, R131 to
R133): the window takes the sample's absolute value and the marks; the DAC takes the centre code in silence, the
scaled sample of a speech item, the scaled value of a tone, or the next step of a fade's ramp; the renderer's timers
count down, the drop of the enable after a fade in sample periods too (log 24). The byte of the buffer is played
whether or not its refill has come, which 06 R107's times make sure of (log 14). With the clock stopped nothing
happens. -/
def Obligations.SamplePeriodPlaysAndListens : Prop :=
  ∀ (s : State) (adc : BitVec 8),
    (s.clocked = false → exec (.samplePeriod adc) s = .next s) ∧
    (s.clocked = true → s.level.count < 4000 →
      let code := fun v : Int =>
        (max 0 (min 4095 (2048 + v * [256, 228, 203, 181, 161, 144].getD
          ((63 - s.level.gain) % 6) 0 / 256 / 2 ^ ((63 - s.level.gain) / 6)))).toNat
      ∃ t, exec (.samplePeriod adc) s = .next t ∧ t.changedIn s [.level, .renderer] ∧
        t.level = { s.level with
          count := s.level.count + 1, sum := s.level.sum + adc.toInt.natAbs,
          soundingSeen := s.level.soundingSeen || s.renderer.enable,
          holderSeen := s.level.holderSeen || !s.floor.holders.isEmpty,
          dac := t.level.dac, tone := t.level.tone } ∧
        t.renderer.phase = s.renderer.phase ∧ t.renderer.enable = s.renderer.enable ∧
        t.renderer.dropTimer = s.renderer.dropTimer.map (· - 1) ∧
        (s.renderer.phase = .lead ∨ s.renderer.phase = .gap ∨ s.renderer.phase = .tail ∨
          s.renderer.phase = .fade → t.renderer.timer = s.renderer.timer - 1) ∧
        (s.renderer.enable = false ∨ s.renderer.phase = .idle ∨ s.renderer.phase = .lead ∨
          s.renderer.phase = .gap ∨ s.renderer.phase = .tail → t.level.dac = 2048) ∧
        ∀ p, s.renderer.play = some p → s.renderer.enable = true →
          (s.renderer.phase = .fade → 1 ≤ s.renderer.timer → s.renderer.timer ≤ 160 →
            p.fadeFrom ≤ 4095 → (t.level.dac : Int) =
              2048 + (((p.fadeFrom : Int) - 2048) * ((s.renderer.timer : Int) - 1)).tdiv 160) ∧
          ∀ item, s.renderer.phase = .item → p.items[p.index]? = some item →
            (item.kind = .speech → p.played < streamLength p.stream →
              t.level.dac = code ((s.flash.buffer.getD (p.played % 256) 0).toInt * 16) ∧
              t.renderer.play = some { p with played := p.played + 1 }) ∧
            (item.kind = .pause → t.level.dac = 2048 ∧
              t.renderer.timer = s.renderer.timer - 1) ∧
            ∀ c seg, item.kind = .tone → s.level.tone = some c →
              (tonePattern c.pattern)[c.segment]? = some seg →
              t.level.dac =
                code (if c.sample % seg.period < (seg.period + 1) / 2 then 1024 else -1024) ∧
              t.level.tone = some (if c.sample + 1 < seg.samples then
                  { c with sample := c.sample + 1 }
                else { c with segment := c.segment + 1, sample := 0 }))

/-- The level of a mean (07 R126). -/
def Obligations.LevelOfAMean : Prop :=
  (∀ mean, mean ≤ 1 → levelOfMean mean = 0) ∧
  (∀ h low : Nat, 1 ≤ h → low < 2 ^ h →
    let f := low * 4 / 2 ^ h
    levelOfMean (2 ^ h + low) =
      6 * h + (if f = 0 then 0 else if f = 1 then 2 else if f = 2 then 4 else 5)) ∧
  (∀ mean, 1 ≤ mean → levelOfMean (2 * mean) = levelOfMean mean + 6) ∧
  levelOfMean 128 = 42 ∧ ∀ mean, mean ≤ 128 → levelOfMean mean ≤ 42

/-- AMBIENT_WINDOW_END of a full window (07 R125, R126, R127): the level of the mean is the last window level, and
Amb too when neither mark is set and the part is UNSET or ACTIVE; the next window is empty. -/
def Obligations.AmbientWindowsEnd : Prop :=
  ∀ s : State, s.level.count = 4000 →
    exec .ambientWindowEnd s = .next (s.setLevel { s.level with
      lastLevel := levelOfMean (s.level.sum / 4000),
      amb := if s.level.soundingSeen = false ∧ s.level.holderSeen = false ∧
          (s.rest.part = .unset ∨ s.rest.part = .active) then
          levelOfMean (s.level.sum / 4000)
        else s.level.amb,
      count := 0, sum := 0, soundingSeen := false, holderSeen := false })

/-- The gain code of a play (07 R129). -/
def Obligations.GainCodeOfAPlay : Prop :=
  ∀ (cfg : Settings) (amb : Nat) (cls : PromptClass) (isolated : Bool), cfg.gainFloor ≤ 63 →
    let c : Int := max 0 (min 12 ((((amb : Int) - cfg.aref) * cfg.slope).fdiv 4))
    let boost : Int := if cls = .safety then 6 else 0
    let penalty : Int := if isolated = true then 12 else 0
    (gainCode cfg amb cls isolated : Int) =
        max (cfg.gainFloor : Int) (min 63 ((cfg.baseLevel : Int) + c + boost - penalty)) ∧
      cfg.gainFloor ≤ gainCode cfg amb cls isolated ∧ gainCode cfg amb cls isolated ≤ 63

/-! ### The display (08) -/

/-- COMPOSE_END and FRAME_BOUNDARY (08 R137, R138, R139, R142): a compose that has drawn all waits for its swap; at
a boundary in ACTIVE the buffers are exchanged if a swap waits, and a flagged recompose then starts; the frame count
steps, and after 42 frames the blink phase changes. The frame that follows sends each pixel of the front buffer, row
0 first and column 0 first in a row, at the drive level of its palette entry, or 0 where it blinks in the phase OFF:
four bits on the data line, most significant first, one in each period of the display clock, with the frame-start
output high in the first bit of pixel 0 alone. After the 16,384 bits the clock is stopped and the lines are low.
Outside ACTIVE there is no boundary, and nothing is sent. -/
def Obligations.FramesSwapAndBlink : Prop :=
  ∀ s : State,
    (∀ snap replies drawn, s.display.compose = .composing snap replies →
      composeProgress s.flash.store snap replies = some (.done drawn) →
      exec .composeEnd s = .next (s.setDisplay { s.display with compose := .swapPending })) ∧
    (s.rest.part ≠ .active → exec .frameBoundary s = .next s ∧ s.frameStream = [] ∧
      ∀ n, s.displayPins n = { clock := false, data := false, frameStart := false }) ∧
    (s.rest.part = .active → ∃ t, exec .frameBoundary s = .next t ∧
      t.agenda.ids = s.agenda.ids ∧ t.changedIn s [.display, .flash, .agenda, .events] ∧
      t.frameStream.length = 4096 ∧
      (∀ x y, x < 128 → y < 32 → ∀ colour, s.settings.palette[
          2 * (t.display.front.plane1.getLsbD (128 * y + x)).toNat +
            (t.display.front.plane0.getLsbD (128 * y + x)).toNat]? = some colour →
        let level := if colour.blink = true ∧ t.display.blinkOn = false then 0 else colour.level
        t.frameStream[128 * y + x]? = some level ∧
        ∀ bit, bit < 4 → t.displayPins (4 * (128 * y + x) + bit) =
          { clock := true, data := level.testBit (3 - bit),
            frameStart := decide (x = 0 ∧ y = 0 ∧ bit = 0) }) ∧
      (∀ n, 16384 ≤ n → t.displayPins n = { clock := false, data := false, frameStart := false }) ∧
      t.display.frameCount =
        (if s.display.frameCount + 1 < 42 then s.display.frameCount + 1 else 0) ∧
      t.display.blinkOn =
        (if s.display.frameCount + 1 < 42 then s.display.blinkOn else !s.display.blinkOn) ∧
      (s.display.compose ≠ .swapPending → t.display = { s.display with
        frameCount := t.display.frameCount, blinkOn := t.display.blinkOn }) ∧
      (s.display.compose = .swapPending → t.display.front = s.display.back ∧
        t.display.recompose = false ∧
        (s.display.recompose = false → t.display.back = s.display.front ∧
          t.display.compose = .idle) ∧
        (s.display.recompose = true → t.display.compose = .composing s.snapshot [])))

/-- Drawing an item (08 R145): pixels of the box in columns below 128 and rows below 32 take the colour's bit
combined with the old one where the shape covers, 0 elsewhere under an opaque item, in the planes enabled; every
other pixel keeps its bits. -/
def Obligations.ItemsPaintTheirBox : Prop :=
  ∀ (paint : Paint) (x y width : Nat) (rows : List Nat) (p : Picture) (px py : Nat),
    px < 128 → py < 32 →
    let inBox : Bool := decide (x ≤ px ∧ px < x + width ∧ y ≤ py ∧ py < y + rows.length)
    let covered : Bool := inBox && (rows.getD (py - y) 0).testBit (px - x)
    let i := 128 * py + px
    let after := fun (enabled colourBit old : Bool) =>
      if enabled = true ∧ covered = true then
        (match paint.op with
         | .replace => colourBit
         | .and => colourBit && old
         | .or => colourBit || old
         | .xor => xor colourBit old)
      else if enabled = true ∧ inBox = true ∧ paint.opaqueBox = true then false
      else old
    let q := drawRows paint x y width rows p
    q.plane0.getLsbD i = after paint.plane0 (paint.colour % 2 == 1) (p.plane0.getLsbD i) ∧
      q.plane1.getLsbD i = after paint.plane1 (paint.colour / 2 == 1) (p.plane1.getLsbD i)

/-! ### The panel (09) -/

/-- PANEL_SAMPLE (09 R154, R155, R156): in every state the filters of the sampled lines step, the first sample
setting the level and the fourth in a row that differs changing it. With the clock running, at a sample that shows
no change of the DOOR line and of the PRESENCE line, where there are such lines, a key line away from rest while the
group was at rest makes one press of the lowest such line; with the group not at rest before, or all at rest now,
there is none. A press returns the part from STANDBY first (11 R184), queues its record, restarts the session timer,
and has the effect of its role. LANGUAGE takes the next language and interrupts a play (R158). REPEAT sets the
replay flag of the WAITING or READY entry whose play began last, which is then READY or has begun its play (R157, 02
R42). ACKNOWLEDGE retires the PLAYING entry that waits for it, by a cut, or else the display owner that does (R159);
any other key retires nothing. -/
def Obligations.PanelSamplesAndPresses : Prop :=
  ∀ (s : State) (levels : BitVec 8), ∃ t, exec (.panelSample levels) s = .next t ∧
    t.changedIn s (.line :: .panel :: Block.followUp) ∧
    t.panel.filters = (List.range 8).map (fun k =>
      let f := s.panel.filters.getD k { level := .low, count := 0, primed := false }
      let now : Level := if levels.getLsbD k = true then .high else .low
      if s.isSampled k = true then
        (if f.primed = false then { level := now, count := 0, primed := true }
         else if now = f.level then { f with count := 0 }
         else if f.count < 3 then { f with count := f.count + 1 }
         else { f with level := now, count := 0 })
      else f) ∧
    (s.doorSteady levels = true → s.presenceSteady levels = true → s.clocked = true →
      let down := (s.filtersStepped levels).panel.keyDown s.settings
      (down = none → t = (s.filtersStepped levels).setPanel
        { (s.filtersStepped levels).panel with keysAtRest := true }) ∧
      (s.panel.keysAtRest = false → down ≠ none → t = s.filtersStepped levels) ∧
      ∀ k, s.panel.keysAtRest = true → down = some k →
        let role := s.settings.roles.getD k .unused
        let key : EventRecord := .key k role
        t.panel.keysAtRest = false ∧
        t.rest.part = (if s.rest.part = .standby then .active else s.rest.part) ∧
        (s.rest.part ≠ .standby → t.events.grewFrom (s.offer key).events) ∧
        (s.rest.part = .standby → t.events.grewFrom (s.offer .standbyOff).events ∧
          (s.agenda.entries = [] → t.events.grewFrom ((s.offer .standbyOff).offer key).events)) ∧
        t.panel.sessionTimer = s.panel.sessionTimer.map (fun _ => 0) ∧
        t.panel.language = (if role = .language then
            (if s.panel.language + 1 < s.flash.store.languages then s.panel.language + 1 else 0)
          else s.panel.language) ∧
        (role ≠ .acknowledge → t.agenda.ids = s.agenda.ids) ∧
        (∀ e, role = .language → t.panel.language ≠ s.panel.language →
          s.agenda.playing = some e → t.renderer = s.renderer.cut ∧
          ∃ q, t.agenda.find e.ticket = some q ∧ ∀ was, s.agenda.find e.ticket = some was →
            q.endRequest = was.endRequest.asked .interrupt) ∧
        (∀ e start, role = .repeatKey → s.agenda.find e.ticket = some e →
          e.lastPlayStart = some start →
          (∀ q ∈ s.agenda.entries, q ≠ e → ∀ other, q.lastPlayStart = some other →
            other.order < start.order) →
          ∃ q, t.agenda.find e.ticket = some q ∧
            (e.state = .bidding ∨ e.state = .playing → q.replay = e.replay) ∧
            (e.state = .waiting ∨ e.state = .ready → q.replay = true ∧
              (e.post.isSilent = false → q.state = .ready ∨ q.state = .playing))) ∧
        (∀ e, role = .acknowledge →
          (s.agenda.entries.find? fun q => q.state == .playing && q.post.retireOn == .ackKey) =
            some e →
          t.agenda.ids = s.agenda.ids ∧ t.renderer = s.renderer.cut ∧
          ∃ q, t.agenda.find e.ticket = some q ∧ ∀ was, s.agenda.find e.ticket = some was →
            q.endRequest = was.endRequest.asked (.retire .acknowledged)) ∧
        (role = .acknowledge →
          (∀ q ∈ s.agenda.entries, ¬ (q.state = .playing ∧ q.post.retireOn = .ackKey)) →
          (∀ e, s.agenda.owner = .entry e.ticket → s.agenda.find e.ticket = some e →
            e.post.retireOn = .ackKey →
            t.agenda.ids = s.agenda.ids.filter (·.1 != e.ticket) ∧
            (s.rest.part ≠ .standby → t.events.grewFrom ((s.offer key).offer
              (.retired e.ticket e.post.topic .acknowledged e.plays)).events)) ∧
          ((∀ e ∈ s.agenda.entries, s.agenda.owner = .entry e.ticket →
              e.post.retireOn ≠ .ackKey) → t.agenda.ids = s.agenda.ids)))

/-- PANEL_SAMPLE without a press and without a change of the PRESENCE line, if there is one, when the DOOR line's
new filtered level shows another door state (09 R160, 01 R23): the state and its record, after the return from
STANDBY (11 R184); the entries whose retire-on matches the edge leave unless they are PLAYING, their SATISFIED
records in admission order after the PANEL record; a PLAYING one is asked to retire SATISFIED, and no other entry
leaves. In DORMANT the edge is marked as a wake that WAKE then takes (11 R187), which is the model's own field (log
20). Without a press and without a change of the DOOR line, if there is one, a PRESENCE line (09 R161): its level
leaving rest is an arrival while the state is ABSENT, with its record after the return from STANDBY, and while an
entry is PLAYING, so that no play can start, makes the WAITING entries READY that the open gate lets through (02
R39); it stops the presence hold otherwise; its level returning to rest starts the hold while the state is PRESENT.
-/
def Obligations.DoorAndPresenceChangesAreTaken : Prop :=
  (∀ (s : State) (levels : BitVec 8) (line : Nat) (door : Door),
    s.settings.lineOf .door = some line → s.presenceSteady levels = true → s.noPress levels = true →
    door = (if (s.filtersStepped levels).panel.atRest s.settings line = true then .closed
      else .opened) →
    s.panel.door ≠ door →
    ∃ t, exec (.panelSample levels) s = .next t ∧ t.panel.door = door ∧
      t.rest.part = (if s.rest.part = .standby then .active else s.rest.part) ∧
      (s.rest.part ≠ .standby → t.events.grewFrom (s.offer (.door line door)).events) ∧
      (s.rest.part = .standby → t.events.grewFrom (s.offer .standbyOff).events ∧
        (s.agenda.entries = [] →
          t.events.grewFrom ((s.offer .standbyOff).offer (.door line door)).events)) ∧
      t.changedIn s (.line :: .panel :: Block.followUp) ∧
      (∀ e ∈ s.agenda.entries, e.state ≠ .playing →
        (e.post.retireOn = .doorOpens ∧ door = .opened ∨
          e.post.retireOn = .doorCloses ∧ door = .closed) →
        ∀ i ∈ t.agenda.ids, i.1 ≠ e.ticket) ∧
      (∀ e ∈ s.agenda.entries, s.agenda.find e.ticket = some e → e.state = .playing →
        (e.post.retireOn = .doorOpens ∧ door = .opened ∨
          e.post.retireOn = .doorCloses ∧ door = .closed) →
        ∀ q, t.agenda.find e.ticket = some q →
          q.endRequest = e.endRequest.asked (.retire .satisfied) ∧ t.renderer = s.renderer.cut) ∧
      (∀ e ∈ s.agenda.entries,
        (∀ q ∈ s.agenda.entries, q.ticket = e.ticket → q.state = .playing ∨
          ¬ (q.post.retireOn = .doorOpens ∧ door = .opened ∨
            q.post.retireOn = .doorCloses ∧ door = .closed)) →
        e.id ∈ t.agenda.ids) ∧
      (t.events.queue.length < 16 →
        (.door line door :: (s.agenda.entries.filter fun e => decide (e.state ≠ .playing ∧
            (e.post.retireOn = .doorOpens ∧ door = .opened ∨
              e.post.retireOn = .doorCloses ∧ door = .closed))).map fun e =>
          EventRecord.retired e.ticket e.post.topic .satisfied e.plays).Sublist
            (t.events.queue.drop s.events.queue.length)) ∧
      (s.rest.part = .dormant → s.rest.wakeReport = none →
        t.rest.wakeReport = some .door)) ∧
  (∀ (s : State) (levels : BitVec 8) (line : Nat),
    s.doorSteady levels = true → s.settings.lineOf .presence = some line → s.noPress levels = true →
    let before := s.panel.atRest s.settings line
    let now := (s.filtersStepped levels).panel.atRest s.settings line
    ∃ t, exec (.panelSample levels) s = .next t ∧ t.agenda.ids = s.agenda.ids ∧
      t.changedIn s (.panel :: Block.followUp) ∧
      (before = true → now = false → s.panel.presence = .absent →
        t.panel.presence = .present ∧ t.panel.sessionTimer = none ∧
        (s.agenda.isPlaying = true → t.agenda.credits =
          (s.agenda.entries.map fun e => e.madeReady .present).map Entry.credit) ∧
        t.rest.part = (if s.rest.part = .standby then .active else s.rest.part) ∧
        (s.rest.part ≠ .standby → t.events.grewFrom (s.offer (.presence line true)).events) ∧
        (s.rest.part = .standby → t.events.grewFrom (s.offer .standbyOff).events ∧
          (s.agenda.entries = [] →
            t.events.grewFrom ((s.offer .standbyOff).offer (.presence line true)).events)) ∧
        (s.rest.part = .dormant → s.rest.wakeReport = none →
          t.rest.wakeReport = some .presence)) ∧
      (¬ (before = true ∧ now = false ∧ s.panel.presence = .absent) →
        t.changedIn s [.panel] ∧ t.panel.presence = s.panel.presence ∧
        t.panel.holdTimer = (if s.panel.presence = .absent ∨ before = now then s.panel.holdTimer
          else if now = false then none else some (10 * s.settings.presenceHold))))

/-! ### Rest and wake (11) -/

/-- DORMANT_ENTRY, with the DONE slot empty and the speaker at rest, and SETTLING_LIMIT, with the DONE slot still
full and its LINE ABANDONED record (11 R185, R186, 03 R64, 04 R90, 05 R104, 06 R121, 07 R128, R135, 08 R152, 09
R164): the part is DORMANT, and each block holds its DORMANT values: the transmit output recessive (R44), the
renderer IDLE with the enable dropped and its last end report as it was (log 32), the flash port idle with its
select released once the directory scan has ended (log 33), a read still on it broken off (log 41). What R186 keeps
stands. -/
def Obligations.DormantEntryStopsTheBlocks : Prop :=
  ∀ (s : State) (command : Instr) (events : EventQueue), s.rest.part = .settling →
    (command = .dormantEntry ∧ s.line.doneSlot.frame = none ∧ s.renderer.phase = .idle ∧
        s.renderer.enable = false ∧ events = s.events ∨
      command = .settlingLimit ∧ s.rest.settlingLimit = some 0 ∧ s.line.doneSlot.frame ≠ none ∧
        events = (s.offer (.lineAbandoned .done)).events) →
    ∃ t, exec command s = .next t ∧ t.events = events ∧ t.agenda = s.agenda ∧
      t.rest = { s.rest with
        part := .dormant, idleTimer := none, settlingLimit := none, wakeReport := none } ∧
      t.line = Line.initial ∧
      t.floor = { s.floor with ctx := .idle, claims := [], holders := [], quietAge := 0 } ∧
      t.roster = { records := [], beaconTimer := none, duplicateTimer := none } ∧
      (∀ n, t.transmitOut n = .recessive) ∧
      t.renderer = { phase := .idle, timer := 0, play := none, enable := false, dropTimer := none,
                     report := s.renderer.report } ∧
      t.level = { s.level with
        count := 0, sum := 0, soundingSeen := false, holderSeen := false, dac := 2048,
        tone := none } ∧
      t.display = { s.display with
        front := Picture.blank, back := Picture.blank, compose := .idle, recompose := false,
        fallback := false } ∧
      t.panel = { s.panel with
        holdTimer := none, sessionTimer := none,
        language := min s.settings.defaultLanguage (s.flash.store.languages - 1),
        presence := if s.settings.lineOf .presence = none then s.panel.presence else .absent } ∧
      (s.flash.store = .scanning → t.flash = s.flash) ∧
      (s.flash.store ≠ .scanning → t.flash = { s.flash with port := none, estimate := [] } ∧
        t.flashSelected = false ∧ t.flashSent = []) ∧
      t.changedIn s [.rest, .line, .floor, .roster, .renderer, .flash, .level, .display, .panel,
        .events]

/-- WAKE in DORMANT by a source of the wake source set, and WAKING_END once its 5 ms have passed (11 R187, 05 R95,
08 R138, 10 R169): the record and WAKING; then ACTIVE, with a BEACON queued, a compose and the display stream begun,
and a held request executed; a held frame that names no request is MALFORMED (log 10). The lines that were not
sampled take their levels from the first sample, and the states of the panel follow from them without a record (09
R164). A door edge or arrival that the panel monitor has marked came first and takes the wake, whatever event then
reports it; the mark is the model's own field (log 20). A host select that no mark precedes has its transaction
discarded, whether it wakes the part or not (log 1). The 5 ms are counted by steps with no command (log 2). -/
def Obligations.WakeLeadsToActive : Prop :=
  (∀ (s : State) (event : WakeEvent) (source : WakeSource), s.rest.part = .dormant →
    s.rest.wakeReport = some source →
    exec (.wake event) s = .next (((s.setEvents (s.offer (.woke source)).events).setRest
      { s.rest with part := .waking, wakeReport := none }).setTimebase
        { s.timebase with wakeSettle := some 5 })) ∧
  (∀ s : State, s.rest.part = .dormant → s.rest.wakeReport = none →
    exec (.wake .panelReport) s = .next s ∧
    (s.settings.wakeSources.host = true →
      exec (.wake (.hostSelect s.settings.qualifier)) s =
        .next ((((s.setEvents (s.offer (.woke .host)).events).setRest
          { s.rest with part := .waking, wakeReport := none }).setTimebase
            { s.timebase with wakeSettle := some 5 }).setHost { s.host with discard := true })) ∧
    ∀ pin : Level, (s.settings.wakeSources.host = false ∨ pin ≠ s.settings.qualifier) →
      exec (.wake (.hostSelect pin)) s = .next (s.setHost { s.host with discard := true })) ∧
  (∀ (s : State) (levels : BitVec 8), s.rest.part = .waking → s.timebase.wakeSettle = some 0 →
    ∃ t, exec (.wakingEnd levels) s = .next t ∧ t.phraseStore = s.phraseStore ∧
      t.pending = s.pending ∧
      (s.host.request = none → t.rest.part = .active ∧ t.events.grewFrom s.events ∧ t.rest.warm = s.rest.warm ∧
        t.host = s.host ∧ t.agenda.ids = s.agenda.ids ∧
        t.line = s.line.withBeacon (.beacon s.machine.kind s.machine.availability
          s.settings.zone s.machine.minutes) ∧
        t.roster = { s.roster with beaconTimer := some s.settings.beaconPeriod } ∧
        t.display.blinkOn = true ∧ t.display.frameCount = 0 ∧
        (s.agenda.entries = [] → s.display.compose = .idle →
          t.display.compose = .composing t.snapshot []) ∧
        t.panel.filters = (List.range 8).map (fun k =>
          let role := s.settings.roles.getD k .unused
          if role = .door ∧ s.settings.wakeSources.door = true ∨
              role = .presence ∧ s.settings.wakeSources.presence = true then
            s.panel.filters.getD k { level := .low, count := 0, primed := false }
          else { level := if levels.getLsbD k = true then .high else .low, count := 0,
                 primed := true }) ∧
        (t.panel.keysAtRest = true ↔ ∀ k, k < 8 → (s.settings.roles.getD k .unused).isKey = true →
          t.panel.atRest s.settings k = true) ∧
        (s.settings.wakeSources.door = true → t.panel.door = s.panel.door) ∧
        (s.settings.wakeSources.door = false → t.panel.door = (match s.settings.lineOf .door with
          | none => .closed
          | some line => if t.panel.atRest s.settings line = true then .closed else .opened)) ∧
        (s.settings.wakeSources.presence = true → t.panel.presence = s.panel.presence) ∧
        (s.settings.wakeSources.presence = false →
          t.panel.presence = (match s.settings.lineOf .presence with
            | none => .present
            | some line => if t.panel.atRest s.settings line = true then .absent else .present)) ∧
        t.panel.sessionTimer = (if t.panel.presence = .absent then some 0 else none) ∧
        t.panel.language = s.panel.language ∧ t.panel.holdTimer = s.panel.holdTimer ∧
        t.changedIn s (.line :: .roster :: .panel :: Block.followUp)) ∧
      (∀ buffer, s.host.request = some buffer → requestRow buffer = none →
        t.host = s.answered .malformed [] ∧ t.rest.part = .active ∧ t.agenda.ids = s.agenda.ids ∧
        t.changedIn s (.host :: .line :: .roster :: .panel :: Block.followUp)) ∧
      (∀ buffer row, s.host.request = some buffer → requestRow buffer = some row →
        ∃ u : State, exec row.command u = .next t ∧ u.host = s.host ∧ u.rest.part = .active ∧
          u.rest.warm = s.rest.warm ∧ u.events.grewFrom s.events ∧
          u.agenda.ids = s.agenda.ids ∧
          u.line = s.line.withBeacon (.beacon s.machine.kind s.machine.availability
            s.settings.zone s.machine.minutes) ∧
          u.roster = { s.roster with beaconTimer := some s.settings.beaconPeriod } ∧
          u.changedIn s (.line :: .roster :: .panel :: Block.followUp)) ∧
      (∀ buffer, s.host.request = some buffer → requestRow buffer = some .status →
        ∀ code, readRequest buffer = some (code, []) → t.rest.part = .active ∧
          t.host.request = none ∧ ∃ body, t.host.slot =
            some (responseFrame .ok s.host.overrun body)))

/-! ### Laws that every step keeps -/

/-- Every step has a next state: no command and no state stops the part. -/
def Obligations.EveryStepHasANextState : Prop := ∀ s : State, ∃ t, step s = .next t

/-- The event queue keeps its bounds (10 R174), the warm flag is set in every part state but UNSET (11 R188), and no
step writes the phrase store, so that it keeps its canonical form. -/
def Obligations.StepsKeepQueueWarmFlagAndStore : Prop :=
  ∀ s t : State, step s = .next t → (s.events.bounded → t.events.bounded) ∧
    (s.warmLawful → t.warmLawful) ∧ t.phraseStore = s.phraseStore ∧
    (Memory.wf s.phraseStore = true → Memory.wf t.phraseStore = true)

/-- The station number stays a station number, and Claims Heard, Holders and the roster keep at most one record of a
station, none of the own, and none of one station in both lists (03 R47, 04 R67, 05 R91). -/
def Obligations.StepsKeepTheListsLawful : Prop :=
  ∀ s t : State, step s = .next t → (s.strapLawful → t.strapLawful) ∧
    (s.strapLawful → s.listsLawful → t.listsLawful) ∧
    (s.strapLawful → s.rosterLawful → t.rosterLawful)

/-- The agenda keeps its law: at most 16 entries, no topic twice, no ticket of an entry or a staged successor twice,
each successor under its entry's topic (01 R3, R11). With it the law of turns is kept, by which at most one entry is
BIDDING or PLAYING (01 R5), and the law of credit, by which owed and ahead lie in 0 to 8 and are never both above 0
(02 R33). -/
def Obligations.StepsKeepTheAgendaLawful : Prop :=
  ∀ s t : State, step s = .next t → s.agenda.lawful → t.agenda.lawful ∧
    (s.turnLawful → t.turnLawful) ∧ (s.agenda.creditLawful → t.agenda.creditLawful)

/-- The law of 06 R116 is kept: a play on the FLOOR route that is not fading plays while the floor context is
HOLDING. -/
def Obligations.StepsKeepSpeechInTheHold : Prop :=
  ∀ s t : State, step s = .next t → s.speechLawful → t.speechLawful

/-- The state right after reset, and after a COLD_RESET in any state, has every law the steps keep. -/
def Obligations.ResetHasTheLaws : Prop :=
  ∀ s : State, (s = State.reset ∨
      ∃ stn xsel s', exec (.coldReset stn xsel) s' = .next s) →
    s.events.bounded ∧ s.warmLawful ∧ s.strapLawful ∧ s.listsLawful ∧ s.rosterLawful ∧
      s.agenda.lawful ∧ s.turnLawful ∧ s.agenda.creditLawful ∧ s.speechLawful ∧
      (s = State.reset → Memory.wf s.phraseStore = true ∧ s.pending = [])

end
end

