-- ==== Sys2Proof/Laws/State.lean ====
section
/-! SUPPORT. The field lemmas of the block updates: each reads one field of one updated state. -/

namespace Sys2Proof.Machine.State

@[simp] theorem setTimebase_timebase (s : State) (b : Timebase) : (s.setTimebase b).timebase = b := rfl
@[simp] theorem setTimebase_host (s : State) (b : Timebase) : (s.setTimebase b).host = s.host := rfl
@[simp] theorem setTimebase_machine (s : State) (b : Timebase) : (s.setTimebase b).machine = s.machine := rfl
@[simp] theorem setTimebase_settings (s : State) (b : Timebase) : (s.setTimebase b).settings = s.settings := rfl
@[simp] theorem setTimebase_agenda (s : State) (b : Timebase) : (s.setTimebase b).agenda = s.agenda := rfl
@[simp] theorem setTimebase_floor (s : State) (b : Timebase) : (s.setTimebase b).floor = s.floor := rfl
@[simp] theorem setTimebase_line (s : State) (b : Timebase) : (s.setTimebase b).line = s.line := rfl
@[simp] theorem setTimebase_roster (s : State) (b : Timebase) : (s.setTimebase b).roster = s.roster := rfl
@[simp] theorem setTimebase_flash (s : State) (b : Timebase) : (s.setTimebase b).flash = s.flash := rfl
@[simp] theorem setTimebase_renderer (s : State) (b : Timebase) : (s.setTimebase b).renderer = s.renderer := rfl
@[simp] theorem setTimebase_level (s : State) (b : Timebase) : (s.setTimebase b).level = s.level := rfl
@[simp] theorem setTimebase_display (s : State) (b : Timebase) : (s.setTimebase b).display = s.display := rfl
@[simp] theorem setTimebase_panel (s : State) (b : Timebase) : (s.setTimebase b).panel = s.panel := rfl
@[simp] theorem setTimebase_events (s : State) (b : Timebase) : (s.setTimebase b).events = s.events := rfl
@[simp] theorem setTimebase_rest (s : State) (b : Timebase) : (s.setTimebase b).rest = s.rest := rfl
@[simp] theorem setTimebase_phraseStore (s : State) (b : Timebase) : (s.setTimebase b).phraseStore = s.phraseStore := rfl
@[simp] theorem setTimebase_pending (s : State) (b : Timebase) : (s.setTimebase b).pending = s.pending := rfl

@[simp] theorem setHost_timebase (s : State) (b : HostPort) : (s.setHost b).timebase = s.timebase := rfl
@[simp] theorem setHost_host (s : State) (b : HostPort) : (s.setHost b).host = b := rfl
@[simp] theorem setHost_machine (s : State) (b : HostPort) : (s.setHost b).machine = s.machine := rfl
@[simp] theorem setHost_settings (s : State) (b : HostPort) : (s.setHost b).settings = s.settings := rfl
@[simp] theorem setHost_agenda (s : State) (b : HostPort) : (s.setHost b).agenda = s.agenda := rfl
@[simp] theorem setHost_floor (s : State) (b : HostPort) : (s.setHost b).floor = s.floor := rfl
@[simp] theorem setHost_line (s : State) (b : HostPort) : (s.setHost b).line = s.line := rfl
@[simp] theorem setHost_roster (s : State) (b : HostPort) : (s.setHost b).roster = s.roster := rfl
@[simp] theorem setHost_flash (s : State) (b : HostPort) : (s.setHost b).flash = s.flash := rfl
@[simp] theorem setHost_renderer (s : State) (b : HostPort) : (s.setHost b).renderer = s.renderer := rfl
@[simp] theorem setHost_level (s : State) (b : HostPort) : (s.setHost b).level = s.level := rfl
@[simp] theorem setHost_display (s : State) (b : HostPort) : (s.setHost b).display = s.display := rfl
@[simp] theorem setHost_panel (s : State) (b : HostPort) : (s.setHost b).panel = s.panel := rfl
@[simp] theorem setHost_events (s : State) (b : HostPort) : (s.setHost b).events = s.events := rfl
@[simp] theorem setHost_rest (s : State) (b : HostPort) : (s.setHost b).rest = s.rest := rfl
@[simp] theorem setHost_phraseStore (s : State) (b : HostPort) : (s.setHost b).phraseStore = s.phraseStore := rfl
@[simp] theorem setHost_pending (s : State) (b : HostPort) : (s.setHost b).pending = s.pending := rfl

@[simp] theorem setMachine_timebase (s : State) (b : MachineRecord) : (s.setMachine b).timebase = s.timebase := rfl
@[simp] theorem setMachine_host (s : State) (b : MachineRecord) : (s.setMachine b).host = s.host := rfl
@[simp] theorem setMachine_machine (s : State) (b : MachineRecord) : (s.setMachine b).machine = b := rfl
@[simp] theorem setMachine_settings (s : State) (b : MachineRecord) : (s.setMachine b).settings = s.settings := rfl
@[simp] theorem setMachine_agenda (s : State) (b : MachineRecord) : (s.setMachine b).agenda = s.agenda := rfl
@[simp] theorem setMachine_floor (s : State) (b : MachineRecord) : (s.setMachine b).floor = s.floor := rfl
@[simp] theorem setMachine_line (s : State) (b : MachineRecord) : (s.setMachine b).line = s.line := rfl
@[simp] theorem setMachine_roster (s : State) (b : MachineRecord) : (s.setMachine b).roster = s.roster := rfl
@[simp] theorem setMachine_flash (s : State) (b : MachineRecord) : (s.setMachine b).flash = s.flash := rfl
@[simp] theorem setMachine_renderer (s : State) (b : MachineRecord) : (s.setMachine b).renderer = s.renderer := rfl
@[simp] theorem setMachine_level (s : State) (b : MachineRecord) : (s.setMachine b).level = s.level := rfl
@[simp] theorem setMachine_display (s : State) (b : MachineRecord) : (s.setMachine b).display = s.display := rfl
@[simp] theorem setMachine_panel (s : State) (b : MachineRecord) : (s.setMachine b).panel = s.panel := rfl
@[simp] theorem setMachine_events (s : State) (b : MachineRecord) : (s.setMachine b).events = s.events := rfl
@[simp] theorem setMachine_rest (s : State) (b : MachineRecord) : (s.setMachine b).rest = s.rest := rfl
@[simp] theorem setMachine_phraseStore (s : State) (b : MachineRecord) : (s.setMachine b).phraseStore = s.phraseStore := rfl
@[simp] theorem setMachine_pending (s : State) (b : MachineRecord) : (s.setMachine b).pending = s.pending := rfl

@[simp] theorem setSettings_timebase (s : State) (b : Settings) : (s.setSettings b).timebase = s.timebase := rfl
@[simp] theorem setSettings_host (s : State) (b : Settings) : (s.setSettings b).host = s.host := rfl
@[simp] theorem setSettings_machine (s : State) (b : Settings) : (s.setSettings b).machine = s.machine := rfl
@[simp] theorem setSettings_settings (s : State) (b : Settings) : (s.setSettings b).settings = b := rfl
@[simp] theorem setSettings_agenda (s : State) (b : Settings) : (s.setSettings b).agenda = s.agenda := rfl
@[simp] theorem setSettings_floor (s : State) (b : Settings) : (s.setSettings b).floor = s.floor := rfl
@[simp] theorem setSettings_line (s : State) (b : Settings) : (s.setSettings b).line = s.line := rfl
@[simp] theorem setSettings_roster (s : State) (b : Settings) : (s.setSettings b).roster = s.roster := rfl
@[simp] theorem setSettings_flash (s : State) (b : Settings) : (s.setSettings b).flash = s.flash := rfl
@[simp] theorem setSettings_renderer (s : State) (b : Settings) : (s.setSettings b).renderer = s.renderer := rfl
@[simp] theorem setSettings_level (s : State) (b : Settings) : (s.setSettings b).level = s.level := rfl
@[simp] theorem setSettings_display (s : State) (b : Settings) : (s.setSettings b).display = s.display := rfl
@[simp] theorem setSettings_panel (s : State) (b : Settings) : (s.setSettings b).panel = s.panel := rfl
@[simp] theorem setSettings_events (s : State) (b : Settings) : (s.setSettings b).events = s.events := rfl
@[simp] theorem setSettings_rest (s : State) (b : Settings) : (s.setSettings b).rest = s.rest := rfl
@[simp] theorem setSettings_phraseStore (s : State) (b : Settings) : (s.setSettings b).phraseStore = s.phraseStore := rfl
@[simp] theorem setSettings_pending (s : State) (b : Settings) : (s.setSettings b).pending = s.pending := rfl

@[simp] theorem setAgenda_timebase (s : State) (b : Agenda) : (s.setAgenda b).timebase = s.timebase := rfl
@[simp] theorem setAgenda_host (s : State) (b : Agenda) : (s.setAgenda b).host = s.host := rfl
@[simp] theorem setAgenda_machine (s : State) (b : Agenda) : (s.setAgenda b).machine = s.machine := rfl
@[simp] theorem setAgenda_settings (s : State) (b : Agenda) : (s.setAgenda b).settings = s.settings := rfl
@[simp] theorem setAgenda_agenda (s : State) (b : Agenda) : (s.setAgenda b).agenda = b := rfl
@[simp] theorem setAgenda_floor (s : State) (b : Agenda) : (s.setAgenda b).floor = s.floor := rfl
@[simp] theorem setAgenda_line (s : State) (b : Agenda) : (s.setAgenda b).line = s.line := rfl
@[simp] theorem setAgenda_roster (s : State) (b : Agenda) : (s.setAgenda b).roster = s.roster := rfl
@[simp] theorem setAgenda_flash (s : State) (b : Agenda) : (s.setAgenda b).flash = s.flash := rfl
@[simp] theorem setAgenda_renderer (s : State) (b : Agenda) : (s.setAgenda b).renderer = s.renderer := rfl
@[simp] theorem setAgenda_level (s : State) (b : Agenda) : (s.setAgenda b).level = s.level := rfl
@[simp] theorem setAgenda_display (s : State) (b : Agenda) : (s.setAgenda b).display = s.display := rfl
@[simp] theorem setAgenda_panel (s : State) (b : Agenda) : (s.setAgenda b).panel = s.panel := rfl
@[simp] theorem setAgenda_events (s : State) (b : Agenda) : (s.setAgenda b).events = s.events := rfl
@[simp] theorem setAgenda_rest (s : State) (b : Agenda) : (s.setAgenda b).rest = s.rest := rfl
@[simp] theorem setAgenda_phraseStore (s : State) (b : Agenda) : (s.setAgenda b).phraseStore = s.phraseStore := rfl
@[simp] theorem setAgenda_pending (s : State) (b : Agenda) : (s.setAgenda b).pending = s.pending := rfl

@[simp] theorem setFloor_timebase (s : State) (b : Floor) : (s.setFloor b).timebase = s.timebase := rfl
@[simp] theorem setFloor_host (s : State) (b : Floor) : (s.setFloor b).host = s.host := rfl
@[simp] theorem setFloor_machine (s : State) (b : Floor) : (s.setFloor b).machine = s.machine := rfl
@[simp] theorem setFloor_settings (s : State) (b : Floor) : (s.setFloor b).settings = s.settings := rfl
@[simp] theorem setFloor_agenda (s : State) (b : Floor) : (s.setFloor b).agenda = s.agenda := rfl
@[simp] theorem setFloor_floor (s : State) (b : Floor) : (s.setFloor b).floor = b := rfl
@[simp] theorem setFloor_line (s : State) (b : Floor) : (s.setFloor b).line = s.line := rfl
@[simp] theorem setFloor_roster (s : State) (b : Floor) : (s.setFloor b).roster = s.roster := rfl
@[simp] theorem setFloor_flash (s : State) (b : Floor) : (s.setFloor b).flash = s.flash := rfl
@[simp] theorem setFloor_renderer (s : State) (b : Floor) : (s.setFloor b).renderer = s.renderer := rfl
@[simp] theorem setFloor_level (s : State) (b : Floor) : (s.setFloor b).level = s.level := rfl
@[simp] theorem setFloor_display (s : State) (b : Floor) : (s.setFloor b).display = s.display := rfl
@[simp] theorem setFloor_panel (s : State) (b : Floor) : (s.setFloor b).panel = s.panel := rfl
@[simp] theorem setFloor_events (s : State) (b : Floor) : (s.setFloor b).events = s.events := rfl
@[simp] theorem setFloor_rest (s : State) (b : Floor) : (s.setFloor b).rest = s.rest := rfl
@[simp] theorem setFloor_phraseStore (s : State) (b : Floor) : (s.setFloor b).phraseStore = s.phraseStore := rfl
@[simp] theorem setFloor_pending (s : State) (b : Floor) : (s.setFloor b).pending = s.pending := rfl

@[simp] theorem setLine_timebase (s : State) (b : Line) : (s.setLine b).timebase = s.timebase := rfl
@[simp] theorem setLine_host (s : State) (b : Line) : (s.setLine b).host = s.host := rfl
@[simp] theorem setLine_machine (s : State) (b : Line) : (s.setLine b).machine = s.machine := rfl
@[simp] theorem setLine_settings (s : State) (b : Line) : (s.setLine b).settings = s.settings := rfl
@[simp] theorem setLine_agenda (s : State) (b : Line) : (s.setLine b).agenda = s.agenda := rfl
@[simp] theorem setLine_floor (s : State) (b : Line) : (s.setLine b).floor = s.floor := rfl
@[simp] theorem setLine_line (s : State) (b : Line) : (s.setLine b).line = b := rfl
@[simp] theorem setLine_roster (s : State) (b : Line) : (s.setLine b).roster = s.roster := rfl
@[simp] theorem setLine_flash (s : State) (b : Line) : (s.setLine b).flash = s.flash := rfl
@[simp] theorem setLine_renderer (s : State) (b : Line) : (s.setLine b).renderer = s.renderer := rfl
@[simp] theorem setLine_level (s : State) (b : Line) : (s.setLine b).level = s.level := rfl
@[simp] theorem setLine_display (s : State) (b : Line) : (s.setLine b).display = s.display := rfl
@[simp] theorem setLine_panel (s : State) (b : Line) : (s.setLine b).panel = s.panel := rfl
@[simp] theorem setLine_events (s : State) (b : Line) : (s.setLine b).events = s.events := rfl
@[simp] theorem setLine_rest (s : State) (b : Line) : (s.setLine b).rest = s.rest := rfl
@[simp] theorem setLine_phraseStore (s : State) (b : Line) : (s.setLine b).phraseStore = s.phraseStore := rfl
@[simp] theorem setLine_pending (s : State) (b : Line) : (s.setLine b).pending = s.pending := rfl

@[simp] theorem setRoster_timebase (s : State) (b : Roster) : (s.setRoster b).timebase = s.timebase := rfl
@[simp] theorem setRoster_host (s : State) (b : Roster) : (s.setRoster b).host = s.host := rfl
@[simp] theorem setRoster_machine (s : State) (b : Roster) : (s.setRoster b).machine = s.machine := rfl
@[simp] theorem setRoster_settings (s : State) (b : Roster) : (s.setRoster b).settings = s.settings := rfl
@[simp] theorem setRoster_agenda (s : State) (b : Roster) : (s.setRoster b).agenda = s.agenda := rfl
@[simp] theorem setRoster_floor (s : State) (b : Roster) : (s.setRoster b).floor = s.floor := rfl
@[simp] theorem setRoster_line (s : State) (b : Roster) : (s.setRoster b).line = s.line := rfl
@[simp] theorem setRoster_roster (s : State) (b : Roster) : (s.setRoster b).roster = b := rfl
@[simp] theorem setRoster_flash (s : State) (b : Roster) : (s.setRoster b).flash = s.flash := rfl
@[simp] theorem setRoster_renderer (s : State) (b : Roster) : (s.setRoster b).renderer = s.renderer := rfl
@[simp] theorem setRoster_level (s : State) (b : Roster) : (s.setRoster b).level = s.level := rfl
@[simp] theorem setRoster_display (s : State) (b : Roster) : (s.setRoster b).display = s.display := rfl
@[simp] theorem setRoster_panel (s : State) (b : Roster) : (s.setRoster b).panel = s.panel := rfl
@[simp] theorem setRoster_events (s : State) (b : Roster) : (s.setRoster b).events = s.events := rfl
@[simp] theorem setRoster_rest (s : State) (b : Roster) : (s.setRoster b).rest = s.rest := rfl
@[simp] theorem setRoster_phraseStore (s : State) (b : Roster) : (s.setRoster b).phraseStore = s.phraseStore := rfl
@[simp] theorem setRoster_pending (s : State) (b : Roster) : (s.setRoster b).pending = s.pending := rfl

@[simp] theorem setFlash_timebase (s : State) (b : Flash) : (s.setFlash b).timebase = s.timebase := rfl
@[simp] theorem setFlash_host (s : State) (b : Flash) : (s.setFlash b).host = s.host := rfl
@[simp] theorem setFlash_machine (s : State) (b : Flash) : (s.setFlash b).machine = s.machine := rfl
@[simp] theorem setFlash_settings (s : State) (b : Flash) : (s.setFlash b).settings = s.settings := rfl
@[simp] theorem setFlash_agenda (s : State) (b : Flash) : (s.setFlash b).agenda = s.agenda := rfl
@[simp] theorem setFlash_floor (s : State) (b : Flash) : (s.setFlash b).floor = s.floor := rfl
@[simp] theorem setFlash_line (s : State) (b : Flash) : (s.setFlash b).line = s.line := rfl
@[simp] theorem setFlash_roster (s : State) (b : Flash) : (s.setFlash b).roster = s.roster := rfl
@[simp] theorem setFlash_flash (s : State) (b : Flash) : (s.setFlash b).flash = b := rfl
@[simp] theorem setFlash_renderer (s : State) (b : Flash) : (s.setFlash b).renderer = s.renderer := rfl
@[simp] theorem setFlash_level (s : State) (b : Flash) : (s.setFlash b).level = s.level := rfl
@[simp] theorem setFlash_display (s : State) (b : Flash) : (s.setFlash b).display = s.display := rfl
@[simp] theorem setFlash_panel (s : State) (b : Flash) : (s.setFlash b).panel = s.panel := rfl
@[simp] theorem setFlash_events (s : State) (b : Flash) : (s.setFlash b).events = s.events := rfl
@[simp] theorem setFlash_rest (s : State) (b : Flash) : (s.setFlash b).rest = s.rest := rfl
@[simp] theorem setFlash_phraseStore (s : State) (b : Flash) : (s.setFlash b).phraseStore = s.phraseStore := rfl
@[simp] theorem setFlash_pending (s : State) (b : Flash) : (s.setFlash b).pending = s.pending := rfl

@[simp] theorem setRenderer_timebase (s : State) (b : Renderer) : (s.setRenderer b).timebase = s.timebase := rfl
@[simp] theorem setRenderer_host (s : State) (b : Renderer) : (s.setRenderer b).host = s.host := rfl
@[simp] theorem setRenderer_machine (s : State) (b : Renderer) : (s.setRenderer b).machine = s.machine := rfl
@[simp] theorem setRenderer_settings (s : State) (b : Renderer) : (s.setRenderer b).settings = s.settings := rfl
@[simp] theorem setRenderer_agenda (s : State) (b : Renderer) : (s.setRenderer b).agenda = s.agenda := rfl
@[simp] theorem setRenderer_floor (s : State) (b : Renderer) : (s.setRenderer b).floor = s.floor := rfl
@[simp] theorem setRenderer_line (s : State) (b : Renderer) : (s.setRenderer b).line = s.line := rfl
@[simp] theorem setRenderer_roster (s : State) (b : Renderer) : (s.setRenderer b).roster = s.roster := rfl
@[simp] theorem setRenderer_flash (s : State) (b : Renderer) : (s.setRenderer b).flash = s.flash := rfl
@[simp] theorem setRenderer_renderer (s : State) (b : Renderer) : (s.setRenderer b).renderer = b := rfl
@[simp] theorem setRenderer_level (s : State) (b : Renderer) : (s.setRenderer b).level = s.level := rfl
@[simp] theorem setRenderer_display (s : State) (b : Renderer) : (s.setRenderer b).display = s.display := rfl
@[simp] theorem setRenderer_panel (s : State) (b : Renderer) : (s.setRenderer b).panel = s.panel := rfl
@[simp] theorem setRenderer_events (s : State) (b : Renderer) : (s.setRenderer b).events = s.events := rfl
@[simp] theorem setRenderer_rest (s : State) (b : Renderer) : (s.setRenderer b).rest = s.rest := rfl
@[simp] theorem setRenderer_phraseStore (s : State) (b : Renderer) : (s.setRenderer b).phraseStore = s.phraseStore := rfl
@[simp] theorem setRenderer_pending (s : State) (b : Renderer) : (s.setRenderer b).pending = s.pending := rfl

@[simp] theorem setLevel_timebase (s : State) (b : LevelControl) : (s.setLevel b).timebase = s.timebase := rfl
@[simp] theorem setLevel_host (s : State) (b : LevelControl) : (s.setLevel b).host = s.host := rfl
@[simp] theorem setLevel_machine (s : State) (b : LevelControl) : (s.setLevel b).machine = s.machine := rfl
@[simp] theorem setLevel_settings (s : State) (b : LevelControl) : (s.setLevel b).settings = s.settings := rfl
@[simp] theorem setLevel_agenda (s : State) (b : LevelControl) : (s.setLevel b).agenda = s.agenda := rfl
@[simp] theorem setLevel_floor (s : State) (b : LevelControl) : (s.setLevel b).floor = s.floor := rfl
@[simp] theorem setLevel_line (s : State) (b : LevelControl) : (s.setLevel b).line = s.line := rfl
@[simp] theorem setLevel_roster (s : State) (b : LevelControl) : (s.setLevel b).roster = s.roster := rfl
@[simp] theorem setLevel_flash (s : State) (b : LevelControl) : (s.setLevel b).flash = s.flash := rfl
@[simp] theorem setLevel_renderer (s : State) (b : LevelControl) : (s.setLevel b).renderer = s.renderer := rfl
@[simp] theorem setLevel_level (s : State) (b : LevelControl) : (s.setLevel b).level = b := rfl
@[simp] theorem setLevel_display (s : State) (b : LevelControl) : (s.setLevel b).display = s.display := rfl
@[simp] theorem setLevel_panel (s : State) (b : LevelControl) : (s.setLevel b).panel = s.panel := rfl
@[simp] theorem setLevel_events (s : State) (b : LevelControl) : (s.setLevel b).events = s.events := rfl
@[simp] theorem setLevel_rest (s : State) (b : LevelControl) : (s.setLevel b).rest = s.rest := rfl
@[simp] theorem setLevel_phraseStore (s : State) (b : LevelControl) : (s.setLevel b).phraseStore = s.phraseStore := rfl
@[simp] theorem setLevel_pending (s : State) (b : LevelControl) : (s.setLevel b).pending = s.pending := rfl

@[simp] theorem setDisplay_timebase (s : State) (b : Display) : (s.setDisplay b).timebase = s.timebase := rfl
@[simp] theorem setDisplay_host (s : State) (b : Display) : (s.setDisplay b).host = s.host := rfl
@[simp] theorem setDisplay_machine (s : State) (b : Display) : (s.setDisplay b).machine = s.machine := rfl
@[simp] theorem setDisplay_settings (s : State) (b : Display) : (s.setDisplay b).settings = s.settings := rfl
@[simp] theorem setDisplay_agenda (s : State) (b : Display) : (s.setDisplay b).agenda = s.agenda := rfl
@[simp] theorem setDisplay_floor (s : State) (b : Display) : (s.setDisplay b).floor = s.floor := rfl
@[simp] theorem setDisplay_line (s : State) (b : Display) : (s.setDisplay b).line = s.line := rfl
@[simp] theorem setDisplay_roster (s : State) (b : Display) : (s.setDisplay b).roster = s.roster := rfl
@[simp] theorem setDisplay_flash (s : State) (b : Display) : (s.setDisplay b).flash = s.flash := rfl
@[simp] theorem setDisplay_renderer (s : State) (b : Display) : (s.setDisplay b).renderer = s.renderer := rfl
@[simp] theorem setDisplay_level (s : State) (b : Display) : (s.setDisplay b).level = s.level := rfl
@[simp] theorem setDisplay_display (s : State) (b : Display) : (s.setDisplay b).display = b := rfl
@[simp] theorem setDisplay_panel (s : State) (b : Display) : (s.setDisplay b).panel = s.panel := rfl
@[simp] theorem setDisplay_events (s : State) (b : Display) : (s.setDisplay b).events = s.events := rfl
@[simp] theorem setDisplay_rest (s : State) (b : Display) : (s.setDisplay b).rest = s.rest := rfl
@[simp] theorem setDisplay_phraseStore (s : State) (b : Display) : (s.setDisplay b).phraseStore = s.phraseStore := rfl
@[simp] theorem setDisplay_pending (s : State) (b : Display) : (s.setDisplay b).pending = s.pending := rfl

@[simp] theorem setPanel_timebase (s : State) (b : Panel) : (s.setPanel b).timebase = s.timebase := rfl
@[simp] theorem setPanel_host (s : State) (b : Panel) : (s.setPanel b).host = s.host := rfl
@[simp] theorem setPanel_machine (s : State) (b : Panel) : (s.setPanel b).machine = s.machine := rfl
@[simp] theorem setPanel_settings (s : State) (b : Panel) : (s.setPanel b).settings = s.settings := rfl
@[simp] theorem setPanel_agenda (s : State) (b : Panel) : (s.setPanel b).agenda = s.agenda := rfl
@[simp] theorem setPanel_floor (s : State) (b : Panel) : (s.setPanel b).floor = s.floor := rfl
@[simp] theorem setPanel_line (s : State) (b : Panel) : (s.setPanel b).line = s.line := rfl
@[simp] theorem setPanel_roster (s : State) (b : Panel) : (s.setPanel b).roster = s.roster := rfl
@[simp] theorem setPanel_flash (s : State) (b : Panel) : (s.setPanel b).flash = s.flash := rfl
@[simp] theorem setPanel_renderer (s : State) (b : Panel) : (s.setPanel b).renderer = s.renderer := rfl
@[simp] theorem setPanel_level (s : State) (b : Panel) : (s.setPanel b).level = s.level := rfl
@[simp] theorem setPanel_display (s : State) (b : Panel) : (s.setPanel b).display = s.display := rfl
@[simp] theorem setPanel_panel (s : State) (b : Panel) : (s.setPanel b).panel = b := rfl
@[simp] theorem setPanel_events (s : State) (b : Panel) : (s.setPanel b).events = s.events := rfl
@[simp] theorem setPanel_rest (s : State) (b : Panel) : (s.setPanel b).rest = s.rest := rfl
@[simp] theorem setPanel_phraseStore (s : State) (b : Panel) : (s.setPanel b).phraseStore = s.phraseStore := rfl
@[simp] theorem setPanel_pending (s : State) (b : Panel) : (s.setPanel b).pending = s.pending := rfl

@[simp] theorem setEvents_timebase (s : State) (b : EventQueue) : (s.setEvents b).timebase = s.timebase := rfl
@[simp] theorem setEvents_host (s : State) (b : EventQueue) : (s.setEvents b).host = s.host := rfl
@[simp] theorem setEvents_machine (s : State) (b : EventQueue) : (s.setEvents b).machine = s.machine := rfl
@[simp] theorem setEvents_settings (s : State) (b : EventQueue) : (s.setEvents b).settings = s.settings := rfl
@[simp] theorem setEvents_agenda (s : State) (b : EventQueue) : (s.setEvents b).agenda = s.agenda := rfl
@[simp] theorem setEvents_floor (s : State) (b : EventQueue) : (s.setEvents b).floor = s.floor := rfl
@[simp] theorem setEvents_line (s : State) (b : EventQueue) : (s.setEvents b).line = s.line := rfl
@[simp] theorem setEvents_roster (s : State) (b : EventQueue) : (s.setEvents b).roster = s.roster := rfl
@[simp] theorem setEvents_flash (s : State) (b : EventQueue) : (s.setEvents b).flash = s.flash := rfl
@[simp] theorem setEvents_renderer (s : State) (b : EventQueue) : (s.setEvents b).renderer = s.renderer := rfl
@[simp] theorem setEvents_level (s : State) (b : EventQueue) : (s.setEvents b).level = s.level := rfl
@[simp] theorem setEvents_display (s : State) (b : EventQueue) : (s.setEvents b).display = s.display := rfl
@[simp] theorem setEvents_panel (s : State) (b : EventQueue) : (s.setEvents b).panel = s.panel := rfl
@[simp] theorem setEvents_events (s : State) (b : EventQueue) : (s.setEvents b).events = b := rfl
@[simp] theorem setEvents_rest (s : State) (b : EventQueue) : (s.setEvents b).rest = s.rest := rfl
@[simp] theorem setEvents_phraseStore (s : State) (b : EventQueue) : (s.setEvents b).phraseStore = s.phraseStore := rfl
@[simp] theorem setEvents_pending (s : State) (b : EventQueue) : (s.setEvents b).pending = s.pending := rfl

@[simp] theorem setRest_timebase (s : State) (b : RestControl) : (s.setRest b).timebase = s.timebase := rfl
@[simp] theorem setRest_host (s : State) (b : RestControl) : (s.setRest b).host = s.host := rfl
@[simp] theorem setRest_machine (s : State) (b : RestControl) : (s.setRest b).machine = s.machine := rfl
@[simp] theorem setRest_settings (s : State) (b : RestControl) : (s.setRest b).settings = s.settings := rfl
@[simp] theorem setRest_agenda (s : State) (b : RestControl) : (s.setRest b).agenda = s.agenda := rfl
@[simp] theorem setRest_floor (s : State) (b : RestControl) : (s.setRest b).floor = s.floor := rfl
@[simp] theorem setRest_line (s : State) (b : RestControl) : (s.setRest b).line = s.line := rfl
@[simp] theorem setRest_roster (s : State) (b : RestControl) : (s.setRest b).roster = s.roster := rfl
@[simp] theorem setRest_flash (s : State) (b : RestControl) : (s.setRest b).flash = s.flash := rfl
@[simp] theorem setRest_renderer (s : State) (b : RestControl) : (s.setRest b).renderer = s.renderer := rfl
@[simp] theorem setRest_level (s : State) (b : RestControl) : (s.setRest b).level = s.level := rfl
@[simp] theorem setRest_display (s : State) (b : RestControl) : (s.setRest b).display = s.display := rfl
@[simp] theorem setRest_panel (s : State) (b : RestControl) : (s.setRest b).panel = s.panel := rfl
@[simp] theorem setRest_events (s : State) (b : RestControl) : (s.setRest b).events = s.events := rfl
@[simp] theorem setRest_rest (s : State) (b : RestControl) : (s.setRest b).rest = b := rfl
@[simp] theorem setRest_phraseStore (s : State) (b : RestControl) : (s.setRest b).phraseStore = s.phraseStore := rfl
@[simp] theorem setRest_pending (s : State) (b : RestControl) : (s.setRest b).pending = s.pending := rfl

@[simp] theorem setPending_timebase (s : State) (b : List Instr) : (s.setPending b).timebase = s.timebase := rfl
@[simp] theorem setPending_host (s : State) (b : List Instr) : (s.setPending b).host = s.host := rfl
@[simp] theorem setPending_machine (s : State) (b : List Instr) : (s.setPending b).machine = s.machine := rfl
@[simp] theorem setPending_settings (s : State) (b : List Instr) : (s.setPending b).settings = s.settings := rfl
@[simp] theorem setPending_agenda (s : State) (b : List Instr) : (s.setPending b).agenda = s.agenda := rfl
@[simp] theorem setPending_floor (s : State) (b : List Instr) : (s.setPending b).floor = s.floor := rfl
@[simp] theorem setPending_line (s : State) (b : List Instr) : (s.setPending b).line = s.line := rfl
@[simp] theorem setPending_roster (s : State) (b : List Instr) : (s.setPending b).roster = s.roster := rfl
@[simp] theorem setPending_flash (s : State) (b : List Instr) : (s.setPending b).flash = s.flash := rfl
@[simp] theorem setPending_renderer (s : State) (b : List Instr) : (s.setPending b).renderer = s.renderer := rfl
@[simp] theorem setPending_level (s : State) (b : List Instr) : (s.setPending b).level = s.level := rfl
@[simp] theorem setPending_display (s : State) (b : List Instr) : (s.setPending b).display = s.display := rfl
@[simp] theorem setPending_panel (s : State) (b : List Instr) : (s.setPending b).panel = s.panel := rfl
@[simp] theorem setPending_events (s : State) (b : List Instr) : (s.setPending b).events = s.events := rfl
@[simp] theorem setPending_rest (s : State) (b : List Instr) : (s.setPending b).rest = s.rest := rfl
@[simp] theorem setPending_phraseStore (s : State) (b : List Instr) : (s.setPending b).phraseStore = s.phraseStore := rfl
@[simp] theorem setPending_pending (s : State) (b : List Instr) : (s.setPending b).pending = b := rfl

end Sys2Proof.Machine.State
end

