-- ==== Sys2Proof/Laws/Ops.lean ====
section
/-! SUPPORT. What each shared operation of Machine/Ops.lean leaves as it was: the blocks of the state, and the lasting
fields of blocks it changes in part. Every lemma is a rewriting rule on the fields kept. -/

namespace Sys2Proof.Machine.State

set_option linter.unnecessarySeqFocus false
set_option linter.unusedTactic false

/-! ### What entries are for their whole life -/

/-- Changing an entry without its id keeps the ids. -/
@[simp] theorem ids_modify (a : Agenda) (ticket : Nat) (f : Entry → Entry)
    (h : ∀ e, (f e).id = e.id) : (a.modify ticket f).ids = a.ids := by
  simp only [Agenda.ids, Agenda.modify, List.map_map]
  refine List.map_congr_left fun e _ => ?_
  simp only [Function.comp]
  split
  · exact h e
  · rfl

/-- Changing every entry without its id keeps the ids. -/
theorem ids_mapEntries (s : State) (f : Entry → Entry) (h : ∀ e, (f e).id = e.id) :
    (s.mapEntries f).agenda.ids = s.agenda.ids := by
  simp only [Agenda.ids, mapEntries, setAgenda_agenda, List.map_map]
  exact List.map_congr_left fun e _ => h e

@[simp] theorem ids_mk (a : Agenda) (n : Nat) (b : Option Nat) (o : Owner) :
    Agenda.ids { entries := a.entries, nextTicket := n, basePage := b, owner := o } = a.ids := rfl
@[simp] theorem modify_nextTicket (a : Agenda) (ticket : Nat) (f : Entry → Entry) :
    (a.modify ticket f).nextTicket = a.nextTicket := rfl
@[simp] theorem modify_basePage (a : Agenda) (ticket : Nat) (f : Entry → Entry) :
    (a.modify ticket f).basePage = a.basePage := rfl

/-- An entry whose three lasting fields are another's has its id. -/
@[simp] theorem id_mk (e q : Entry) : q.id = e.id ↔
    q.ticket = e.ticket ∧ q.post = e.post ∧ q.successor = e.successor := by
  simp [Entry.id]
@[simp] theorem request_keeps (e : Entry) (r : EndRequest) :
    (e.request r).ticket = e.ticket ∧ (e.request r).post = e.post ∧ (e.request r).state = e.state ∧
      (e.request r).plays = e.plays ∧ (e.request r).successor = e.successor := by
  unfold Entry.request; split <;> simp
@[simp] theorem unbid_keeps (e : Entry) :
    e.unbid.ticket = e.ticket ∧ e.unbid.post = e.post ∧ e.unbid.successor = e.successor := by
  unfold Entry.unbid; split <;> simp
@[simp] theorem gateTest_keeps (e : Entry) (p : Presence) :
    (e.gateTest p).ticket = e.ticket ∧ (e.gateTest p).post = e.post ∧
      (e.gateTest p).successor = e.successor := by
  unfold Entry.gateTest; split <;> simp
@[simp] theorem back_keeps (e : Entry) : e.back.ticket = e.ticket ∧ e.back.post = e.post ∧
    e.back.plays = e.plays ∧ e.back.successor = e.successor := ⟨rfl, rfl, rfl, rfl⟩
@[simp] theorem account_keeps (e : Entry) :
    e.account.ticket = e.ticket ∧ e.account.post = e.post ∧ e.account.successor = e.successor := by
  unfold Entry.account; (repeat' split) <;> simp
@[simp] theorem playing_keeps (s : State) (e : Entry) : (s.playing e).ticket = e.ticket ∧
    (s.playing e).post = e.post ∧ (s.playing e).successor = e.successor := ⟨rfl, rfl, rfl⟩

/-! ### What each shared operation keeps -/

@[simp] theorem offer_keeps (s : State) (r : EventRecord) :
    (s.offer r).timebase = s.timebase ∧ (s.offer r).host = s.host ∧ (s.offer r).machine = s.machine ∧
    (s.offer r).settings = s.settings ∧ (s.offer r).agenda = s.agenda ∧ (s.offer r).floor = s.floor ∧
    (s.offer r).line = s.line ∧ (s.offer r).roster = s.roster ∧ (s.offer r).flash = s.flash ∧
    (s.offer r).renderer = s.renderer ∧ (s.offer r).level = s.level ∧ (s.offer r).display = s.display ∧
    (s.offer r).panel = s.panel ∧ (s.offer r).rest = s.rest ∧ (s.offer r).phraseStore = s.phraseStore ∧
    (s.offer r).pending = s.pending := by
  unfold offer; (repeat' split) <;> simp

@[simp] theorem setSlot_keeps (s : State) (name : SlotName) (slot : Slot) :
    (s.setSlot name slot).timebase = s.timebase ∧ (s.setSlot name slot).host = s.host ∧
    (s.setSlot name slot).machine = s.machine ∧ (s.setSlot name slot).settings = s.settings ∧
    (s.setSlot name slot).agenda = s.agenda ∧ (s.setSlot name slot).floor = s.floor ∧
    (s.setSlot name slot).roster = s.roster ∧ (s.setSlot name slot).flash = s.flash ∧
    (s.setSlot name slot).renderer = s.renderer ∧ (s.setSlot name slot).level = s.level ∧
    (s.setSlot name slot).display = s.display ∧ (s.setSlot name slot).panel = s.panel ∧
    (s.setSlot name slot).events = s.events ∧ (s.setSlot name slot).rest = s.rest ∧
    (s.setSlot name slot).phraseStore = s.phraseStore ∧ (s.setSlot name slot).pending = s.pending := by
  unfold setSlot; (repeat' split) <;> simp

@[simp] theorem queueFrame_keeps (s : State) (name : SlotName) (f : LineFrame) :
    (s.queueFrame name f).timebase = s.timebase ∧ (s.queueFrame name f).host = s.host ∧
    (s.queueFrame name f).machine = s.machine ∧ (s.queueFrame name f).settings = s.settings ∧
    (s.queueFrame name f).agenda = s.agenda ∧ (s.queueFrame name f).floor = s.floor ∧
    (s.queueFrame name f).roster = s.roster ∧ (s.queueFrame name f).flash = s.flash ∧
    (s.queueFrame name f).renderer = s.renderer ∧ (s.queueFrame name f).level = s.level ∧
    (s.queueFrame name f).display = s.display ∧ (s.queueFrame name f).panel = s.panel ∧
    (s.queueFrame name f).events = s.events ∧ (s.queueFrame name f).rest = s.rest ∧
    (s.queueFrame name f).phraseStore = s.phraseStore ∧ (s.queueFrame name f).pending = s.pending := by
  unfold queueFrame; (repeat' split) <;> simp

@[simp] theorem breakFrame_keeps (s : State) :
    s.breakFrame.timebase = s.timebase ∧ s.breakFrame.host = s.host ∧
    s.breakFrame.machine = s.machine ∧ s.breakFrame.settings = s.settings ∧
    s.breakFrame.agenda = s.agenda ∧ s.breakFrame.floor = s.floor ∧ s.breakFrame.roster = s.roster ∧
    s.breakFrame.flash = s.flash ∧ s.breakFrame.renderer = s.renderer ∧ s.breakFrame.level = s.level ∧
    s.breakFrame.display = s.display ∧ s.breakFrame.panel = s.panel ∧ s.breakFrame.events = s.events ∧
    s.breakFrame.rest = s.rest ∧ s.breakFrame.phraseStore = s.phraseStore ∧
    s.breakFrame.pending = s.pending := by
  unfold breakFrame; (repeat' split) <;> simp

@[simp] theorem removeFrame_keeps (s : State) (name : SlotName) :
    (s.removeFrame name).timebase = s.timebase ∧ (s.removeFrame name).host = s.host ∧
    (s.removeFrame name).machine = s.machine ∧ (s.removeFrame name).settings = s.settings ∧
    (s.removeFrame name).agenda = s.agenda ∧ (s.removeFrame name).floor = s.floor ∧
    (s.removeFrame name).roster = s.roster ∧ (s.removeFrame name).flash = s.flash ∧
    (s.removeFrame name).renderer = s.renderer ∧ (s.removeFrame name).level = s.level ∧
    (s.removeFrame name).display = s.display ∧ (s.removeFrame name).panel = s.panel ∧
    (s.removeFrame name).events = s.events ∧ (s.removeFrame name).rest = s.rest ∧
    (s.removeFrame name).phraseStore = s.phraseStore ∧ (s.removeFrame name).pending = s.pending := by
  unfold removeFrame; (repeat' split) <;> simp

@[simp] theorem queueClaim_keeps (s : State) (bid : Bid) :
    (s.queueClaim bid).timebase = s.timebase ∧ (s.queueClaim bid).host = s.host ∧
    (s.queueClaim bid).machine = s.machine ∧ (s.queueClaim bid).settings = s.settings ∧
    (s.queueClaim bid).agenda = s.agenda ∧ (s.queueClaim bid).floor = s.floor ∧
    (s.queueClaim bid).roster = s.roster ∧ (s.queueClaim bid).flash = s.flash ∧
    (s.queueClaim bid).renderer = s.renderer ∧ (s.queueClaim bid).level = s.level ∧
    (s.queueClaim bid).display = s.display ∧ (s.queueClaim bid).panel = s.panel ∧
    (s.queueClaim bid).events = s.events ∧ (s.queueClaim bid).rest = s.rest ∧
    (s.queueClaim bid).phraseStore = s.phraseStore ∧ (s.queueClaim bid).pending = s.pending := by
  unfold queueClaim; (repeat' split) <;> simp

@[simp] theorem queueTalk_keeps (s : State) (bid : Bid) (length : Nat) :
    (s.queueTalk bid length).timebase = s.timebase ∧ (s.queueTalk bid length).host = s.host ∧
    (s.queueTalk bid length).machine = s.machine ∧ (s.queueTalk bid length).settings = s.settings ∧
    (s.queueTalk bid length).agenda = s.agenda ∧ (s.queueTalk bid length).floor = s.floor ∧
    (s.queueTalk bid length).roster = s.roster ∧ (s.queueTalk bid length).flash = s.flash ∧
    (s.queueTalk bid length).renderer = s.renderer ∧ (s.queueTalk bid length).level = s.level ∧
    (s.queueTalk bid length).display = s.display ∧ (s.queueTalk bid length).panel = s.panel ∧
    (s.queueTalk bid length).events = s.events ∧ (s.queueTalk bid length).rest = s.rest ∧
    (s.queueTalk bid length).phraseStore = s.phraseStore ∧
    (s.queueTalk bid length).pending = s.pending := by
  unfold queueTalk; (repeat' split) <;> simp

@[simp] theorem queueRenewal_keeps (s : State) (bid : Bid) (hold : Hold) :
    (s.queueRenewal bid hold).timebase = s.timebase ∧ (s.queueRenewal bid hold).host = s.host ∧
    (s.queueRenewal bid hold).machine = s.machine ∧ (s.queueRenewal bid hold).settings = s.settings ∧
    (s.queueRenewal bid hold).agenda = s.agenda ∧ (s.queueRenewal bid hold).floor = s.floor ∧
    (s.queueRenewal bid hold).roster = s.roster ∧ (s.queueRenewal bid hold).flash = s.flash ∧
    (s.queueRenewal bid hold).renderer = s.renderer ∧ (s.queueRenewal bid hold).level = s.level ∧
    (s.queueRenewal bid hold).display = s.display ∧ (s.queueRenewal bid hold).panel = s.panel ∧
    (s.queueRenewal bid hold).events = s.events ∧ (s.queueRenewal bid hold).rest = s.rest ∧
    (s.queueRenewal bid hold).phraseStore = s.phraseStore ∧
    (s.queueRenewal bid hold).pending = s.pending := by
  unfold queueRenewal; (repeat' split) <;> simp

@[simp] theorem sendBeacon_keeps (s : State) :
    s.sendBeacon.timebase = s.timebase ∧ s.sendBeacon.host = s.host ∧
    s.sendBeacon.machine = s.machine ∧ s.sendBeacon.settings = s.settings ∧
    s.sendBeacon.agenda = s.agenda ∧ s.sendBeacon.floor = s.floor ∧
    s.sendBeacon.roster.records = s.roster.records ∧ s.sendBeacon.flash = s.flash ∧
    s.sendBeacon.renderer = s.renderer ∧ s.sendBeacon.level = s.level ∧
    s.sendBeacon.display = s.display ∧ s.sendBeacon.panel = s.panel ∧ s.sendBeacon.events = s.events ∧
    s.sendBeacon.rest = s.rest ∧ s.sendBeacon.phraseStore = s.phraseStore ∧
    s.sendBeacon.pending = s.pending := by
  unfold sendBeacon; (repeat' split) <;> simp

@[simp] theorem dropReads_keeps (s : State) (dropped : ReadFor → Bool) :
    (s.dropReads dropped).timebase = s.timebase ∧ (s.dropReads dropped).host = s.host ∧
    (s.dropReads dropped).machine = s.machine ∧ (s.dropReads dropped).settings = s.settings ∧
    (s.dropReads dropped).agenda = s.agenda ∧ (s.dropReads dropped).floor = s.floor ∧
    (s.dropReads dropped).line = s.line ∧ (s.dropReads dropped).roster = s.roster ∧
    (s.dropReads dropped).flash.store = s.flash.store ∧ (s.dropReads dropped).renderer = s.renderer ∧
    (s.dropReads dropped).level = s.level ∧ (s.dropReads dropped).display = s.display ∧
    (s.dropReads dropped).panel = s.panel ∧ (s.dropReads dropped).events = s.events ∧
    (s.dropReads dropped).rest = s.rest ∧ (s.dropReads dropped).phraseStore = s.phraseStore ∧
    (s.dropReads dropped).pending = s.pending := by
  unfold dropReads; (repeat' split) <;> simp

@[simp] theorem reportPage_keeps (s : State) (snap : Snapshot) :
    (s.reportPage snap).timebase = s.timebase ∧ (s.reportPage snap).host = s.host ∧
    (s.reportPage snap).machine = s.machine ∧ (s.reportPage snap).settings = s.settings ∧
    (s.reportPage snap).agenda.ids = s.agenda.ids ∧
    (s.reportPage snap).agenda.nextTicket = s.agenda.nextTicket ∧
    (s.reportPage snap).agenda.basePage = s.agenda.basePage ∧ (s.reportPage snap).floor = s.floor ∧
    (s.reportPage snap).line = s.line ∧ (s.reportPage snap).roster = s.roster ∧
    (s.reportPage snap).flash = s.flash ∧ (s.reportPage snap).renderer = s.renderer ∧
    (s.reportPage snap).level = s.level ∧ (s.reportPage snap).display = s.display ∧
    (s.reportPage snap).panel = s.panel ∧ (s.reportPage snap).rest = s.rest ∧
    (s.reportPage snap).phraseStore = s.phraseStore ∧ (s.reportPage snap).pending = s.pending := by
  unfold reportPage; (repeat' split) <;> simp

@[simp] theorem drawSoFar_keeps (s : State) (snap : Snapshot) (drawn : Drawn) :
    (s.drawSoFar snap drawn).timebase = s.timebase ∧ (s.drawSoFar snap drawn).host = s.host ∧
    (s.drawSoFar snap drawn).machine = s.machine ∧ (s.drawSoFar snap drawn).settings = s.settings ∧
    (s.drawSoFar snap drawn).agenda.ids = s.agenda.ids ∧
    (s.drawSoFar snap drawn).agenda.nextTicket = s.agenda.nextTicket ∧
    (s.drawSoFar snap drawn).agenda.basePage = s.agenda.basePage ∧
    (s.drawSoFar snap drawn).floor = s.floor ∧ (s.drawSoFar snap drawn).line = s.line ∧
    (s.drawSoFar snap drawn).roster = s.roster ∧ (s.drawSoFar snap drawn).flash = s.flash ∧
    (s.drawSoFar snap drawn).renderer = s.renderer ∧ (s.drawSoFar snap drawn).level = s.level ∧
    (s.drawSoFar snap drawn).panel = s.panel ∧ (s.drawSoFar snap drawn).rest = s.rest ∧
    (s.drawSoFar snap drawn).phraseStore = s.phraseStore ∧
    (s.drawSoFar snap drawn).pending = s.pending := by
  unfold drawSoFar; (repeat' split) <;> simp

@[simp] theorem advanceCompose_keeps (s : State) :
    s.advanceCompose.timebase = s.timebase ∧ s.advanceCompose.host = s.host ∧
    s.advanceCompose.machine = s.machine ∧ s.advanceCompose.settings = s.settings ∧
    s.advanceCompose.agenda.ids = s.agenda.ids ∧
    s.advanceCompose.agenda.nextTicket = s.agenda.nextTicket ∧
    s.advanceCompose.agenda.basePage = s.agenda.basePage ∧ s.advanceCompose.floor = s.floor ∧
    s.advanceCompose.line = s.line ∧ s.advanceCompose.roster = s.roster ∧
    s.advanceCompose.flash = s.flash ∧ s.advanceCompose.renderer = s.renderer ∧
    s.advanceCompose.level = s.level ∧ s.advanceCompose.panel = s.panel ∧
    s.advanceCompose.rest = s.rest ∧ s.advanceCompose.phraseStore = s.phraseStore ∧
    s.advanceCompose.pending = s.pending := by
  unfold advanceCompose; (repeat' split) <;> simp

@[simp] theorem startCompose_keeps (s : State) :
    s.startCompose.timebase = s.timebase ∧ s.startCompose.host = s.host ∧
    s.startCompose.machine = s.machine ∧ s.startCompose.settings = s.settings ∧
    s.startCompose.agenda.ids = s.agenda.ids ∧ s.startCompose.agenda.nextTicket = s.agenda.nextTicket ∧
    s.startCompose.agenda.basePage = s.agenda.basePage ∧ s.startCompose.floor = s.floor ∧
    s.startCompose.line = s.line ∧ s.startCompose.roster = s.roster ∧
    s.startCompose.flash.store = s.flash.store ∧ s.startCompose.renderer = s.renderer ∧
    s.startCompose.level = s.level ∧ s.startCompose.panel = s.panel ∧ s.startCompose.rest = s.rest ∧
    s.startCompose.phraseStore = s.phraseStore ∧ s.startCompose.pending = s.pending := by
  unfold startCompose; (repeat' split) <;> simp

@[simp] theorem cause_keeps (s : State) :
    s.cause.timebase = s.timebase ∧ s.cause.host = s.host ∧ s.cause.machine = s.machine ∧
    s.cause.settings = s.settings ∧ s.cause.agenda.ids = s.agenda.ids ∧
    s.cause.agenda.nextTicket = s.agenda.nextTicket ∧ s.cause.agenda.basePage = s.agenda.basePage ∧
    s.cause.floor = s.floor ∧ s.cause.line = s.line ∧ s.cause.roster = s.roster ∧
    s.cause.flash.store = s.flash.store ∧ s.cause.renderer = s.renderer ∧ s.cause.level = s.level ∧
    s.cause.panel = s.panel ∧ s.cause.rest = s.rest ∧ s.cause.phraseStore = s.phraseStore ∧
    s.cause.pending = s.pending := by
  unfold cause; (repeat' split) <;> simp

@[simp] theorem abortCompose_keeps (s : State) :
    s.abortCompose.timebase = s.timebase ∧ s.abortCompose.host = s.host ∧
    s.abortCompose.machine = s.machine ∧ s.abortCompose.settings = s.settings ∧
    s.abortCompose.agenda = s.agenda ∧ s.abortCompose.floor = s.floor ∧ s.abortCompose.line = s.line ∧
    s.abortCompose.roster = s.roster ∧ s.abortCompose.flash.store = s.flash.store ∧
    s.abortCompose.renderer = s.renderer ∧ s.abortCompose.level = s.level ∧
    s.abortCompose.panel = s.panel ∧ s.abortCompose.events = s.events ∧ s.abortCompose.rest = s.rest ∧
    s.abortCompose.phraseStore = s.phraseStore ∧ s.abortCompose.pending = s.pending := by
  unfold abortCompose; (repeat' split) <;> simp

@[simp] theorem selectOwner_keeps (s : State) :
    s.selectOwner.timebase = s.timebase ∧ s.selectOwner.host = s.host ∧
    s.selectOwner.machine = s.machine ∧ s.selectOwner.settings = s.settings ∧
    s.selectOwner.agenda.ids = s.agenda.ids ∧ s.selectOwner.agenda.nextTicket = s.agenda.nextTicket ∧
    s.selectOwner.agenda.basePage = s.agenda.basePage ∧ s.selectOwner.floor = s.floor ∧
    s.selectOwner.line = s.line ∧ s.selectOwner.roster = s.roster ∧
    s.selectOwner.flash.store = s.flash.store ∧ s.selectOwner.renderer = s.renderer ∧
    s.selectOwner.level = s.level ∧ s.selectOwner.panel = s.panel ∧ s.selectOwner.rest = s.rest ∧
    s.selectOwner.phraseStore = s.phraseStore ∧ s.selectOwner.pending = s.pending := by
  unfold selectOwner; (repeat' split) <;> simp

@[simp] theorem bindingCause_keeps (s : State) (ticket : Nat) :
    (s.bindingCause ticket).timebase = s.timebase ∧ (s.bindingCause ticket).host = s.host ∧
    (s.bindingCause ticket).machine = s.machine ∧ (s.bindingCause ticket).settings = s.settings ∧
    (s.bindingCause ticket).agenda.ids = s.agenda.ids ∧
    (s.bindingCause ticket).agenda.nextTicket = s.agenda.nextTicket ∧
    (s.bindingCause ticket).agenda.basePage = s.agenda.basePage ∧
    (s.bindingCause ticket).floor = s.floor ∧ (s.bindingCause ticket).line = s.line ∧
    (s.bindingCause ticket).roster = s.roster ∧ (s.bindingCause ticket).flash.store = s.flash.store ∧
    (s.bindingCause ticket).renderer = s.renderer ∧ (s.bindingCause ticket).level = s.level ∧
    (s.bindingCause ticket).panel = s.panel ∧ (s.bindingCause ticket).rest = s.rest ∧
    (s.bindingCause ticket).phraseStore = s.phraseStore ∧
    (s.bindingCause ticket).pending = s.pending := by
  unfold bindingCause; (repeat' split) <;> simp

@[simp] theorem reportPhrase_keeps (s : State) (ticket phrase : Nat) :
    (s.reportPhrase ticket phrase).timebase = s.timebase ∧
    (s.reportPhrase ticket phrase).host = s.host ∧ (s.reportPhrase ticket phrase).machine = s.machine ∧
    (s.reportPhrase ticket phrase).settings = s.settings ∧
    (s.reportPhrase ticket phrase).agenda.ids = s.agenda.ids ∧
    (s.reportPhrase ticket phrase).agenda.nextTicket = s.agenda.nextTicket ∧
    (s.reportPhrase ticket phrase).agenda.basePage = s.agenda.basePage ∧
    (s.reportPhrase ticket phrase).floor = s.floor ∧ (s.reportPhrase ticket phrase).line = s.line ∧
    (s.reportPhrase ticket phrase).roster = s.roster ∧ (s.reportPhrase ticket phrase).flash = s.flash ∧
    (s.reportPhrase ticket phrase).renderer = s.renderer ∧
    (s.reportPhrase ticket phrase).level = s.level ∧
    (s.reportPhrase ticket phrase).display = s.display ∧
    (s.reportPhrase ticket phrase).panel = s.panel ∧ (s.reportPhrase ticket phrase).rest = s.rest ∧
    (s.reportPhrase ticket phrase).phraseStore = s.phraseStore ∧
    (s.reportPhrase ticket phrase).pending = s.pending := by
  unfold reportPhrase; (repeat' split) <;> simp

@[simp] theorem reportMissing_keeps (s : State) (ticket : Nat) (missing : LookupNote) :
    (s.reportMissing ticket missing).timebase = s.timebase ∧
    (s.reportMissing ticket missing).host = s.host ∧
    (s.reportMissing ticket missing).machine = s.machine ∧
    (s.reportMissing ticket missing).settings = s.settings ∧
    (s.reportMissing ticket missing).agenda.ids = s.agenda.ids ∧
    (s.reportMissing ticket missing).agenda.nextTicket = s.agenda.nextTicket ∧
    (s.reportMissing ticket missing).agenda.basePage = s.agenda.basePage ∧
    (s.reportMissing ticket missing).floor = s.floor ∧ (s.reportMissing ticket missing).line = s.line ∧
    (s.reportMissing ticket missing).roster = s.roster ∧
    (s.reportMissing ticket missing).flash = s.flash ∧
    (s.reportMissing ticket missing).renderer = s.renderer ∧
    (s.reportMissing ticket missing).level = s.level ∧
    (s.reportMissing ticket missing).display = s.display ∧
    (s.reportMissing ticket missing).panel = s.panel ∧ (s.reportMissing ticket missing).rest = s.rest ∧
    (s.reportMissing ticket missing).phraseStore = s.phraseStore ∧
    (s.reportMissing ticket missing).pending = s.pending := by
  unfold reportMissing; (repeat' split) <;> simp

@[simp] theorem enterTail_keeps (s : State) :
    s.enterTail.timebase = s.timebase ∧ s.enterTail.host = s.host ∧ s.enterTail.machine = s.machine ∧
    s.enterTail.settings = s.settings ∧ s.enterTail.agenda = s.agenda ∧ s.enterTail.floor = s.floor ∧
    s.enterTail.line = s.line ∧ s.enterTail.roster = s.roster ∧
    s.enterTail.flash.store = s.flash.store ∧ s.enterTail.level = s.level ∧
    s.enterTail.display = s.display ∧ s.enterTail.panel = s.panel ∧ s.enterTail.events = s.events ∧
    s.enterTail.rest = s.rest ∧ s.enterTail.phraseStore = s.phraseStore ∧
    s.enterTail.pending = s.pending := by
  unfold enterTail; (repeat' split) <;> simp

@[simp] theorem lookupDone_keeps (s : State) (p : Play) (found : Option (Nat × List Span)) :
    (s.lookupDone p found).timebase = s.timebase ∧ (s.lookupDone p found).host = s.host ∧
    (s.lookupDone p found).machine = s.machine ∧ (s.lookupDone p found).settings = s.settings ∧
    (s.lookupDone p found).agenda = s.agenda ∧ (s.lookupDone p found).floor = s.floor ∧
    (s.lookupDone p found).line = s.line ∧ (s.lookupDone p found).roster = s.roster ∧
    (s.lookupDone p found).flash.store = s.flash.store ∧ (s.lookupDone p found).level = s.level ∧
    (s.lookupDone p found).display = s.display ∧ (s.lookupDone p found).panel = s.panel ∧
    (s.lookupDone p found).events = s.events ∧ (s.lookupDone p found).rest = s.rest ∧
    (s.lookupDone p found).phraseStore = s.phraseStore ∧
    (s.lookupDone p found).pending = s.pending := by
  unfold lookupDone; (repeat' split) <;> simp

@[simp] theorem advanceLookup_keeps (s : State) :
    s.advanceLookup.timebase = s.timebase ∧ s.advanceLookup.host = s.host ∧
    s.advanceLookup.machine = s.machine ∧ s.advanceLookup.settings = s.settings ∧
    s.advanceLookup.agenda.ids = s.agenda.ids ∧
    s.advanceLookup.agenda.nextTicket = s.agenda.nextTicket ∧
    s.advanceLookup.agenda.basePage = s.agenda.basePage ∧ s.advanceLookup.floor = s.floor ∧
    s.advanceLookup.line = s.line ∧ s.advanceLookup.roster = s.roster ∧
    s.advanceLookup.flash.store = s.flash.store ∧ s.advanceLookup.level = s.level ∧
    s.advanceLookup.display = s.display ∧ s.advanceLookup.panel = s.panel ∧
    s.advanceLookup.rest = s.rest ∧ s.advanceLookup.phraseStore = s.phraseStore ∧
    s.advanceLookup.pending = s.pending := by
  unfold advanceLookup; (repeat' split) <;> simp

@[simp] theorem startLookup_keeps (s : State) (p : Play) (index : Nat) :
    (s.startLookup p index).timebase = s.timebase ∧ (s.startLookup p index).host = s.host ∧
    (s.startLookup p index).machine = s.machine ∧ (s.startLookup p index).settings = s.settings ∧
    (s.startLookup p index).agenda.ids = s.agenda.ids ∧
    (s.startLookup p index).agenda.nextTicket = s.agenda.nextTicket ∧
    (s.startLookup p index).agenda.basePage = s.agenda.basePage ∧
    (s.startLookup p index).floor = s.floor ∧ (s.startLookup p index).line = s.line ∧
    (s.startLookup p index).roster = s.roster ∧ (s.startLookup p index).flash.store = s.flash.store ∧
    (s.startLookup p index).level = s.level ∧ (s.startLookup p index).display = s.display ∧
    (s.startLookup p index).panel = s.panel ∧ (s.startLookup p index).rest = s.rest ∧
    (s.startLookup p index).phraseStore = s.phraseStore ∧
    (s.startLookup p index).pending = s.pending := by
  unfold startLookup; (repeat' split) <;> simp

@[simp] theorem cutPlay_keeps (s : State) :
    s.cutPlay.timebase = s.timebase ∧ s.cutPlay.host = s.host ∧ s.cutPlay.machine = s.machine ∧
    s.cutPlay.settings = s.settings ∧ s.cutPlay.agenda = s.agenda ∧ s.cutPlay.floor = s.floor ∧
    s.cutPlay.line = s.line ∧ s.cutPlay.roster = s.roster ∧ s.cutPlay.flash.store = s.flash.store ∧
    s.cutPlay.level = s.level ∧ s.cutPlay.display = s.display ∧ s.cutPlay.panel = s.panel ∧
    s.cutPlay.events = s.events ∧ s.cutPlay.rest = s.rest ∧ s.cutPlay.phraseStore = s.phraseStore ∧
    s.cutPlay.pending = s.pending := by
  unfold cutPlay; (repeat' split) <;> simp

@[simp] theorem fadePlay_keeps (s : State) :
    s.fadePlay.timebase = s.timebase ∧ s.fadePlay.host = s.host ∧ s.fadePlay.machine = s.machine ∧
    s.fadePlay.settings = s.settings ∧ s.fadePlay.agenda = s.agenda ∧ s.fadePlay.floor = s.floor ∧
    s.fadePlay.line = s.line ∧ s.fadePlay.roster = s.roster ∧ s.fadePlay.flash.store = s.flash.store ∧
    s.fadePlay.display = s.display ∧ s.fadePlay.panel = s.panel ∧ s.fadePlay.events = s.events ∧
    s.fadePlay.rest = s.rest ∧ s.fadePlay.phraseStore = s.phraseStore ∧
    s.fadePlay.pending = s.pending := by
  unfold fadePlay; (repeat' split) <;> simp

@[simp] theorem stopEntry_keeps (s : State) (ticket : Nat) (r : EndRequest) (how : StopKind) :
    (s.stopEntry ticket r how).timebase = s.timebase ∧ (s.stopEntry ticket r how).host = s.host ∧
    (s.stopEntry ticket r how).machine = s.machine ∧ (s.stopEntry ticket r how).settings = s.settings ∧
    (s.stopEntry ticket r how).agenda.ids = s.agenda.ids ∧
    (s.stopEntry ticket r how).agenda.nextTicket = s.agenda.nextTicket ∧
    (s.stopEntry ticket r how).agenda.basePage = s.agenda.basePage ∧
    (s.stopEntry ticket r how).floor = s.floor ∧ (s.stopEntry ticket r how).line = s.line ∧
    (s.stopEntry ticket r how).roster = s.roster ∧
    (s.stopEntry ticket r how).flash.store = s.flash.store ∧
    (s.stopEntry ticket r how).display = s.display ∧ (s.stopEntry ticket r how).panel = s.panel ∧
    (s.stopEntry ticket r how).events = s.events ∧ (s.stopEntry ticket r how).rest = s.rest ∧
    (s.stopEntry ticket r how).phraseStore = s.phraseStore ∧
    (s.stopEntry ticket r how).pending = s.pending := by
  unfold stopEntry; (repeat' split) <;> simp

@[simp] theorem setCtx_keeps (s : State) (ctx : FloorCtx) :
    (s.setCtx ctx).timebase = s.timebase ∧ (s.setCtx ctx).host = s.host ∧
    (s.setCtx ctx).machine = s.machine ∧ (s.setCtx ctx).settings = s.settings ∧
    (s.setCtx ctx).agenda = s.agenda ∧ (s.setCtx ctx).floor.claims = s.floor.claims ∧
    (s.setCtx ctx).floor.holders = s.floor.holders ∧ (s.setCtx ctx).floor.isolated = s.floor.isolated ∧
    (s.setCtx ctx).line = s.line ∧ (s.setCtx ctx).roster = s.roster ∧ (s.setCtx ctx).flash = s.flash ∧
    (s.setCtx ctx).renderer = s.renderer ∧ (s.setCtx ctx).level = s.level ∧
    (s.setCtx ctx).display = s.display ∧ (s.setCtx ctx).panel = s.panel ∧
    (s.setCtx ctx).events = s.events ∧ (s.setCtx ctx).rest = s.rest ∧
    (s.setCtx ctx).phraseStore = s.phraseStore ∧ (s.setCtx ctx).pending = s.pending := by
  unfold setCtx; (repeat' split) <;> simp

@[simp] theorem leaveBid_keeps (s : State) :
    s.leaveBid.timebase = s.timebase ∧ s.leaveBid.host = s.host ∧ s.leaveBid.machine = s.machine ∧
    s.leaveBid.settings = s.settings ∧ s.leaveBid.agenda = s.agenda ∧
    s.leaveBid.floor.claims = s.floor.claims ∧ s.leaveBid.floor.holders = s.floor.holders ∧
    s.leaveBid.floor.isolated = s.floor.isolated ∧ s.leaveBid.line = s.line ∧
    s.leaveBid.roster = s.roster ∧ s.leaveBid.flash = s.flash ∧ s.leaveBid.renderer = s.renderer ∧
    s.leaveBid.level = s.level ∧ s.leaveBid.display = s.display ∧ s.leaveBid.panel = s.panel ∧
    s.leaveBid.events = s.events ∧ s.leaveBid.rest = s.rest ∧ s.leaveBid.phraseStore = s.phraseStore ∧
    s.leaveBid.pending = s.pending := by
  unfold leaveBid; (repeat' split) <;> simp

@[simp] theorem lostCandidate_keeps (s : State) :
    s.lostCandidate.timebase = s.timebase ∧ s.lostCandidate.host = s.host ∧
    s.lostCandidate.machine = s.machine ∧ s.lostCandidate.settings = s.settings ∧
    s.lostCandidate.agenda = s.agenda ∧ s.lostCandidate.floor.claims = s.floor.claims ∧
    s.lostCandidate.floor.holders = s.floor.holders ∧
    s.lostCandidate.floor.isolated = s.floor.isolated ∧ s.lostCandidate.roster = s.roster ∧
    s.lostCandidate.flash = s.flash ∧ s.lostCandidate.renderer = s.renderer ∧
    s.lostCandidate.level = s.level ∧ s.lostCandidate.display = s.display ∧
    s.lostCandidate.panel = s.panel ∧ s.lostCandidate.events = s.events ∧
    s.lostCandidate.rest = s.rest ∧ s.lostCandidate.phraseStore = s.phraseStore ∧
    s.lostCandidate.pending = s.pending := by
  unfold lostCandidate; (repeat' split) <;> simp

@[simp] theorem mapEntries_keeps (s : State) (f : Entry → Entry) :
    (s.mapEntries f).timebase = s.timebase ∧ (s.mapEntries f).host = s.host ∧
    (s.mapEntries f).machine = s.machine ∧ (s.mapEntries f).settings = s.settings ∧
    (s.mapEntries f).agenda.nextTicket = s.agenda.nextTicket ∧
    (s.mapEntries f).agenda.basePage = s.agenda.basePage ∧ (s.mapEntries f).floor = s.floor ∧
    (s.mapEntries f).line = s.line ∧ (s.mapEntries f).roster = s.roster ∧
    (s.mapEntries f).flash = s.flash ∧ (s.mapEntries f).renderer = s.renderer ∧
    (s.mapEntries f).level = s.level ∧ (s.mapEntries f).display = s.display ∧
    (s.mapEntries f).panel = s.panel ∧ (s.mapEntries f).events = s.events ∧
    (s.mapEntries f).rest = s.rest ∧ (s.mapEntries f).phraseStore = s.phraseStore ∧
    (s.mapEntries f).pending = s.pending := by
  unfold mapEntries; (repeat' split) <;> simp

@[simp] theorem closeGate_keeps (s : State) :
    s.closeGate.timebase = s.timebase ∧ s.closeGate.host = s.host ∧ s.closeGate.machine = s.machine ∧
    s.closeGate.settings = s.settings ∧ s.closeGate.agenda.ids = s.agenda.ids ∧
    s.closeGate.agenda.nextTicket = s.agenda.nextTicket ∧
    s.closeGate.agenda.basePage = s.agenda.basePage ∧ s.closeGate.floor = s.floor ∧
    s.closeGate.line = s.line ∧ s.closeGate.roster = s.roster ∧ s.closeGate.flash = s.flash ∧
    s.closeGate.renderer = s.renderer ∧ s.closeGate.level = s.level ∧ s.closeGate.display = s.display ∧
    s.closeGate.panel = s.panel ∧ s.closeGate.events = s.events ∧ s.closeGate.rest = s.rest ∧
    s.closeGate.phraseStore = s.phraseStore ∧ s.closeGate.pending = s.pending := by
  have h := ids_mapEntries s (Entry.gateTest s.panel.presence) (by simp)
  simpa [closeGate] using h

@[simp] theorem deferBid_keeps (s : State) :
    s.deferBid.timebase = s.timebase ∧ s.deferBid.host = s.host ∧ s.deferBid.machine = s.machine ∧
    s.deferBid.settings = s.settings ∧ s.deferBid.agenda.ids = s.agenda.ids ∧
    s.deferBid.agenda.nextTicket = s.agenda.nextTicket ∧
    s.deferBid.agenda.basePage = s.agenda.basePage ∧ s.deferBid.floor.claims = s.floor.claims ∧
    s.deferBid.floor.holders = s.floor.holders ∧ s.deferBid.floor.isolated = s.floor.isolated ∧
    s.deferBid.line = s.line ∧ s.deferBid.roster = s.roster ∧ s.deferBid.flash = s.flash ∧
    s.deferBid.renderer = s.renderer ∧ s.deferBid.level = s.level ∧ s.deferBid.display = s.display ∧
    s.deferBid.panel = s.panel ∧ s.deferBid.events = s.events ∧ s.deferBid.rest = s.rest ∧
    s.deferBid.phraseStore = s.phraseStore ∧ s.deferBid.pending = s.pending := by
  have h := ids_mapEntries s Entry.unbid (by simp)
  simp [deferBid, h]

@[simp] theorem viewChanged_keeps (s : State) :
    s.viewChanged.timebase = s.timebase ∧ s.viewChanged.host = s.host ∧
    s.viewChanged.machine = s.machine ∧ s.viewChanged.settings = s.settings ∧
    s.viewChanged.agenda.ids = s.agenda.ids ∧ s.viewChanged.agenda.nextTicket = s.agenda.nextTicket ∧
    s.viewChanged.agenda.basePage = s.agenda.basePage ∧ s.viewChanged.floor.claims = s.floor.claims ∧
    s.viewChanged.floor.holders = s.floor.holders ∧ s.viewChanged.floor.isolated = s.floor.isolated ∧
    s.viewChanged.roster = s.roster ∧ s.viewChanged.flash = s.flash ∧
    s.viewChanged.renderer = s.renderer ∧ s.viewChanged.level = s.level ∧
    s.viewChanged.display = s.display ∧ s.viewChanged.panel = s.panel ∧
    s.viewChanged.events = s.events ∧ s.viewChanged.rest = s.rest ∧
    s.viewChanged.phraseStore = s.phraseStore ∧ s.viewChanged.pending = s.pending := by
  unfold viewChanged; (repeat' split) <;> simp

@[simp] theorem testEligible_keeps (s : State) :
    s.testEligible.timebase = s.timebase ∧ s.testEligible.host = s.host ∧
    s.testEligible.machine = s.machine ∧ s.testEligible.settings = s.settings ∧
    s.testEligible.agenda.ids = s.agenda.ids ∧ s.testEligible.agenda.nextTicket = s.agenda.nextTicket ∧
    s.testEligible.agenda.basePage = s.agenda.basePage ∧ s.testEligible.floor = s.floor ∧
    s.testEligible.line = s.line ∧ s.testEligible.roster = s.roster ∧ s.testEligible.flash = s.flash ∧
    s.testEligible.renderer = s.renderer ∧ s.testEligible.level = s.level ∧
    s.testEligible.display = s.display ∧ s.testEligible.panel = s.panel ∧
    s.testEligible.events = s.events ∧ s.testEligible.rest = s.rest ∧
    s.testEligible.phraseStore = s.phraseStore ∧ s.testEligible.pending = s.pending := by
  have h := ids_mapEntries s
    (fun e => if e.state = .waiting ∧ s.eligible e = true then { e with state := .ready, wait := 0 } else e)
    (fun e => by split <;> simp)
  simpa [testEligible] using h

@[simp] theorem startPlay_keeps (s : State) (e : Entry) (route : Route) :
    (s.startPlay e route).timebase.station = s.timebase.station ∧ (s.startPlay e route).host = s.host ∧
    (s.startPlay e route).machine = s.machine ∧ (s.startPlay e route).settings = s.settings ∧
    (s.startPlay e route).agenda.ids = s.agenda.ids ∧
    (s.startPlay e route).agenda.nextTicket = s.agenda.nextTicket ∧
    (s.startPlay e route).agenda.basePage = s.agenda.basePage ∧ (s.startPlay e route).floor = s.floor ∧
    (s.startPlay e route).line = s.line ∧ (s.startPlay e route).roster = s.roster ∧
    (s.startPlay e route).flash.store = s.flash.store ∧ (s.startPlay e route).panel = s.panel ∧
    (s.startPlay e route).rest = s.rest ∧ (s.startPlay e route).phraseStore = s.phraseStore ∧
    (s.startPlay e route).pending = s.pending := by
  unfold startPlay; (repeat' split) <;> simp

@[simp] theorem requestEstimate_keeps (s : State) (p : Post) :
    (s.requestEstimate p).timebase = s.timebase ∧ (s.requestEstimate p).host = s.host ∧
    (s.requestEstimate p).machine = s.machine ∧ (s.requestEstimate p).settings = s.settings ∧
    (s.requestEstimate p).agenda = s.agenda ∧ (s.requestEstimate p).floor = s.floor ∧
    (s.requestEstimate p).line = s.line ∧ (s.requestEstimate p).roster = s.roster ∧
    (s.requestEstimate p).renderer = s.renderer ∧ (s.requestEstimate p).level = s.level ∧
    (s.requestEstimate p).display = s.display ∧ (s.requestEstimate p).panel = s.panel ∧
    (s.requestEstimate p).events = s.events ∧ (s.requestEstimate p).rest = s.rest ∧
    (s.requestEstimate p).phraseStore = s.phraseStore ∧ (s.requestEstimate p).pending = s.pending ∧
    (s.requestEstimate p).flash.store = s.flash.store ∧
    (s.requestEstimate p).flash.port = s.flash.port ∧
    (s.requestEstimate p).flash.buffer = s.flash.buffer ∧
    (s.requestEstimate p).flash.scanWait = s.flash.scanWait ∧
    (s.requestEstimate p).flash.scanData = s.flash.scanData := by
  unfold requestEstimate; (repeat' split) <;> simp

@[simp] theorem isolatedStart_keeps (s : State) (e : Entry) :
    (s.isolatedStart e).timebase.station = s.timebase.station ∧ (s.isolatedStart e).host = s.host ∧
    (s.isolatedStart e).machine = s.machine ∧ (s.isolatedStart e).settings = s.settings ∧
    (s.isolatedStart e).agenda.ids = s.agenda.ids ∧
    (s.isolatedStart e).agenda.nextTicket = s.agenda.nextTicket ∧
    (s.isolatedStart e).agenda.basePage = s.agenda.basePage ∧
    (s.isolatedStart e).floor.claims = s.floor.claims ∧
    (s.isolatedStart e).floor.holders = s.floor.holders ∧
    (s.isolatedStart e).floor.isolated = s.floor.isolated ∧ (s.isolatedStart e).line = s.line ∧
    (s.isolatedStart e).roster = s.roster ∧ (s.isolatedStart e).flash.store = s.flash.store ∧
    (s.isolatedStart e).panel = s.panel ∧ (s.isolatedStart e).rest = s.rest ∧
    (s.isolatedStart e).phraseStore = s.phraseStore ∧ (s.isolatedStart e).pending = s.pending := by
  unfold isolatedStart; (repeat' split) <;> simp

@[simp] theorem idleTest_keeps (s : State) :
    s.idleTest.timebase = s.timebase ∧ s.idleTest.host = s.host ∧ s.idleTest.machine = s.machine ∧
    s.idleTest.settings = s.settings ∧ s.idleTest.agenda = s.agenda ∧ s.idleTest.floor = s.floor ∧
    s.idleTest.line = s.line ∧ s.idleTest.roster = s.roster ∧ s.idleTest.flash = s.flash ∧
    s.idleTest.renderer = s.renderer ∧ s.idleTest.level = s.level ∧ s.idleTest.display = s.display ∧
    s.idleTest.panel = s.panel ∧ s.idleTest.events = s.events ∧ s.idleTest.rest.part = s.rest.part ∧
    s.idleTest.rest.warm = s.rest.warm ∧ s.idleTest.phraseStore = s.phraseStore ∧
    s.idleTest.pending = s.pending := by
  unfold idleTest; (repeat' split) <;> simp

@[simp] theorem localStart_keeps (s : State) :
    s.localStart.timebase.station = s.timebase.station ∧ s.localStart.host = s.host ∧
    s.localStart.machine = s.machine ∧ s.localStart.settings = s.settings ∧
    s.localStart.agenda.ids = s.agenda.ids ∧ s.localStart.agenda.nextTicket = s.agenda.nextTicket ∧
    s.localStart.agenda.basePage = s.agenda.basePage ∧ s.localStart.floor = s.floor ∧
    s.localStart.line = s.line ∧ s.localStart.roster = s.roster ∧
    s.localStart.flash.store = s.flash.store ∧ s.localStart.panel = s.panel ∧
    s.localStart.rest = s.rest ∧ s.localStart.phraseStore = s.phraseStore ∧
    s.localStart.pending = s.pending := by
  unfold localStart; (repeat' split) <;> simp

@[simp] theorem floorTest_keeps (s : State) :
    s.floorTest.timebase.station = s.timebase.station ∧ s.floorTest.host = s.host ∧
    s.floorTest.machine = s.machine ∧ s.floorTest.settings = s.settings ∧
    s.floorTest.agenda.ids = s.agenda.ids ∧ s.floorTest.agenda.nextTicket = s.agenda.nextTicket ∧
    s.floorTest.agenda.basePage = s.agenda.basePage ∧ s.floorTest.floor.claims = s.floor.claims ∧
    s.floorTest.floor.holders = s.floor.holders ∧ s.floorTest.floor.isolated = s.floor.isolated ∧
    s.floorTest.line = s.line ∧ s.floorTest.roster = s.roster ∧
    s.floorTest.flash.store = s.flash.store ∧ s.floorTest.panel = s.panel ∧ s.floorTest.rest = s.rest ∧
    s.floorTest.phraseStore = s.phraseStore ∧ s.floorTest.pending = s.pending := by
  unfold floorTest; (repeat' split) <;> simp

@[simp] theorem followUp_keeps (s : State) :
    s.followUp.timebase.station = s.timebase.station ∧ s.followUp.host = s.host ∧
    s.followUp.machine = s.machine ∧ s.followUp.settings = s.settings ∧
    s.followUp.agenda.ids = s.agenda.ids ∧ s.followUp.agenda.nextTicket = s.agenda.nextTicket ∧
    s.followUp.agenda.basePage = s.agenda.basePage ∧ s.followUp.floor.claims = s.floor.claims ∧
    s.followUp.floor.holders = s.floor.holders ∧ s.followUp.floor.isolated = s.floor.isolated ∧
    s.followUp.line = s.line ∧ s.followUp.roster = s.roster ∧ s.followUp.flash.store = s.flash.store ∧
    s.followUp.panel = s.panel ∧ s.followUp.rest.part = s.rest.part ∧
    s.followUp.rest.warm = s.rest.warm ∧ s.followUp.phraseStore = s.phraseStore ∧
    s.followUp.pending = s.pending := by
  unfold followUp; (repeat' split) <;> simp

@[simp] theorem admission_keeps (s : State) (p : Post) (ticket : Nat) :
    (s.admission p ticket).timebase = s.timebase ∧ (s.admission p ticket).host = s.host ∧
    (s.admission p ticket).machine = s.machine ∧ (s.admission p ticket).settings = s.settings ∧
    (s.admission p ticket).agenda.nextTicket = s.agenda.nextTicket ∧
    (s.admission p ticket).agenda.basePage = s.agenda.basePage ∧ (s.admission p ticket).floor = s.floor ∧
    (s.admission p ticket).line = s.line ∧ (s.admission p ticket).roster = s.roster ∧
    (s.admission p ticket).flash.store = s.flash.store ∧ (s.admission p ticket).renderer = s.renderer ∧
    (s.admission p ticket).level = s.level ∧ (s.admission p ticket).panel = s.panel ∧
    (s.admission p ticket).rest.part = s.rest.part ∧ (s.admission p ticket).rest.warm = s.rest.warm ∧
    (s.admission p ticket).phraseStore = s.phraseStore ∧ (s.admission p ticket).pending = s.pending := by
  unfold admission; (repeat' split) <;> simp

@[simp] theorem ticketUsed_keeps (s : State) (ticket : Nat) :
    (s.ticketUsed ticket).timebase = s.timebase ∧ (s.ticketUsed ticket).host = s.host ∧
    (s.ticketUsed ticket).machine = s.machine ∧ (s.ticketUsed ticket).settings = s.settings ∧
    (s.ticketUsed ticket).agenda.ids = s.agenda.ids ∧
    (s.ticketUsed ticket).agenda.basePage = s.agenda.basePage ∧ (s.ticketUsed ticket).floor = s.floor ∧
    (s.ticketUsed ticket).line = s.line ∧ (s.ticketUsed ticket).roster = s.roster ∧
    (s.ticketUsed ticket).flash = s.flash ∧ (s.ticketUsed ticket).renderer = s.renderer ∧
    (s.ticketUsed ticket).level = s.level ∧ (s.ticketUsed ticket).display = s.display ∧
    (s.ticketUsed ticket).panel = s.panel ∧ (s.ticketUsed ticket).events = s.events ∧
    (s.ticketUsed ticket).rest = s.rest ∧ (s.ticketUsed ticket).phraseStore = s.phraseStore ∧
    (s.ticketUsed ticket).pending = s.pending := by
  unfold ticketUsed; (repeat' split) <;> simp

@[simp] theorem retireSuccessor_keeps (s : State) (successor : Option Successor) (outcome : Retirement) :
    (s.retireSuccessor successor outcome).timebase = s.timebase ∧
    (s.retireSuccessor successor outcome).host = s.host ∧
    (s.retireSuccessor successor outcome).machine = s.machine ∧
    (s.retireSuccessor successor outcome).settings = s.settings ∧
    (s.retireSuccessor successor outcome).agenda = s.agenda ∧
    (s.retireSuccessor successor outcome).floor = s.floor ∧
    (s.retireSuccessor successor outcome).line = s.line ∧
    (s.retireSuccessor successor outcome).roster = s.roster ∧
    (s.retireSuccessor successor outcome).flash = s.flash ∧
    (s.retireSuccessor successor outcome).renderer = s.renderer ∧
    (s.retireSuccessor successor outcome).level = s.level ∧
    (s.retireSuccessor successor outcome).display = s.display ∧
    (s.retireSuccessor successor outcome).panel = s.panel ∧
    (s.retireSuccessor successor outcome).rest = s.rest ∧
    (s.retireSuccessor successor outcome).phraseStore = s.phraseStore ∧
    (s.retireSuccessor successor outcome).pending = s.pending := by
  unfold retireSuccessor; (repeat' split) <;> simp

@[simp] theorem leaveEntry_keeps (s : State) (e : Entry) (outcome : Retirement) :
    (s.leaveEntry e outcome).timebase = s.timebase ∧ (s.leaveEntry e outcome).host = s.host ∧
    (s.leaveEntry e outcome).machine = s.machine ∧ (s.leaveEntry e outcome).settings = s.settings ∧
    (s.leaveEntry e outcome).agenda.nextTicket = s.agenda.nextTicket ∧
    (s.leaveEntry e outcome).agenda.basePage = s.agenda.basePage ∧
    (s.leaveEntry e outcome).agenda.owner = s.agenda.owner ∧
    (s.leaveEntry e outcome).floor = s.floor ∧ (s.leaveEntry e outcome).line = s.line ∧
    (s.leaveEntry e outcome).roster = s.roster ∧ (s.leaveEntry e outcome).flash = s.flash ∧
    (s.leaveEntry e outcome).renderer = s.renderer ∧ (s.leaveEntry e outcome).level = s.level ∧
    (s.leaveEntry e outcome).display = s.display ∧
    (s.leaveEntry e outcome).panel = s.panel ∧ (s.leaveEntry e outcome).rest = s.rest ∧
    (s.leaveEntry e outcome).phraseStore = s.phraseStore ∧
    (s.leaveEntry e outcome).pending = s.pending := by
  unfold leaveEntry; simp

@[simp] theorem dropEntry_keeps (s : State) (e : Entry) (outcome : Retirement) :
    (s.dropEntry e outcome).timebase = s.timebase ∧ (s.dropEntry e outcome).host = s.host ∧
    (s.dropEntry e outcome).machine = s.machine ∧ (s.dropEntry e outcome).settings = s.settings ∧
    (s.dropEntry e outcome).agenda.nextTicket = s.agenda.nextTicket ∧
    (s.dropEntry e outcome).agenda.basePage = s.agenda.basePage ∧
    (s.dropEntry e outcome).floor = s.floor ∧ (s.dropEntry e outcome).line = s.line ∧
    (s.dropEntry e outcome).roster = s.roster ∧ (s.dropEntry e outcome).flash.store = s.flash.store ∧
    (s.dropEntry e outcome).renderer = s.renderer ∧ (s.dropEntry e outcome).level = s.level ∧
    (s.dropEntry e outcome).panel = s.panel ∧ (s.dropEntry e outcome).rest = s.rest ∧
    (s.dropEntry e outcome).phraseStore = s.phraseStore ∧
    (s.dropEntry e outcome).pending = s.pending := by
  unfold dropEntry; (repeat' split) <;> simp

@[simp] theorem retireEntry_keeps (s : State) (e : Entry) (outcome : Retirement) :
    (s.retireEntry e outcome).timebase = s.timebase ∧ (s.retireEntry e outcome).host = s.host ∧
    (s.retireEntry e outcome).machine = s.machine ∧ (s.retireEntry e outcome).settings = s.settings ∧
    (s.retireEntry e outcome).agenda.nextTicket = s.agenda.nextTicket ∧
    (s.retireEntry e outcome).agenda.basePage = s.agenda.basePage ∧
    (s.retireEntry e outcome).floor.claims = s.floor.claims ∧
    (s.retireEntry e outcome).floor.holders = s.floor.holders ∧
    (s.retireEntry e outcome).floor.isolated = s.floor.isolated ∧
    (s.retireEntry e outcome).roster = s.roster ∧
    (s.retireEntry e outcome).flash.store = s.flash.store ∧ (s.retireEntry e outcome).panel = s.panel ∧
    (s.retireEntry e outcome).rest = s.rest ∧ (s.retireEntry e outcome).phraseStore = s.phraseStore ∧
    (s.retireEntry e outcome).pending = s.pending := by
  unfold retireEntry; (repeat' split) <;> simp

@[simp] theorem dropPlayed_keeps (s : State) (e : Entry) (outcome : Retirement) :
    (s.dropPlayed e outcome).timebase = s.timebase ∧ (s.dropPlayed e outcome).host = s.host ∧
    (s.dropPlayed e outcome).machine = s.machine ∧ (s.dropPlayed e outcome).settings = s.settings ∧
    (s.dropPlayed e outcome).agenda.nextTicket = s.agenda.nextTicket ∧
    (s.dropPlayed e outcome).agenda.basePage = s.agenda.basePage ∧
    (s.dropPlayed e outcome).floor = s.floor ∧ (s.dropPlayed e outcome).line = s.line ∧
    (s.dropPlayed e outcome).roster = s.roster ∧ (s.dropPlayed e outcome).flash.store = s.flash.store ∧
    (s.dropPlayed e outcome).renderer = s.renderer ∧ (s.dropPlayed e outcome).level = s.level ∧
    (s.dropPlayed e outcome).panel = s.panel ∧ (s.dropPlayed e outcome).rest.part = s.rest.part ∧
    (s.dropPlayed e outcome).rest.warm = s.rest.warm ∧
    (s.dropPlayed e outcome).phraseStore = s.phraseStore ∧
    (s.dropPlayed e outcome).pending = s.pending := by
  unfold dropPlayed; (repeat' split) <;> simp

@[simp] theorem entryPlayed_keeps (s : State) (e : Entry) :
    (s.entryPlayed e).timebase = s.timebase ∧ (s.entryPlayed e).host = s.host ∧
    (s.entryPlayed e).machine = s.machine ∧ (s.entryPlayed e).settings = s.settings ∧
    (s.entryPlayed e).agenda.nextTicket = s.agenda.nextTicket ∧
    (s.entryPlayed e).agenda.basePage = s.agenda.basePage ∧ (s.entryPlayed e).floor = s.floor ∧
    (s.entryPlayed e).line = s.line ∧ (s.entryPlayed e).roster = s.roster ∧
    (s.entryPlayed e).flash.store = s.flash.store ∧ (s.entryPlayed e).renderer = s.renderer ∧
    (s.entryPlayed e).level = s.level ∧ (s.entryPlayed e).panel = s.panel ∧
    (s.entryPlayed e).rest.part = s.rest.part ∧ (s.entryPlayed e).rest.warm = s.rest.warm ∧
    (s.entryPlayed e).phraseStore = s.phraseStore ∧ (s.entryPlayed e).pending = s.pending := by
  unfold entryPlayed; (repeat' split) <;> simp

@[simp] theorem agendaPlayEnd_keeps (s : State) (report : EndReport) :
    (s.agendaPlayEnd report).timebase = s.timebase ∧ (s.agendaPlayEnd report).host = s.host ∧
    (s.agendaPlayEnd report).machine = s.machine ∧ (s.agendaPlayEnd report).settings = s.settings ∧
    (s.agendaPlayEnd report).agenda.nextTicket = s.agenda.nextTicket ∧
    (s.agendaPlayEnd report).agenda.basePage = s.agenda.basePage ∧
    (s.agendaPlayEnd report).floor = s.floor ∧ (s.agendaPlayEnd report).line = s.line ∧
    (s.agendaPlayEnd report).roster = s.roster ∧ (s.agendaPlayEnd report).flash.store = s.flash.store ∧
    (s.agendaPlayEnd report).renderer = s.renderer ∧ (s.agendaPlayEnd report).level = s.level ∧
    (s.agendaPlayEnd report).panel = s.panel ∧ (s.agendaPlayEnd report).rest.part = s.rest.part ∧
    (s.agendaPlayEnd report).rest.warm = s.rest.warm ∧
    (s.agendaPlayEnd report).phraseStore = s.phraseStore ∧
    (s.agendaPlayEnd report).pending = s.pending := by
  unfold agendaPlayEnd; (repeat' split) <;> simp

@[simp] theorem releaseHold_keeps (s : State) (hold : Hold) :
    (s.releaseHold hold).timebase = s.timebase ∧ (s.releaseHold hold).host = s.host ∧
    (s.releaseHold hold).machine = s.machine ∧ (s.releaseHold hold).settings = s.settings ∧
    (s.releaseHold hold).agenda = s.agenda ∧ (s.releaseHold hold).floor = s.floor ∧
    (s.releaseHold hold).roster = s.roster ∧ (s.releaseHold hold).flash = s.flash ∧
    (s.releaseHold hold).renderer = s.renderer ∧ (s.releaseHold hold).level = s.level ∧
    (s.releaseHold hold).display = s.display ∧ (s.releaseHold hold).panel = s.panel ∧
    (s.releaseHold hold).events = s.events ∧ (s.releaseHold hold).rest = s.rest ∧
    (s.releaseHold hold).phraseStore = s.phraseStore ∧ (s.releaseHold hold).pending = s.pending := by
  unfold releaseHold; (repeat' split) <;> simp

@[simp] theorem playEnded_keeps (s : State) (report : EndReport) :
    (s.playEnded report).timebase.station = s.timebase.station ∧ (s.playEnded report).host = s.host ∧
    (s.playEnded report).machine = s.machine ∧ (s.playEnded report).settings = s.settings ∧
    (s.playEnded report).agenda.nextTicket = s.agenda.nextTicket ∧
    (s.playEnded report).agenda.basePage = s.agenda.basePage ∧
    (s.playEnded report).floor.claims = s.floor.claims ∧
    (s.playEnded report).floor.holders = s.floor.holders ∧
    (s.playEnded report).floor.isolated = s.floor.isolated ∧ (s.playEnded report).roster = s.roster ∧
    (s.playEnded report).flash.store = s.flash.store ∧ (s.playEnded report).panel = s.panel ∧
    (s.playEnded report).rest.part = s.rest.part ∧ (s.playEnded report).rest.warm = s.rest.warm ∧
    (s.playEnded report).phraseStore = s.phraseStore ∧ (s.playEnded report).pending = s.pending := by
  unfold playEnded; (repeat' split) <;> simp

@[simp] theorem isolateReport_keeps (s : State) :
    s.isolateReport.timebase = s.timebase ∧ s.isolateReport.host = s.host ∧
    s.isolateReport.machine = s.machine ∧ s.isolateReport.settings = s.settings ∧
    s.isolateReport.agenda.ids = s.agenda.ids ∧
    s.isolateReport.agenda.nextTicket = s.agenda.nextTicket ∧
    s.isolateReport.agenda.basePage = s.agenda.basePage ∧ s.isolateReport.roster = s.roster ∧
    s.isolateReport.flash = s.flash ∧ s.isolateReport.renderer = s.renderer ∧
    s.isolateReport.level = s.level ∧ s.isolateReport.display = s.display ∧
    s.isolateReport.panel = s.panel ∧ s.isolateReport.rest = s.rest ∧
    s.isolateReport.phraseStore = s.phraseStore ∧ s.isolateReport.pending = s.pending := by
  unfold isolateReport; (repeat' split) <;> simp

@[simp] theorem lineGood_keeps (s : State) :
    s.lineGood.timebase = s.timebase ∧ s.lineGood.host = s.host ∧ s.lineGood.machine = s.machine ∧
    s.lineGood.settings = s.settings ∧ s.lineGood.agenda = s.agenda ∧
    s.lineGood.floor.claims = s.floor.claims ∧ s.lineGood.floor.holders = s.floor.holders ∧
    s.lineGood.line = s.line ∧ s.lineGood.roster = s.roster ∧ s.lineGood.flash = s.flash ∧
    s.lineGood.renderer = s.renderer ∧ s.lineGood.level = s.level ∧ s.lineGood.display = s.display ∧
    s.lineGood.panel = s.panel ∧ s.lineGood.rest = s.rest ∧ s.lineGood.phraseStore = s.phraseStore ∧
    s.lineGood.pending = s.pending := by
  unfold lineGood; (repeat' split) <;> simp

@[simp] theorem sessionReset_keeps (s : State) :
    s.sessionReset.timebase = s.timebase ∧ s.sessionReset.host = s.host ∧
    s.sessionReset.machine = s.machine ∧ s.sessionReset.settings = s.settings ∧
    s.sessionReset.agenda.ids = s.agenda.ids ∧ s.sessionReset.agenda.nextTicket = s.agenda.nextTicket ∧
    s.sessionReset.agenda.basePage = s.agenda.basePage ∧ s.sessionReset.floor = s.floor ∧
    s.sessionReset.line = s.line ∧ s.sessionReset.roster = s.roster ∧
    s.sessionReset.flash.store = s.flash.store ∧ s.sessionReset.renderer = s.renderer ∧
    s.sessionReset.level = s.level ∧ s.sessionReset.panel.presence = s.panel.presence ∧
    s.sessionReset.rest = s.rest ∧ s.sessionReset.phraseStore = s.phraseStore ∧
    s.sessionReset.pending = s.pending := by
  simp only [sessionReset]; split <;> simp

@[simp] theorem enterActive_keeps (s : State) :
    s.enterActive.timebase = s.timebase ∧ s.enterActive.host = s.host ∧
    s.enterActive.machine = s.machine ∧ s.enterActive.settings = s.settings ∧
    s.enterActive.agenda.ids = s.agenda.ids ∧ s.enterActive.agenda.nextTicket = s.agenda.nextTicket ∧
    s.enterActive.agenda.basePage = s.agenda.basePage ∧ s.enterActive.floor = s.floor ∧
    s.enterActive.line = s.line ∧ s.enterActive.roster = s.roster ∧
    s.enterActive.flash.store = s.flash.store ∧ s.enterActive.renderer = s.renderer ∧
    s.enterActive.level = s.level ∧ s.enterActive.panel = s.panel ∧
    s.enterActive.rest.warm = s.rest.warm ∧ s.enterActive.phraseStore = s.phraseStore ∧
    s.enterActive.pending = s.pending := by
  unfold enterActive; (repeat' split) <;> simp

@[simp] theorem returnActive_keeps (s : State) :
    s.returnActive.timebase = s.timebase ∧ s.returnActive.host = s.host ∧
    s.returnActive.machine = s.machine ∧ s.returnActive.settings = s.settings ∧
    s.returnActive.agenda.ids = s.agenda.ids ∧ s.returnActive.agenda.nextTicket = s.agenda.nextTicket ∧
    s.returnActive.agenda.basePage = s.agenda.basePage ∧ s.returnActive.floor = s.floor ∧
    s.returnActive.line = s.line ∧ s.returnActive.roster = s.roster ∧
    s.returnActive.flash.store = s.flash.store ∧ s.returnActive.renderer = s.renderer ∧
    s.returnActive.level = s.level ∧ s.returnActive.panel = s.panel ∧
    s.returnActive.rest.warm = s.rest.warm ∧ s.returnActive.phraseStore = s.phraseStore ∧
    s.returnActive.pending = s.pending := by
  unfold returnActive; (repeat' split) <;> simp

@[simp] theorem floorEmptied_keeps (s : State) :
    s.floorEmptied.timebase = s.timebase ∧ s.floorEmptied.host = s.host ∧
    s.floorEmptied.machine = s.machine ∧ s.floorEmptied.settings = s.settings ∧
    s.floorEmptied.agenda = s.agenda ∧ s.floorEmptied.line = s.line ∧
    s.floorEmptied.roster = s.roster ∧ s.floorEmptied.flash = s.flash ∧
    s.floorEmptied.renderer = s.renderer ∧ s.floorEmptied.level = s.level ∧
    s.floorEmptied.display = s.display ∧ s.floorEmptied.panel = s.panel ∧
    s.floorEmptied.events = s.events ∧ s.floorEmptied.rest = s.rest ∧
    s.floorEmptied.phraseStore = s.phraseStore ∧ s.floorEmptied.pending = s.pending ∧
    s.floorEmptied.floor.claims = s.floor.claims ∧ s.floorEmptied.floor.holders = s.floor.holders ∧
    s.floorEmptied.floor.quietAge = s.floor.quietAge ∧
    s.floorEmptied.floor.isolated = s.floor.isolated := by
  unfold floorEmptied; (repeat' split) <;> simp [setCtx]

@[simp] theorem enterStandby_keeps (s : State) :
    s.enterStandby.timebase = s.timebase ∧ s.enterStandby.host = s.host ∧
    s.enterStandby.machine = s.machine ∧ s.enterStandby.settings = s.settings ∧
    s.enterStandby.agenda = s.agenda ∧ s.enterStandby.floor.claims = s.floor.claims ∧
    s.enterStandby.floor.holders = s.floor.holders ∧ s.enterStandby.floor.quietAge = s.floor.quietAge ∧
    s.enterStandby.floor.isolated = s.floor.isolated ∧ s.enterStandby.line = s.line ∧
    s.enterStandby.roster = s.roster ∧ s.enterStandby.flash.store = s.flash.store ∧
    s.enterStandby.level = s.level ∧ s.enterStandby.panel = s.panel ∧
    s.enterStandby.rest.warm = s.rest.warm ∧ s.enterStandby.phraseStore = s.phraseStore ∧
    s.enterStandby.pending = s.pending := by
  unfold enterStandby; (repeat' split) <;> simp

end Sys2Proof.Machine.State
end

