-- ==== Sys2Proof/Laws/Units.lean ====
section
/-! SUPPORT. What each operation of the units leaves as it was; see Laws/Ops.lean for the shared operations. -/

namespace Sys2Proof.Machine.State

set_option linter.unnecessarySeqFocus false
set_option linter.unusedTactic false

@[simp] theorem second_keeps (e : Entry) : e.second.ticket = e.ticket ∧
    e.second.post = e.post ∧ e.second.successor = e.successor := ⟨rfl, rfl, rfl⟩
@[simp] theorem tenthTick_keeps (e : Entry) : e.tenthTick.ticket = e.ticket ∧
    e.tenthTick.post = e.post ∧ e.tenthTick.successor = e.successor := ⟨rfl, rfl, rfl⟩
@[simp] theorem cadenceStep_keeps (e : Entry) : e.cadenceStep.ticket = e.ticket ∧
    e.cadenceStep.post = e.post ∧ e.cadenceStep.successor = e.successor := by
  unfold Entry.cadenceStep; (repeat' split) <;> simp
@[simp] theorem replayPressed_keeps (e : Entry) : e.replayPressed.ticket = e.ticket ∧
    e.replayPressed.post = e.post ∧ e.replayPressed.successor = e.successor := by
  unfold Entry.replayPressed; split <;> simp
@[simp] theorem msTick_isolated (f : Floor) : f.msTick.isolated = f.isolated := rfl

@[simp] theorem retireAll_keeps (s : State) (outcome : Retirement) (es : List Entry) :
    (s.retireAll outcome es).timebase = s.timebase ∧ (s.retireAll outcome es).host = s.host ∧
    (s.retireAll outcome es).machine = s.machine ∧ (s.retireAll outcome es).settings = s.settings ∧
    (s.retireAll outcome es).agenda.nextTicket = s.agenda.nextTicket ∧
    (s.retireAll outcome es).agenda.basePage = s.agenda.basePage ∧
    (s.retireAll outcome es).floor.claims = s.floor.claims ∧
    (s.retireAll outcome es).floor.holders = s.floor.holders ∧
    (s.retireAll outcome es).floor.isolated = s.floor.isolated ∧
    (s.retireAll outcome es).roster = s.roster ∧
    (s.retireAll outcome es).flash.store = s.flash.store ∧ (s.retireAll outcome es).panel = s.panel ∧
    (s.retireAll outcome es).rest = s.rest ∧ (s.retireAll outcome es).phraseStore = s.phraseStore ∧
    (s.retireAll outcome es).pending = s.pending := by
  induction es generalizing s with
  | nil => simp [retireAll]
  | cons e es ih => simpa [retireAll] using ih (s.retireEntry e outcome)

@[simp] theorem forget_keeps (s : State) (station : Nat) :
    (s.forget station).timebase = s.timebase ∧ (s.forget station).host = s.host ∧
    (s.forget station).machine = s.machine ∧ (s.forget station).settings = s.settings ∧
    (s.forget station).agenda = s.agenda ∧ (s.forget station).floor.isolated = s.floor.isolated ∧
    (s.forget station).line = s.line ∧ (s.forget station).roster = s.roster ∧
    (s.forget station).flash = s.flash ∧ (s.forget station).renderer = s.renderer ∧
    (s.forget station).level = s.level ∧ (s.forget station).display = s.display ∧
    (s.forget station).panel = s.panel ∧ (s.forget station).events = s.events ∧
    (s.forget station).rest = s.rest ∧ (s.forget station).phraseStore = s.phraseStore ∧
    (s.forget station).pending = s.pending := by
  unfold forget; (repeat' split) <;> simp

@[simp] theorem markYield_keeps (s : State) (bid : Bid) (hold : Hold) (mark : YieldMark) :
    (s.markYield bid hold mark).timebase = s.timebase ∧ (s.markYield bid hold mark).host = s.host ∧
    (s.markYield bid hold mark).machine = s.machine ∧
    (s.markYield bid hold mark).settings = s.settings ∧ (s.markYield bid hold mark).agenda = s.agenda ∧
    (s.markYield bid hold mark).floor.claims = s.floor.claims ∧
    (s.markYield bid hold mark).floor.holders = s.floor.holders ∧
    (s.markYield bid hold mark).floor.isolated = s.floor.isolated ∧
    (s.markYield bid hold mark).line = s.line ∧ (s.markYield bid hold mark).roster = s.roster ∧
    (s.markYield bid hold mark).flash = s.flash ∧ (s.markYield bid hold mark).renderer = s.renderer ∧
    (s.markYield bid hold mark).level = s.level ∧ (s.markYield bid hold mark).display = s.display ∧
    (s.markYield bid hold mark).panel = s.panel ∧ (s.markYield bid hold mark).events = s.events ∧
    (s.markYield bid hold mark).rest = s.rest ∧
    (s.markYield bid hold mark).phraseStore = s.phraseStore ∧
    (s.markYield bid hold mark).pending = s.pending := by
  unfold markYield; (repeat' split) <;> simp

@[simp] theorem holderHearsClaim_keeps (s : State) (bid : Bid) (hold : Hold) (key : Nat) :
    (s.holderHearsClaim bid hold key).timebase = s.timebase ∧
    (s.holderHearsClaim bid hold key).host = s.host ∧
    (s.holderHearsClaim bid hold key).machine = s.machine ∧
    (s.holderHearsClaim bid hold key).settings = s.settings ∧
    (s.holderHearsClaim bid hold key).agenda.ids = s.agenda.ids ∧
    (s.holderHearsClaim bid hold key).agenda.nextTicket = s.agenda.nextTicket ∧
    (s.holderHearsClaim bid hold key).agenda.basePage = s.agenda.basePage ∧
    (s.holderHearsClaim bid hold key).floor.claims = s.floor.claims ∧
    (s.holderHearsClaim bid hold key).floor.holders = s.floor.holders ∧
    (s.holderHearsClaim bid hold key).floor.isolated = s.floor.isolated ∧
    (s.holderHearsClaim bid hold key).roster = s.roster ∧
    (s.holderHearsClaim bid hold key).flash.store = s.flash.store ∧
    (s.holderHearsClaim bid hold key).display = s.display ∧
    (s.holderHearsClaim bid hold key).panel = s.panel ∧
    (s.holderHearsClaim bid hold key).events = s.events ∧
    (s.holderHearsClaim bid hold key).rest = s.rest ∧
    (s.holderHearsClaim bid hold key).phraseStore = s.phraseStore ∧
    (s.holderHearsClaim bid hold key).pending = s.pending := by
  unfold holderHearsClaim; (repeat' split) <;> simp

@[simp] theorem yieldAtOnce_keeps (s : State) (bid : Bid) (hold : Hold) :
    (s.yieldAtOnce bid hold).timebase = s.timebase ∧ (s.yieldAtOnce bid hold).host = s.host ∧
    (s.yieldAtOnce bid hold).machine = s.machine ∧ (s.yieldAtOnce bid hold).settings = s.settings ∧
    (s.yieldAtOnce bid hold).agenda.ids = s.agenda.ids ∧
    (s.yieldAtOnce bid hold).agenda.nextTicket = s.agenda.nextTicket ∧
    (s.yieldAtOnce bid hold).agenda.basePage = s.agenda.basePage ∧
    (s.yieldAtOnce bid hold).floor.claims = s.floor.claims ∧
    (s.yieldAtOnce bid hold).floor.holders = s.floor.holders ∧
    (s.yieldAtOnce bid hold).floor.isolated = s.floor.isolated ∧
    (s.yieldAtOnce bid hold).roster = s.roster ∧ (s.yieldAtOnce bid hold).flash.store = s.flash.store ∧
    (s.yieldAtOnce bid hold).display = s.display ∧ (s.yieldAtOnce bid hold).panel = s.panel ∧
    (s.yieldAtOnce bid hold).events = s.events ∧ (s.yieldAtOnce bid hold).rest = s.rest ∧
    (s.yieldAtOnce bid hold).phraseStore = s.phraseStore ∧
    (s.yieldAtOnce bid hold).pending = s.pending := by
  unfold yieldAtOnce; (repeat' split) <;> simp

@[simp] theorem holderHearsTalk_keeps (s : State) (bid : Bid) (hold : Hold) (station key : Nat) :
    (s.holderHearsTalk bid hold station key).timebase = s.timebase ∧
    (s.holderHearsTalk bid hold station key).host = s.host ∧
    (s.holderHearsTalk bid hold station key).machine = s.machine ∧
    (s.holderHearsTalk bid hold station key).settings = s.settings ∧
    (s.holderHearsTalk bid hold station key).agenda.ids = s.agenda.ids ∧
    (s.holderHearsTalk bid hold station key).agenda.nextTicket = s.agenda.nextTicket ∧
    (s.holderHearsTalk bid hold station key).agenda.basePage = s.agenda.basePage ∧
    (s.holderHearsTalk bid hold station key).floor.claims = s.floor.claims ∧
    (s.holderHearsTalk bid hold station key).floor.holders = s.floor.holders ∧
    (s.holderHearsTalk bid hold station key).floor.isolated = s.floor.isolated ∧
    (s.holderHearsTalk bid hold station key).roster = s.roster ∧
    (s.holderHearsTalk bid hold station key).flash.store = s.flash.store ∧
    (s.holderHearsTalk bid hold station key).display = s.display ∧
    (s.holderHearsTalk bid hold station key).panel = s.panel ∧
    (s.holderHearsTalk bid hold station key).events = s.events ∧
    (s.holderHearsTalk bid hold station key).rest = s.rest ∧
    (s.holderHearsTalk bid hold station key).phraseStore = s.phraseStore ∧
    (s.holderHearsTalk bid hold station key).pending = s.pending := by
  unfold holderHearsTalk; (repeat' split) <;> simp

@[simp] theorem recordClaim_keeps (s : State) (station key : Nat) (mask : BitVec 4) :
    (s.recordClaim station key mask).timebase = s.timebase ∧
    (s.recordClaim station key mask).host = s.host ∧
    (s.recordClaim station key mask).machine = s.machine ∧
    (s.recordClaim station key mask).settings = s.settings ∧
    (s.recordClaim station key mask).agenda = s.agenda ∧
    (s.recordClaim station key mask).floor.isolated = s.floor.isolated ∧
    (s.recordClaim station key mask).line = s.line ∧
    (s.recordClaim station key mask).roster = s.roster ∧
    (s.recordClaim station key mask).flash = s.flash ∧
    (s.recordClaim station key mask).renderer = s.renderer ∧
    (s.recordClaim station key mask).level = s.level ∧
    (s.recordClaim station key mask).display = s.display ∧
    (s.recordClaim station key mask).panel = s.panel ∧
    (s.recordClaim station key mask).events = s.events ∧
    (s.recordClaim station key mask).rest = s.rest ∧
    (s.recordClaim station key mask).phraseStore = s.phraseStore ∧
    (s.recordClaim station key mask).pending = s.pending := by
  unfold recordClaim; (repeat' split) <;> simp

@[simp] theorem recordHolder_keeps (s : State) (station key : Nat) (mask : BitVec 4) (length : Nat) :
    (s.recordHolder station key mask length).timebase = s.timebase ∧
    (s.recordHolder station key mask length).host = s.host ∧
    (s.recordHolder station key mask length).machine = s.machine ∧
    (s.recordHolder station key mask length).settings = s.settings ∧
    (s.recordHolder station key mask length).agenda = s.agenda ∧
    (s.recordHolder station key mask length).floor.isolated = s.floor.isolated ∧
    (s.recordHolder station key mask length).line = s.line ∧
    (s.recordHolder station key mask length).roster = s.roster ∧
    (s.recordHolder station key mask length).flash = s.flash ∧
    (s.recordHolder station key mask length).renderer = s.renderer ∧
    (s.recordHolder station key mask length).display = s.display ∧
    (s.recordHolder station key mask length).panel = s.panel ∧
    (s.recordHolder station key mask length).events = s.events ∧
    (s.recordHolder station key mask length).rest = s.rest ∧
    (s.recordHolder station key mask length).phraseStore = s.phraseStore ∧
    (s.recordHolder station key mask length).pending = s.pending := by
  unfold recordHolder; (repeat' split) <;> simp

@[simp] theorem hearClaim_keeps (s : State) (station key : Nat) (mask : BitVec 4) :
    (s.hearClaim station key mask).timebase = s.timebase ∧
    (s.hearClaim station key mask).host = s.host ∧ (s.hearClaim station key mask).machine = s.machine ∧
    (s.hearClaim station key mask).settings = s.settings ∧
    (s.hearClaim station key mask).agenda.ids = s.agenda.ids ∧
    (s.hearClaim station key mask).agenda.nextTicket = s.agenda.nextTicket ∧
    (s.hearClaim station key mask).agenda.basePage = s.agenda.basePage ∧
    (s.hearClaim station key mask).floor.isolated = s.floor.isolated ∧
    (s.hearClaim station key mask).roster = s.roster ∧
    (s.hearClaim station key mask).flash.store = s.flash.store ∧
    (s.hearClaim station key mask).display = s.display ∧
    (s.hearClaim station key mask).panel = s.panel ∧ (s.hearClaim station key mask).events = s.events ∧
    (s.hearClaim station key mask).rest = s.rest ∧
    (s.hearClaim station key mask).phraseStore = s.phraseStore ∧
    (s.hearClaim station key mask).pending = s.pending := by
  unfold hearClaim; (repeat' split) <;> simp

@[simp] theorem hearTalk_keeps (s : State) (station key : Nat) (mask : BitVec 4) (length : Nat) :
    (s.hearTalk station key mask length).timebase = s.timebase ∧
    (s.hearTalk station key mask length).host = s.host ∧
    (s.hearTalk station key mask length).machine = s.machine ∧
    (s.hearTalk station key mask length).settings = s.settings ∧
    (s.hearTalk station key mask length).agenda.ids = s.agenda.ids ∧
    (s.hearTalk station key mask length).agenda.nextTicket = s.agenda.nextTicket ∧
    (s.hearTalk station key mask length).agenda.basePage = s.agenda.basePage ∧
    (s.hearTalk station key mask length).floor.isolated = s.floor.isolated ∧
    (s.hearTalk station key mask length).roster = s.roster ∧
    (s.hearTalk station key mask length).flash.store = s.flash.store ∧
    (s.hearTalk station key mask length).display = s.display ∧
    (s.hearTalk station key mask length).panel = s.panel ∧
    (s.hearTalk station key mask length).events = s.events ∧
    (s.hearTalk station key mask length).rest = s.rest ∧
    (s.hearTalk station key mask length).phraseStore = s.phraseStore ∧
    (s.hearTalk station key mask length).pending = s.pending := by
  unfold hearTalk; (repeat' split) <;> simp

@[simp] theorem hearDone_keeps (s : State) (station : Nat) :
    (s.hearDone station).timebase = s.timebase ∧ (s.hearDone station).host = s.host ∧
    (s.hearDone station).machine = s.machine ∧ (s.hearDone station).settings = s.settings ∧
    (s.hearDone station).agenda.ids = s.agenda.ids ∧
    (s.hearDone station).agenda.nextTicket = s.agenda.nextTicket ∧
    (s.hearDone station).agenda.basePage = s.agenda.basePage ∧
    (s.hearDone station).floor.isolated = s.floor.isolated ∧ (s.hearDone station).roster = s.roster ∧
    (s.hearDone station).flash = s.flash ∧ (s.hearDone station).renderer = s.renderer ∧
    (s.hearDone station).level = s.level ∧ (s.hearDone station).display = s.display ∧
    (s.hearDone station).panel = s.panel ∧ (s.hearDone station).events = s.events ∧
    (s.hearDone station).rest = s.rest ∧ (s.hearDone station).phraseStore = s.phraseStore ∧
    (s.hearDone station).pending = s.pending := by
  unfold hearDone; (repeat' split) <;> simp

@[simp] theorem startBid_keeps (s : State) (ticket : Nat) :
    (s.startBid ticket).timebase.station = s.timebase.station ∧ (s.startBid ticket).host = s.host ∧
    (s.startBid ticket).machine = s.machine ∧ (s.startBid ticket).settings = s.settings ∧
    (s.startBid ticket).agenda.ids = s.agenda.ids ∧
    (s.startBid ticket).agenda.nextTicket = s.agenda.nextTicket ∧
    (s.startBid ticket).agenda.basePage = s.agenda.basePage ∧ (s.startBid ticket).floor = s.floor ∧
    (s.startBid ticket).line = s.line ∧ (s.startBid ticket).roster = s.roster ∧
    (s.startBid ticket).flash.store = s.flash.store ∧ (s.startBid ticket).panel = s.panel ∧
    (s.startBid ticket).rest = s.rest ∧ (s.startBid ticket).phraseStore = s.phraseStore ∧
    (s.startBid ticket).pending = s.pending := by
  unfold startBid; (repeat' split) <;> simp

@[simp] theorem floorSent_keeps (s : State) (kind : FrameKind) :
    (s.floorSent kind).timebase.station = s.timebase.station ∧ (s.floorSent kind).host = s.host ∧
    (s.floorSent kind).machine = s.machine ∧ (s.floorSent kind).settings = s.settings ∧
    (s.floorSent kind).agenda.ids = s.agenda.ids ∧
    (s.floorSent kind).agenda.nextTicket = s.agenda.nextTicket ∧
    (s.floorSent kind).agenda.basePage = s.agenda.basePage ∧
    (s.floorSent kind).floor.claims = s.floor.claims ∧
    (s.floorSent kind).floor.holders = s.floor.holders ∧
    (s.floorSent kind).floor.isolated = s.floor.isolated ∧ (s.floorSent kind).line = s.line ∧
    (s.floorSent kind).roster = s.roster ∧ (s.floorSent kind).flash.store = s.flash.store ∧
    (s.floorSent kind).panel = s.panel ∧ (s.floorSent kind).rest = s.rest ∧
    (s.floorSent kind).phraseStore = s.phraseStore ∧ (s.floorSent kind).pending = s.pending := by
  unfold floorSent; (repeat' split) <;> simp

@[simp] theorem floorAbandoned_keeps (s : State) (kind : FrameKind) :
    (s.floorAbandoned kind).timebase = s.timebase ∧ (s.floorAbandoned kind).host = s.host ∧
    (s.floorAbandoned kind).machine = s.machine ∧ (s.floorAbandoned kind).settings = s.settings ∧
    (s.floorAbandoned kind).agenda.ids = s.agenda.ids ∧
    (s.floorAbandoned kind).agenda.nextTicket = s.agenda.nextTicket ∧
    (s.floorAbandoned kind).agenda.basePage = s.agenda.basePage ∧
    (s.floorAbandoned kind).floor.claims = s.floor.claims ∧
    (s.floorAbandoned kind).floor.holders = s.floor.holders ∧
    (s.floorAbandoned kind).floor.isolated = s.floor.isolated ∧ (s.floorAbandoned kind).line = s.line ∧
    (s.floorAbandoned kind).roster = s.roster ∧ (s.floorAbandoned kind).flash = s.flash ∧
    (s.floorAbandoned kind).renderer = s.renderer ∧ (s.floorAbandoned kind).level = s.level ∧
    (s.floorAbandoned kind).display = s.display ∧ (s.floorAbandoned kind).panel = s.panel ∧
    (s.floorAbandoned kind).events = s.events ∧ (s.floorAbandoned kind).rest = s.rest ∧
    (s.floorAbandoned kind).phraseStore = s.phraseStore ∧
    (s.floorAbandoned kind).pending = s.pending := by
  unfold floorAbandoned; (repeat' split) <;> simp

@[simp] theorem settleTicked_keeps (s : State) :
    s.settleTicked.timebase.station = s.timebase.station ∧ s.settleTicked.host = s.host ∧
    s.settleTicked.machine = s.machine ∧ s.settleTicked.settings = s.settings ∧
    s.settleTicked.agenda.ids = s.agenda.ids ∧ s.settleTicked.agenda.nextTicket = s.agenda.nextTicket ∧
    s.settleTicked.agenda.basePage = s.agenda.basePage ∧ s.settleTicked.floor.claims = s.floor.claims ∧
    s.settleTicked.floor.holders = s.floor.holders ∧ s.settleTicked.floor.isolated = s.floor.isolated ∧
    s.settleTicked.line = s.line ∧ s.settleTicked.roster = s.roster ∧
    s.settleTicked.flash.store = s.flash.store ∧ s.settleTicked.panel = s.panel ∧
    s.settleTicked.rest.part = s.rest.part ∧ s.settleTicked.rest.warm = s.rest.warm ∧
    s.settleTicked.phraseStore = s.phraseStore ∧ s.settleTicked.pending = s.pending := by
  unfold settleTicked; (repeat' split) <;> simp

@[simp] theorem claimFor_keeps (s : State) (e : Entry) :
    (s.claimFor e).timebase = s.timebase ∧ (s.claimFor e).host = s.host ∧
    (s.claimFor e).machine = s.machine ∧ (s.claimFor e).settings = s.settings ∧
    (s.claimFor e).agenda.ids = s.agenda.ids ∧ (s.claimFor e).agenda.nextTicket = s.agenda.nextTicket ∧
    (s.claimFor e).agenda.basePage = s.agenda.basePage ∧ (s.claimFor e).floor.claims = s.floor.claims ∧
    (s.claimFor e).floor.holders = s.floor.holders ∧ (s.claimFor e).floor.isolated = s.floor.isolated ∧
    (s.claimFor e).roster = s.roster ∧ (s.claimFor e).flash.store = s.flash.store ∧
    (s.claimFor e).renderer = s.renderer ∧ (s.claimFor e).level = s.level ∧
    (s.claimFor e).panel = s.panel ∧ (s.claimFor e).rest = s.rest ∧
    (s.claimFor e).phraseStore = s.phraseStore ∧ (s.claimFor e).pending = s.pending := by
  unfold claimFor; (repeat' split) <;> simp

@[simp] theorem settleCompleted_keeps (s : State) :
    s.settleCompleted.timebase = s.timebase ∧ s.settleCompleted.host = s.host ∧
    s.settleCompleted.machine = s.machine ∧ s.settleCompleted.settings = s.settings ∧
    s.settleCompleted.agenda.ids = s.agenda.ids ∧
    s.settleCompleted.agenda.nextTicket = s.agenda.nextTicket ∧
    s.settleCompleted.agenda.basePage = s.agenda.basePage ∧
    s.settleCompleted.floor.claims = s.floor.claims ∧
    s.settleCompleted.floor.holders = s.floor.holders ∧
    s.settleCompleted.floor.isolated = s.floor.isolated ∧ s.settleCompleted.roster = s.roster ∧
    s.settleCompleted.flash.store = s.flash.store ∧ s.settleCompleted.renderer = s.renderer ∧
    s.settleCompleted.level = s.level ∧ s.settleCompleted.panel = s.panel ∧
    s.settleCompleted.rest = s.rest ∧ s.settleCompleted.phraseStore = s.phraseStore ∧
    s.settleCompleted.pending = s.pending := by
  unfold settleCompleted; (repeat' split) <;> simp

@[simp] theorem windowExpired_keeps (s : State) :
    s.windowExpired.timebase.station = s.timebase.station ∧ s.windowExpired.host = s.host ∧
    s.windowExpired.machine = s.machine ∧ s.windowExpired.settings = s.settings ∧
    s.windowExpired.agenda.ids = s.agenda.ids ∧
    s.windowExpired.agenda.nextTicket = s.agenda.nextTicket ∧
    s.windowExpired.agenda.basePage = s.agenda.basePage ∧
    s.windowExpired.floor.claims = s.floor.claims ∧ s.windowExpired.floor.holders = s.floor.holders ∧
    s.windowExpired.floor.isolated = s.floor.isolated ∧ s.windowExpired.roster = s.roster ∧
    s.windowExpired.flash.store = s.flash.store ∧ s.windowExpired.panel = s.panel ∧
    s.windowExpired.rest.part = s.rest.part ∧ s.windowExpired.rest.warm = s.rest.warm ∧
    s.windowExpired.phraseStore = s.phraseStore ∧ s.windowExpired.pending = s.pending := by
  unfold windowExpired; (repeat' split) <;> simp

@[simp] theorem renewalExpired_keeps (s : State) :
    s.renewalExpired.timebase = s.timebase ∧ s.renewalExpired.host = s.host ∧
    s.renewalExpired.machine = s.machine ∧ s.renewalExpired.settings = s.settings ∧
    s.renewalExpired.agenda = s.agenda ∧ s.renewalExpired.floor.claims = s.floor.claims ∧
    s.renewalExpired.floor.holders = s.floor.holders ∧
    s.renewalExpired.floor.isolated = s.floor.isolated ∧ s.renewalExpired.roster = s.roster ∧
    s.renewalExpired.flash = s.flash ∧ s.renewalExpired.renderer = s.renderer ∧
    s.renewalExpired.level = s.level ∧ s.renewalExpired.display = s.display ∧
    s.renewalExpired.panel = s.panel ∧ s.renewalExpired.events = s.events ∧
    s.renewalExpired.rest = s.rest ∧ s.renewalExpired.phraseStore = s.phraseStore ∧
    s.renewalExpired.pending = s.pending := by
  unfold renewalExpired; (repeat' split) <;> simp

@[simp] theorem claimAged_keeps (s : State) (station : Nat) :
    (s.claimAged station).timebase.station = s.timebase.station ∧ (s.claimAged station).host = s.host ∧
    (s.claimAged station).machine = s.machine ∧ (s.claimAged station).settings = s.settings ∧
    (s.claimAged station).agenda.ids = s.agenda.ids ∧
    (s.claimAged station).agenda.nextTicket = s.agenda.nextTicket ∧
    (s.claimAged station).agenda.basePage = s.agenda.basePage ∧
    (s.claimAged station).floor.holders = s.floor.holders ∧
    (s.claimAged station).floor.isolated = s.floor.isolated ∧ (s.claimAged station).roster = s.roster ∧
    (s.claimAged station).flash.store = s.flash.store ∧ (s.claimAged station).panel = s.panel ∧
    (s.claimAged station).rest.part = s.rest.part ∧ (s.claimAged station).rest.warm = s.rest.warm ∧
    (s.claimAged station).phraseStore = s.phraseStore ∧ (s.claimAged station).pending = s.pending := by
  unfold claimAged; (repeat' split) <;> simp

@[simp] theorem holdAged_keeps (s : State) (station : Nat) :
    (s.holdAged station).timebase.station = s.timebase.station ∧ (s.holdAged station).host = s.host ∧
    (s.holdAged station).machine = s.machine ∧ (s.holdAged station).settings = s.settings ∧
    (s.holdAged station).agenda.ids = s.agenda.ids ∧
    (s.holdAged station).agenda.nextTicket = s.agenda.nextTicket ∧
    (s.holdAged station).agenda.basePage = s.agenda.basePage ∧
    (s.holdAged station).floor.claims = s.floor.claims ∧
    (s.holdAged station).floor.isolated = s.floor.isolated ∧ (s.holdAged station).roster = s.roster ∧
    (s.holdAged station).flash.store = s.flash.store ∧ (s.holdAged station).panel = s.panel ∧
    (s.holdAged station).rest.part = s.rest.part ∧ (s.holdAged station).rest.warm = s.rest.warm ∧
    (s.holdAged station).phraseStore = s.phraseStore ∧ (s.holdAged station).pending = s.pending := by
  unfold holdAged; (repeat' split) <;> simp

@[simp] theorem edgeSeen_keeps (s : State) :
    s.edgeSeen.timebase = s.timebase ∧ s.edgeSeen.host = s.host ∧ s.edgeSeen.machine = s.machine ∧
    s.edgeSeen.settings = s.settings ∧ s.edgeSeen.agenda = s.agenda ∧ s.edgeSeen.floor = s.floor ∧
    s.edgeSeen.roster = s.roster ∧ s.edgeSeen.flash = s.flash ∧ s.edgeSeen.renderer = s.renderer ∧
    s.edgeSeen.level = s.level ∧ s.edgeSeen.display = s.display ∧ s.edgeSeen.panel = s.panel ∧
    s.edgeSeen.events = s.events ∧ s.edgeSeen.rest = s.rest ∧ s.edgeSeen.phraseStore = s.phraseStore ∧
    s.edgeSeen.pending = s.pending := by
  unfold edgeSeen; (repeat' split) <;> simp

@[simp] theorem countShown_keeps (s : State) (idle : Nat) :
    (s.countShown idle).timebase = s.timebase ∧ (s.countShown idle).host = s.host ∧
    (s.countShown idle).machine = s.machine ∧ (s.countShown idle).settings = s.settings ∧
    (s.countShown idle).agenda = s.agenda ∧ (s.countShown idle).floor = s.floor ∧
    (s.countShown idle).roster = s.roster ∧ (s.countShown idle).flash = s.flash ∧
    (s.countShown idle).renderer = s.renderer ∧ (s.countShown idle).level = s.level ∧
    (s.countShown idle).display = s.display ∧ (s.countShown idle).panel = s.panel ∧
    (s.countShown idle).events = s.events ∧ (s.countShown idle).rest = s.rest ∧
    (s.countShown idle).phraseStore = s.phraseStore ∧ (s.countShown idle).pending = s.pending := by
  unfold countShown; simp

@[simp] theorem boundaryPassed_keeps (s : State) (idle : Nat) (edge : Bool) :
    (s.boundaryPassed idle edge).timebase = s.timebase ∧ (s.boundaryPassed idle edge).host = s.host ∧
    (s.boundaryPassed idle edge).machine = s.machine ∧
    (s.boundaryPassed idle edge).settings = s.settings ∧
    (s.boundaryPassed idle edge).agenda = s.agenda ∧ (s.boundaryPassed idle edge).floor = s.floor ∧
    (s.boundaryPassed idle edge).roster = s.roster ∧ (s.boundaryPassed idle edge).flash = s.flash ∧
    (s.boundaryPassed idle edge).renderer = s.renderer ∧ (s.boundaryPassed idle edge).level = s.level ∧
    (s.boundaryPassed idle edge).display = s.display ∧ (s.boundaryPassed idle edge).panel = s.panel ∧
    (s.boundaryPassed idle edge).events = s.events ∧ (s.boundaryPassed idle edge).rest = s.rest ∧
    (s.boundaryPassed idle edge).phraseStore = s.phraseStore ∧
    (s.boundaryPassed idle edge).pending = s.pending := by
  unfold boundaryPassed; (repeat' split) <;> simp

@[simp] theorem frameStarted_keeps (s : State) (idle : Nat) (edge : Bool) :
    (s.frameStarted idle edge).timebase = s.timebase ∧ (s.frameStarted idle edge).host = s.host ∧
    (s.frameStarted idle edge).machine = s.machine ∧ (s.frameStarted idle edge).settings = s.settings ∧
    (s.frameStarted idle edge).agenda = s.agenda ∧ (s.frameStarted idle edge).floor = s.floor ∧
    (s.frameStarted idle edge).roster = s.roster ∧ (s.frameStarted idle edge).flash = s.flash ∧
    (s.frameStarted idle edge).renderer = s.renderer ∧ (s.frameStarted idle edge).level = s.level ∧
    (s.frameStarted idle edge).display = s.display ∧ (s.frameStarted idle edge).panel = s.panel ∧
    (s.frameStarted idle edge).events = s.events ∧ (s.frameStarted idle edge).rest = s.rest ∧
    (s.frameStarted idle edge).phraseStore = s.phraseStore ∧
    (s.frameStarted idle edge).pending = s.pending := by
  unfold frameStarted; (repeat' split) <;> simp

@[simp] theorem lossTaken_keeps (s : State) (first second : Byte) :
    (s.lossTaken first second).timebase = s.timebase ∧ (s.lossTaken first second).host = s.host ∧
    (s.lossTaken first second).machine = s.machine ∧ (s.lossTaken first second).settings = s.settings ∧
    (s.lossTaken first second).agenda = s.agenda ∧ (s.lossTaken first second).floor = s.floor ∧
    (s.lossTaken first second).roster = s.roster ∧ (s.lossTaken first second).flash = s.flash ∧
    (s.lossTaken first second).renderer = s.renderer ∧ (s.lossTaken first second).level = s.level ∧
    (s.lossTaken first second).display = s.display ∧ (s.lossTaken first second).panel = s.panel ∧
    (s.lossTaken first second).events = s.events ∧ (s.lossTaken first second).rest = s.rest ∧
    (s.lossTaken first second).phraseStore = s.phraseStore ∧
    (s.lossTaken first second).pending = s.pending := by
  unfold lossTaken; (repeat' split) <;> simp

@[simp] theorem countAbandon_keeps (s : State) :
    s.countAbandon.timebase = s.timebase ∧ s.countAbandon.host = s.host ∧
    s.countAbandon.machine = s.machine ∧ s.countAbandon.settings = s.settings ∧
    s.countAbandon.agenda.ids = s.agenda.ids ∧ s.countAbandon.agenda.nextTicket = s.agenda.nextTicket ∧
    s.countAbandon.agenda.basePage = s.agenda.basePage ∧ s.countAbandon.roster = s.roster ∧
    s.countAbandon.flash = s.flash ∧ s.countAbandon.renderer = s.renderer ∧
    s.countAbandon.level = s.level ∧ s.countAbandon.display = s.display ∧
    s.countAbandon.panel = s.panel ∧ s.countAbandon.rest = s.rest ∧
    s.countAbandon.phraseStore = s.phraseStore ∧ s.countAbandon.pending = s.pending := by
  unfold countAbandon; (repeat' split) <;> simp

@[simp] theorem abandonFrame_keeps (s : State) (name : SlotName) (kind : FrameKind) :
    (s.abandonFrame name kind).timebase = s.timebase ∧ (s.abandonFrame name kind).host = s.host ∧
    (s.abandonFrame name kind).machine = s.machine ∧ (s.abandonFrame name kind).settings = s.settings ∧
    (s.abandonFrame name kind).agenda.ids = s.agenda.ids ∧
    (s.abandonFrame name kind).agenda.nextTicket = s.agenda.nextTicket ∧
    (s.abandonFrame name kind).agenda.basePage = s.agenda.basePage ∧
    (s.abandonFrame name kind).roster = s.roster ∧ (s.abandonFrame name kind).flash = s.flash ∧
    (s.abandonFrame name kind).renderer = s.renderer ∧ (s.abandonFrame name kind).level = s.level ∧
    (s.abandonFrame name kind).display = s.display ∧ (s.abandonFrame name kind).panel = s.panel ∧
    (s.abandonFrame name kind).rest = s.rest ∧ (s.abandonFrame name kind).phraseStore = s.phraseStore ∧
    (s.abandonFrame name kind).pending = s.pending := by
  unfold abandonFrame; (repeat' split) <;> simp

@[simp] theorem transmitFailed_keeps (s : State) :
    s.transmitFailed.timebase.station = s.timebase.station ∧ s.transmitFailed.host = s.host ∧
    s.transmitFailed.machine = s.machine ∧ s.transmitFailed.settings = s.settings ∧
    s.transmitFailed.agenda.ids = s.agenda.ids ∧
    s.transmitFailed.agenda.nextTicket = s.agenda.nextTicket ∧
    s.transmitFailed.agenda.basePage = s.agenda.basePage ∧ s.transmitFailed.roster = s.roster ∧
    s.transmitFailed.flash.store = s.flash.store ∧ s.transmitFailed.panel = s.panel ∧
    s.transmitFailed.rest.part = s.rest.part ∧ s.transmitFailed.rest.warm = s.rest.warm ∧
    s.transmitFailed.phraseStore = s.phraseStore ∧ s.transmitFailed.pending = s.pending := by
  simp only [transmitFailed]; (repeat' split) <;> simp

@[simp] theorem frameSent_keeps (s : State) :
    s.frameSent.timebase.station = s.timebase.station ∧ s.frameSent.host = s.host ∧
    s.frameSent.machine = s.machine ∧ s.frameSent.settings = s.settings ∧
    s.frameSent.agenda.ids = s.agenda.ids ∧ s.frameSent.agenda.nextTicket = s.agenda.nextTicket ∧
    s.frameSent.agenda.basePage = s.agenda.basePage ∧ s.frameSent.floor.claims = s.floor.claims ∧
    s.frameSent.floor.holders = s.floor.holders ∧ s.frameSent.roster = s.roster ∧
    s.frameSent.flash.store = s.flash.store ∧ s.frameSent.panel = s.panel ∧
    s.frameSent.rest.part = s.rest.part ∧ s.frameSent.rest.warm = s.rest.warm ∧
    s.frameSent.phraseStore = s.phraseStore ∧ s.frameSent.pending = s.pending := by
  simp only [frameSent]; (repeat' split) <;> simp

@[simp] theorem hearBeacon_keeps (s : State) (station : Nat) (kind : MachineKind) (availability : Availability) (zone minutes : Nat) :
    (s.hearBeacon station kind availability zone minutes).timebase = s.timebase ∧
    (s.hearBeacon station kind availability zone minutes).host = s.host ∧
    (s.hearBeacon station kind availability zone minutes).machine = s.machine ∧
    (s.hearBeacon station kind availability zone minutes).settings = s.settings ∧
    (s.hearBeacon station kind availability zone minutes).agenda = s.agenda ∧
    (s.hearBeacon station kind availability zone minutes).floor = s.floor ∧
    (s.hearBeacon station kind availability zone minutes).line = s.line ∧
    (s.hearBeacon station kind availability zone minutes).flash = s.flash ∧
    (s.hearBeacon station kind availability zone minutes).renderer = s.renderer ∧
    (s.hearBeacon station kind availability zone minutes).level = s.level ∧
    (s.hearBeacon station kind availability zone minutes).display = s.display ∧
    (s.hearBeacon station kind availability zone minutes).panel = s.panel ∧
    (s.hearBeacon station kind availability zone minutes).events = s.events ∧
    (s.hearBeacon station kind availability zone minutes).rest = s.rest ∧
    (s.hearBeacon station kind availability zone minutes).phraseStore = s.phraseStore ∧
    (s.hearBeacon station kind availability zone minutes).pending = s.pending := by
  unfold hearBeacon; (repeat' split) <;> simp

@[simp] theorem handOn_keeps (s : State) (h : Heard) :
    (s.handOn h).timebase = s.timebase ∧ (s.handOn h).host = s.host ∧
    (s.handOn h).machine = s.machine ∧ (s.handOn h).settings = s.settings ∧
    (s.handOn h).agenda.ids = s.agenda.ids ∧ (s.handOn h).agenda.nextTicket = s.agenda.nextTicket ∧
    (s.handOn h).agenda.basePage = s.agenda.basePage ∧ (s.handOn h).floor.isolated = s.floor.isolated ∧
    (s.handOn h).flash.store = s.flash.store ∧ (s.handOn h).display = s.display ∧
    (s.handOn h).panel = s.panel ∧ (s.handOn h).events = s.events ∧ (s.handOn h).rest = s.rest ∧
    (s.handOn h).phraseStore = s.phraseStore ∧ (s.handOn h).pending = s.pending := by
  unfold handOn; (repeat' split) <;> simp

@[simp] theorem duplicateTaken_keeps (s : State) :
    s.duplicateTaken.timebase = s.timebase ∧ s.duplicateTaken.host = s.host ∧
    s.duplicateTaken.machine = s.machine ∧ s.duplicateTaken.settings = s.settings ∧
    s.duplicateTaken.agenda = s.agenda ∧ s.duplicateTaken.floor = s.floor ∧
    s.duplicateTaken.line = s.line ∧ s.duplicateTaken.roster.records = s.roster.records ∧
    s.duplicateTaken.flash = s.flash ∧ s.duplicateTaken.renderer = s.renderer ∧
    s.duplicateTaken.level = s.level ∧ s.duplicateTaken.display = s.display ∧
    s.duplicateTaken.panel = s.panel ∧ s.duplicateTaken.rest = s.rest ∧
    s.duplicateTaken.phraseStore = s.phraseStore ∧ s.duplicateTaken.pending = s.pending := by
  unfold duplicateTaken; (repeat' split) <;> simp

@[simp] theorem toHunt_keeps (s : State) (idle : Nat) :
    (s.toHunt idle).timebase = s.timebase ∧ (s.toHunt idle).host = s.host ∧
    (s.toHunt idle).machine = s.machine ∧ (s.toHunt idle).settings = s.settings ∧
    (s.toHunt idle).agenda = s.agenda ∧ (s.toHunt idle).floor = s.floor ∧
    (s.toHunt idle).roster = s.roster ∧ (s.toHunt idle).flash = s.flash ∧
    (s.toHunt idle).renderer = s.renderer ∧ (s.toHunt idle).level = s.level ∧
    (s.toHunt idle).display = s.display ∧ (s.toHunt idle).panel = s.panel ∧
    (s.toHunt idle).events = s.events ∧ (s.toHunt idle).rest = s.rest ∧
    (s.toHunt idle).phraseStore = s.phraseStore ∧ (s.toHunt idle).pending = s.pending := by
  unfold toHunt; (repeat' split) <;> simp

@[simp] theorem takeHeard_keeps (s : State) (h : Heard) (own : Bool) :
    (s.takeHeard h own).timebase.station = s.timebase.station ∧ (s.takeHeard h own).host = s.host ∧
    (s.takeHeard h own).machine = s.machine ∧ (s.takeHeard h own).settings = s.settings ∧
    (s.takeHeard h own).agenda.ids = s.agenda.ids ∧
    (s.takeHeard h own).agenda.nextTicket = s.agenda.nextTicket ∧
    (s.takeHeard h own).agenda.basePage = s.agenda.basePage ∧
    (s.takeHeard h own).flash.store = s.flash.store ∧ (s.takeHeard h own).panel = s.panel ∧
    (s.takeHeard h own).rest.part = s.rest.part ∧ (s.takeHeard h own).rest.warm = s.rest.warm ∧
    (s.takeHeard h own).phraseStore = s.phraseStore ∧ (s.takeHeard h own).pending = s.pending := by
  unfold takeHeard; (repeat' split) <;> simp

@[simp] theorem frameHeard_keeps (s : State) (chars : List Byte) :
    (s.frameHeard chars).timebase.station = s.timebase.station ∧ (s.frameHeard chars).host = s.host ∧
    (s.frameHeard chars).machine = s.machine ∧ (s.frameHeard chars).settings = s.settings ∧
    (s.frameHeard chars).agenda.ids = s.agenda.ids ∧
    (s.frameHeard chars).agenda.nextTicket = s.agenda.nextTicket ∧
    (s.frameHeard chars).agenda.basePage = s.agenda.basePage ∧
    (s.frameHeard chars).flash.store = s.flash.store ∧ (s.frameHeard chars).panel = s.panel ∧
    (s.frameHeard chars).rest.part = s.rest.part ∧ (s.frameHeard chars).rest.warm = s.rest.warm ∧
    (s.frameHeard chars).phraseStore = s.phraseStore ∧ (s.frameHeard chars).pending = s.pending := by
  unfold frameHeard; (repeat' split) <;> simp

@[simp] theorem assembling_keeps (s : State) (chars : List Byte) :
    (s.assembling chars).timebase = s.timebase ∧ (s.assembling chars).host = s.host ∧
    (s.assembling chars).machine = s.machine ∧ (s.assembling chars).settings = s.settings ∧
    (s.assembling chars).agenda = s.agenda ∧ (s.assembling chars).floor = s.floor ∧
    (s.assembling chars).roster = s.roster ∧ (s.assembling chars).flash = s.flash ∧
    (s.assembling chars).renderer = s.renderer ∧ (s.assembling chars).level = s.level ∧
    (s.assembling chars).display = s.display ∧ (s.assembling chars).panel = s.panel ∧
    (s.assembling chars).events = s.events ∧ (s.assembling chars).rest = s.rest ∧
    (s.assembling chars).phraseStore = s.phraseStore ∧ (s.assembling chars).pending = s.pending := by
  unfold assembling; (repeat' split) <;> simp

@[simp] theorem faultReceived_keeps (s : State) (chars : List Byte) (ending : RxEnd) :
    (s.faultReceived chars ending).timebase = s.timebase ∧
    (s.faultReceived chars ending).host = s.host ∧ (s.faultReceived chars ending).machine = s.machine ∧
    (s.faultReceived chars ending).settings = s.settings ∧
    (s.faultReceived chars ending).agenda = s.agenda ∧ (s.faultReceived chars ending).floor = s.floor ∧
    (s.faultReceived chars ending).roster = s.roster ∧ (s.faultReceived chars ending).flash = s.flash ∧
    (s.faultReceived chars ending).renderer = s.renderer ∧
    (s.faultReceived chars ending).level = s.level ∧
    (s.faultReceived chars ending).display = s.display ∧
    (s.faultReceived chars ending).panel = s.panel ∧ (s.faultReceived chars ending).events = s.events ∧
    (s.faultReceived chars ending).rest = s.rest ∧
    (s.faultReceived chars ending).phraseStore = s.phraseStore ∧
    (s.faultReceived chars ending).pending = s.pending := by
  unfold faultReceived; (repeat' split) <;> simp

@[simp] theorem gapReached_keeps (s : State) :
    s.gapReached.timebase = s.timebase ∧ s.gapReached.host = s.host ∧
    s.gapReached.machine = s.machine ∧ s.gapReached.settings = s.settings ∧
    s.gapReached.agenda = s.agenda ∧ s.gapReached.floor = s.floor ∧ s.gapReached.roster = s.roster ∧
    s.gapReached.flash = s.flash ∧ s.gapReached.renderer = s.renderer ∧ s.gapReached.level = s.level ∧
    s.gapReached.display = s.display ∧ s.gapReached.panel = s.panel ∧ s.gapReached.events = s.events ∧
    s.gapReached.rest = s.rest ∧ s.gapReached.phraseStore = s.phraseStore ∧
    s.gapReached.pending = s.pending := by
  unfold gapReached; (repeat' split) <;> simp

@[simp] theorem lineHeld_keeps (s : State) :
    s.lineHeld.timebase.station = s.timebase.station ∧ s.lineHeld.host = s.host ∧
    s.lineHeld.machine = s.machine ∧ s.lineHeld.settings = s.settings ∧
    s.lineHeld.agenda.ids = s.agenda.ids ∧ s.lineHeld.agenda.nextTicket = s.agenda.nextTicket ∧
    s.lineHeld.agenda.basePage = s.agenda.basePage ∧ s.lineHeld.roster = s.roster ∧
    s.lineHeld.flash.store = s.flash.store ∧ s.lineHeld.panel = s.panel ∧
    s.lineHeld.rest.part = s.rest.part ∧ s.lineHeld.rest.warm = s.rest.warm ∧
    s.lineHeld.phraseStore = s.phraseStore ∧ s.lineHeld.pending = s.pending := by
  unfold lineHeld; (repeat' split) <;> simp

@[simp] theorem duplicateExpired_keeps (s : State) :
    s.duplicateExpired.timebase = s.timebase ∧ s.duplicateExpired.host = s.host ∧
    s.duplicateExpired.machine = s.machine ∧ s.duplicateExpired.settings = s.settings ∧
    s.duplicateExpired.agenda = s.agenda ∧ s.duplicateExpired.floor = s.floor ∧
    s.duplicateExpired.line = s.line ∧ s.duplicateExpired.roster.records = s.roster.records ∧
    s.duplicateExpired.flash = s.flash ∧ s.duplicateExpired.renderer = s.renderer ∧
    s.duplicateExpired.level = s.level ∧ s.duplicateExpired.display = s.display ∧
    s.duplicateExpired.panel = s.panel ∧ s.duplicateExpired.events = s.events ∧
    s.duplicateExpired.rest = s.rest ∧ s.duplicateExpired.phraseStore = s.phraseStore ∧
    s.duplicateExpired.pending = s.pending := by
  unfold duplicateExpired; (repeat' split) <;> simp

@[simp] theorem beaconExpired_keeps (s : State) :
    s.beaconExpired.timebase = s.timebase ∧ s.beaconExpired.host = s.host ∧
    s.beaconExpired.machine = s.machine ∧ s.beaconExpired.settings = s.settings ∧
    s.beaconExpired.agenda = s.agenda ∧ s.beaconExpired.floor = s.floor ∧
    s.beaconExpired.roster.records = s.roster.records ∧ s.beaconExpired.flash = s.flash ∧
    s.beaconExpired.renderer = s.renderer ∧ s.beaconExpired.level = s.level ∧
    s.beaconExpired.display = s.display ∧ s.beaconExpired.panel = s.panel ∧
    s.beaconExpired.events = s.events ∧ s.beaconExpired.rest = s.rest ∧
    s.beaconExpired.phraseStore = s.phraseStore ∧ s.beaconExpired.pending = s.pending := by
  unfold beaconExpired; (repeat' split) <;> simp

@[simp] theorem peerAged_keeps (s : State) (station : Nat) :
    (s.peerAged station).timebase = s.timebase ∧ (s.peerAged station).host = s.host ∧
    (s.peerAged station).machine = s.machine ∧ (s.peerAged station).settings = s.settings ∧
    (s.peerAged station).agenda = s.agenda ∧ (s.peerAged station).floor = s.floor ∧
    (s.peerAged station).line = s.line ∧ (s.peerAged station).flash = s.flash ∧
    (s.peerAged station).renderer = s.renderer ∧ (s.peerAged station).level = s.level ∧
    (s.peerAged station).display = s.display ∧ (s.peerAged station).panel = s.panel ∧
    (s.peerAged station).events = s.events ∧ (s.peerAged station).rest = s.rest ∧
    (s.peerAged station).phraseStore = s.phraseStore ∧ (s.peerAged station).pending = s.pending := by
  unfold peerAged; (repeat' split) <;> simp

@[simp] theorem secondCounted_keeps (s : State) :
    s.secondCounted.timebase.station = s.timebase.station ∧ s.secondCounted.host = s.host ∧
    s.secondCounted.machine = s.machine ∧ s.secondCounted.settings = s.settings ∧
    s.secondCounted.agenda.ids = s.agenda.ids ∧
    s.secondCounted.agenda.nextTicket = s.agenda.nextTicket ∧
    s.secondCounted.agenda.basePage = s.agenda.basePage ∧
    s.secondCounted.floor.claims = s.floor.claims ∧ s.secondCounted.floor.holders = s.floor.holders ∧
    s.secondCounted.floor.isolated = s.floor.isolated ∧ s.secondCounted.line = s.line ∧
    s.secondCounted.roster.records = s.roster.records ∧ s.secondCounted.flash = s.flash ∧
    s.secondCounted.renderer = s.renderer ∧ s.secondCounted.level = s.level ∧
    s.secondCounted.display = s.display ∧ s.secondCounted.panel.presence = s.panel.presence ∧
    s.secondCounted.panel.language = s.panel.language ∧ s.secondCounted.events = s.events ∧
    s.secondCounted.rest.part = s.rest.part ∧ s.secondCounted.rest.warm = s.rest.warm ∧
    s.secondCounted.phraseStore = s.phraseStore ∧ s.secondCounted.pending = s.pending := by
  have h := ids_mapEntries (s.setTimebase { s.timebase with seconds := s.timebase.seconds + 1 })
    Entry.second (by simp)
  simp only [setTimebase_agenda] at h
  simp [secondCounted, h]

@[simp] theorem secondTicked_keeps (s : State) :
    s.secondTicked.timebase.station = s.timebase.station ∧ s.secondTicked.host = s.host ∧
    s.secondTicked.machine = s.machine ∧ s.secondTicked.settings = s.settings ∧
    s.secondTicked.agenda.ids = s.agenda.ids ∧ s.secondTicked.agenda.nextTicket = s.agenda.nextTicket ∧
    s.secondTicked.agenda.basePage = s.agenda.basePage ∧ s.secondTicked.floor.claims = s.floor.claims ∧
    s.secondTicked.floor.holders = s.floor.holders ∧ s.secondTicked.floor.isolated = s.floor.isolated ∧
    s.secondTicked.line = s.line ∧ s.secondTicked.roster.records = s.roster.records ∧
    s.secondTicked.flash.store = s.flash.store ∧ s.secondTicked.panel.presence = s.panel.presence ∧
    s.secondTicked.panel.language = s.panel.language ∧ s.secondTicked.rest.part = s.rest.part ∧
    s.secondTicked.rest.warm = s.rest.warm ∧ s.secondTicked.phraseStore = s.phraseStore ∧
    s.secondTicked.pending = s.pending := by
  unfold secondTicked; (repeat' split) <;> simp

@[simp] theorem cadenceExpired_keeps (s : State) (ticket : Nat) :
    (s.cadenceExpired ticket).timebase.station = s.timebase.station ∧
    (s.cadenceExpired ticket).host = s.host ∧ (s.cadenceExpired ticket).machine = s.machine ∧
    (s.cadenceExpired ticket).settings = s.settings ∧
    (s.cadenceExpired ticket).agenda.ids = s.agenda.ids ∧
    (s.cadenceExpired ticket).agenda.nextTicket = s.agenda.nextTicket ∧
    (s.cadenceExpired ticket).agenda.basePage = s.agenda.basePage ∧
    (s.cadenceExpired ticket).floor.claims = s.floor.claims ∧
    (s.cadenceExpired ticket).floor.holders = s.floor.holders ∧
    (s.cadenceExpired ticket).floor.isolated = s.floor.isolated ∧
    (s.cadenceExpired ticket).line = s.line ∧ (s.cadenceExpired ticket).roster = s.roster ∧
    (s.cadenceExpired ticket).flash.store = s.flash.store ∧ (s.cadenceExpired ticket).panel = s.panel ∧
    (s.cadenceExpired ticket).rest.part = s.rest.part ∧
    (s.cadenceExpired ticket).rest.warm = s.rest.warm ∧
    (s.cadenceExpired ticket).phraseStore = s.phraseStore ∧
    (s.cadenceExpired ticket).pending = s.pending := by
  unfold cadenceExpired; (repeat' split) <;> simp

@[simp] theorem expiryTaken_keeps (s : State) (ticket : Nat) :
    (s.expiryTaken ticket).timebase.station = s.timebase.station ∧
    (s.expiryTaken ticket).host = s.host ∧ (s.expiryTaken ticket).machine = s.machine ∧
    (s.expiryTaken ticket).settings = s.settings ∧
    (s.expiryTaken ticket).agenda.nextTicket = s.agenda.nextTicket ∧
    (s.expiryTaken ticket).agenda.basePage = s.agenda.basePage ∧
    (s.expiryTaken ticket).floor.claims = s.floor.claims ∧
    (s.expiryTaken ticket).floor.holders = s.floor.holders ∧
    (s.expiryTaken ticket).floor.isolated = s.floor.isolated ∧
    (s.expiryTaken ticket).roster = s.roster ∧ (s.expiryTaken ticket).flash.store = s.flash.store ∧
    (s.expiryTaken ticket).panel = s.panel ∧ (s.expiryTaken ticket).rest.part = s.rest.part ∧
    (s.expiryTaken ticket).rest.warm = s.rest.warm ∧
    (s.expiryTaken ticket).phraseStore = s.phraseStore ∧
    (s.expiryTaken ticket).pending = s.pending := by
  unfold expiryTaken; (repeat' split) <;> simp

@[simp] theorem granted_keeps (s : State) :
    s.granted.timebase = s.timebase ∧ s.granted.host = s.host ∧ s.granted.machine = s.machine ∧
    s.granted.settings = s.settings ∧ s.granted.agenda = s.agenda ∧ s.granted.floor = s.floor ∧
    s.granted.line = s.line ∧ s.granted.roster = s.roster ∧ s.granted.flash.store = s.flash.store ∧
    s.granted.renderer = s.renderer ∧ s.granted.level = s.level ∧ s.granted.display = s.display ∧
    s.granted.panel = s.panel ∧ s.granted.events = s.events ∧ s.granted.rest = s.rest ∧
    s.granted.phraseStore = s.phraseStore ∧ s.granted.pending = s.pending := by
  unfold granted; (repeat' split) <;> simp

@[simp] theorem lookupData_keeps (s : State) (data : List Byte) :
    (s.lookupData data).timebase = s.timebase ∧ (s.lookupData data).host = s.host ∧
    (s.lookupData data).machine = s.machine ∧ (s.lookupData data).settings = s.settings ∧
    (s.lookupData data).agenda.ids = s.agenda.ids ∧
    (s.lookupData data).agenda.nextTicket = s.agenda.nextTicket ∧
    (s.lookupData data).agenda.basePage = s.agenda.basePage ∧ (s.lookupData data).floor = s.floor ∧
    (s.lookupData data).line = s.line ∧ (s.lookupData data).roster = s.roster ∧
    (s.lookupData data).flash.store = s.flash.store ∧ (s.lookupData data).level = s.level ∧
    (s.lookupData data).display = s.display ∧ (s.lookupData data).panel = s.panel ∧
    (s.lookupData data).rest = s.rest ∧ (s.lookupData data).phraseStore = s.phraseStore ∧
    (s.lookupData data).pending = s.pending := by
  unfold lookupData; (repeat' split) <;> simp

@[simp] theorem fillData_keeps (s : State) (data : List Byte) :
    (s.fillData data).timebase = s.timebase ∧ (s.fillData data).host = s.host ∧
    (s.fillData data).machine = s.machine ∧ (s.fillData data).settings = s.settings ∧
    (s.fillData data).agenda = s.agenda ∧ (s.fillData data).floor = s.floor ∧
    (s.fillData data).line = s.line ∧ (s.fillData data).roster = s.roster ∧
    (s.fillData data).flash.store = s.flash.store ∧ (s.fillData data).level = s.level ∧
    (s.fillData data).display = s.display ∧ (s.fillData data).panel = s.panel ∧
    (s.fillData data).events = s.events ∧ (s.fillData data).rest = s.rest ∧
    (s.fillData data).phraseStore = s.phraseStore ∧ (s.fillData data).pending = s.pending := by
  unfold fillData; (repeat' split) <;> simp

@[simp] theorem composeData_keeps (s : State) (data : List Byte) :
    (s.composeData data).timebase = s.timebase ∧ (s.composeData data).host = s.host ∧
    (s.composeData data).machine = s.machine ∧ (s.composeData data).settings = s.settings ∧
    (s.composeData data).agenda.ids = s.agenda.ids ∧
    (s.composeData data).agenda.nextTicket = s.agenda.nextTicket ∧
    (s.composeData data).agenda.basePage = s.agenda.basePage ∧ (s.composeData data).floor = s.floor ∧
    (s.composeData data).line = s.line ∧ (s.composeData data).roster = s.roster ∧
    (s.composeData data).flash = s.flash ∧ (s.composeData data).renderer = s.renderer ∧
    (s.composeData data).level = s.level ∧ (s.composeData data).panel = s.panel ∧
    (s.composeData data).rest = s.rest ∧ (s.composeData data).phraseStore = s.phraseStore ∧
    (s.composeData data).pending = s.pending := by
  unfold composeData; (repeat' split) <;> simp

@[simp] theorem deliver_keeps (s : State) (purpose : ReadFor) (data : List Byte) :
    (s.deliver purpose data).timebase = s.timebase ∧ (s.deliver purpose data).host = s.host ∧
    (s.deliver purpose data).machine = s.machine ∧ (s.deliver purpose data).settings = s.settings ∧
    (s.deliver purpose data).agenda.ids = s.agenda.ids ∧
    (s.deliver purpose data).agenda.nextTicket = s.agenda.nextTicket ∧
    (s.deliver purpose data).agenda.basePage = s.agenda.basePage ∧
    (s.deliver purpose data).floor = s.floor ∧ (s.deliver purpose data).line = s.line ∧
    (s.deliver purpose data).roster = s.roster ∧ (s.deliver purpose data).flash.store = s.flash.store ∧
    (s.deliver purpose data).level = s.level ∧ (s.deliver purpose data).panel = s.panel ∧
    (s.deliver purpose data).rest = s.rest ∧ (s.deliver purpose data).phraseStore = s.phraseStore ∧
    (s.deliver purpose data).pending = s.pending := by
  unfold deliver; (repeat' split) <;> simp

@[simp] theorem readDone_keeps (s : State) :
    s.readDone.timebase = s.timebase ∧ s.readDone.host = s.host ∧ s.readDone.machine = s.machine ∧
    s.readDone.settings = s.settings ∧ s.readDone.agenda.ids = s.agenda.ids ∧
    s.readDone.agenda.nextTicket = s.agenda.nextTicket ∧
    s.readDone.agenda.basePage = s.agenda.basePage ∧ s.readDone.floor = s.floor ∧
    s.readDone.line = s.line ∧ s.readDone.roster = s.roster ∧ s.readDone.flash.store = s.flash.store ∧
    s.readDone.level = s.level ∧ s.readDone.panel = s.panel ∧ s.readDone.rest = s.rest ∧
    s.readDone.phraseStore = s.phraseStore ∧ s.readDone.pending = s.pending := by
  unfold readDone; (repeat' split) <;> simp

@[simp] theorem scanStarted_keeps (s : State) :
    s.scanStarted.timebase = s.timebase ∧ s.scanStarted.host = s.host ∧
    s.scanStarted.machine = s.machine ∧ s.scanStarted.settings = s.settings ∧
    s.scanStarted.agenda = s.agenda ∧ s.scanStarted.floor = s.floor ∧ s.scanStarted.line = s.line ∧
    s.scanStarted.roster = s.roster ∧ s.scanStarted.flash.store = s.flash.store ∧
    s.scanStarted.renderer = s.renderer ∧ s.scanStarted.level = s.level ∧
    s.scanStarted.display = s.display ∧ s.scanStarted.panel = s.panel ∧
    s.scanStarted.events = s.events ∧ s.scanStarted.rest = s.rest ∧
    s.scanStarted.phraseStore = s.phraseStore ∧ s.scanStarted.pending = s.pending := by
  unfold scanStarted; (repeat' split) <;> simp

@[simp] theorem storeJudged_keeps (s : State) (store : Store) :
    (s.storeJudged store).timebase.station = s.timebase.station ∧ (s.storeJudged store).host = s.host ∧
    (s.storeJudged store).machine = s.machine ∧ (s.storeJudged store).settings = s.settings ∧
    (s.storeJudged store).agenda.ids = s.agenda.ids ∧
    (s.storeJudged store).agenda.nextTicket = s.agenda.nextTicket ∧
    (s.storeJudged store).agenda.basePage = s.agenda.basePage ∧
    (s.storeJudged store).floor.claims = s.floor.claims ∧
    (s.storeJudged store).floor.holders = s.floor.holders ∧
    (s.storeJudged store).floor.isolated = s.floor.isolated ∧ (s.storeJudged store).line = s.line ∧
    (s.storeJudged store).roster = s.roster ∧ (s.storeJudged store).panel.presence = s.panel.presence ∧
    (s.storeJudged store).rest.part = s.rest.part ∧ (s.storeJudged store).rest.warm = s.rest.warm ∧
    (s.storeJudged store).phraseStore = s.phraseStore ∧ (s.storeJudged store).pending = s.pending := by
  simp only [storeJudged]; (repeat' split) <;> simp

@[simp] theorem directoryJudged_keeps (s : State) :
    s.directoryJudged.timebase.station = s.timebase.station ∧ s.directoryJudged.host = s.host ∧
    s.directoryJudged.machine = s.machine ∧ s.directoryJudged.settings = s.settings ∧
    s.directoryJudged.agenda.ids = s.agenda.ids ∧
    s.directoryJudged.agenda.nextTicket = s.agenda.nextTicket ∧
    s.directoryJudged.agenda.basePage = s.agenda.basePage ∧
    s.directoryJudged.floor.claims = s.floor.claims ∧
    s.directoryJudged.floor.holders = s.floor.holders ∧
    s.directoryJudged.floor.isolated = s.floor.isolated ∧ s.directoryJudged.line = s.line ∧
    s.directoryJudged.roster = s.roster ∧ s.directoryJudged.panel.presence = s.panel.presence ∧
    s.directoryJudged.rest.part = s.rest.part ∧ s.directoryJudged.rest.warm = s.rest.warm ∧
    s.directoryJudged.phraseStore = s.phraseStore ∧ s.directoryJudged.pending = s.pending := by
  unfold directoryJudged; (repeat' split) <;> simp

@[simp] theorem beginItem_keeps (s : State) (p : Play) (index : Nat) :
    (s.beginItem p index).timebase = s.timebase ∧ (s.beginItem p index).host = s.host ∧
    (s.beginItem p index).machine = s.machine ∧ (s.beginItem p index).settings = s.settings ∧
    (s.beginItem p index).agenda.ids = s.agenda.ids ∧
    (s.beginItem p index).agenda.nextTicket = s.agenda.nextTicket ∧
    (s.beginItem p index).agenda.basePage = s.agenda.basePage ∧ (s.beginItem p index).floor = s.floor ∧
    (s.beginItem p index).line = s.line ∧ (s.beginItem p index).roster = s.roster ∧
    (s.beginItem p index).flash.store = s.flash.store ∧ (s.beginItem p index).display = s.display ∧
    (s.beginItem p index).panel = s.panel ∧ (s.beginItem p index).rest = s.rest ∧
    (s.beginItem p index).phraseStore = s.phraseStore ∧ (s.beginItem p index).pending = s.pending := by
  unfold beginItem; (repeat' split) <;> simp

@[simp] theorem enterGap_keeps (s : State) (p : Play) :
    (s.enterGap p).timebase = s.timebase ∧ (s.enterGap p).host = s.host ∧
    (s.enterGap p).machine = s.machine ∧ (s.enterGap p).settings = s.settings ∧
    (s.enterGap p).agenda.ids = s.agenda.ids ∧ (s.enterGap p).agenda.nextTicket = s.agenda.nextTicket ∧
    (s.enterGap p).agenda.basePage = s.agenda.basePage ∧ (s.enterGap p).floor = s.floor ∧
    (s.enterGap p).line = s.line ∧ (s.enterGap p).roster = s.roster ∧
    (s.enterGap p).flash.store = s.flash.store ∧ (s.enterGap p).level = s.level ∧
    (s.enterGap p).display = s.display ∧ (s.enterGap p).panel = s.panel ∧
    (s.enterGap p).rest = s.rest ∧ (s.enterGap p).phraseStore = s.phraseStore ∧
    (s.enterGap p).pending = s.pending := by
  unfold enterGap; (repeat' split) <;> simp

@[simp] theorem endItem_keeps (s : State) (p : Play) (kind : ItemKind) :
    (s.endItem p kind).timebase = s.timebase ∧ (s.endItem p kind).host = s.host ∧
    (s.endItem p kind).machine = s.machine ∧ (s.endItem p kind).settings = s.settings ∧
    (s.endItem p kind).agenda.ids = s.agenda.ids ∧
    (s.endItem p kind).agenda.nextTicket = s.agenda.nextTicket ∧
    (s.endItem p kind).agenda.basePage = s.agenda.basePage ∧ (s.endItem p kind).floor = s.floor ∧
    (s.endItem p kind).line = s.line ∧ (s.endItem p kind).roster = s.roster ∧
    (s.endItem p kind).flash.store = s.flash.store ∧ (s.endItem p kind).display = s.display ∧
    (s.endItem p kind).panel = s.panel ∧ (s.endItem p kind).rest = s.rest ∧
    (s.endItem p kind).phraseStore = s.phraseStore ∧ (s.endItem p kind).pending = s.pending := by
  unfold endItem; (repeat' split) <;> simp

@[simp] theorem leadExpired_keeps (s : State) :
    s.leadExpired.timebase = s.timebase ∧ s.leadExpired.host = s.host ∧
    s.leadExpired.machine = s.machine ∧ s.leadExpired.settings = s.settings ∧
    s.leadExpired.agenda.ids = s.agenda.ids ∧ s.leadExpired.agenda.nextTicket = s.agenda.nextTicket ∧
    s.leadExpired.agenda.basePage = s.agenda.basePage ∧ s.leadExpired.floor = s.floor ∧
    s.leadExpired.line = s.line ∧ s.leadExpired.roster = s.roster ∧
    s.leadExpired.flash.store = s.flash.store ∧ s.leadExpired.display = s.display ∧
    s.leadExpired.panel = s.panel ∧ s.leadExpired.rest = s.rest ∧
    s.leadExpired.phraseStore = s.phraseStore ∧ s.leadExpired.pending = s.pending := by
  unfold leadExpired; (repeat' split) <;> simp

@[simp] theorem itemEnded_keeps (s : State) (kind : ItemKind) :
    (s.itemEnded kind).timebase = s.timebase ∧ (s.itemEnded kind).host = s.host ∧
    (s.itemEnded kind).machine = s.machine ∧ (s.itemEnded kind).settings = s.settings ∧
    (s.itemEnded kind).agenda.ids = s.agenda.ids ∧
    (s.itemEnded kind).agenda.nextTicket = s.agenda.nextTicket ∧
    (s.itemEnded kind).agenda.basePage = s.agenda.basePage ∧ (s.itemEnded kind).floor = s.floor ∧
    (s.itemEnded kind).line = s.line ∧ (s.itemEnded kind).roster = s.roster ∧
    (s.itemEnded kind).flash.store = s.flash.store ∧ (s.itemEnded kind).display = s.display ∧
    (s.itemEnded kind).panel = s.panel ∧ (s.itemEnded kind).rest = s.rest ∧
    (s.itemEnded kind).phraseStore = s.phraseStore ∧ (s.itemEnded kind).pending = s.pending := by
  unfold itemEnded; (repeat' split) <;> simp

@[simp] theorem speechItemEnded_keeps (s : State) :
    s.speechItemEnded.timebase = s.timebase ∧ s.speechItemEnded.host = s.host ∧
    s.speechItemEnded.machine = s.machine ∧ s.speechItemEnded.settings = s.settings ∧
    s.speechItemEnded.agenda.ids = s.agenda.ids ∧
    s.speechItemEnded.agenda.nextTicket = s.agenda.nextTicket ∧
    s.speechItemEnded.agenda.basePage = s.agenda.basePage ∧ s.speechItemEnded.floor = s.floor ∧
    s.speechItemEnded.line = s.line ∧ s.speechItemEnded.roster = s.roster ∧
    s.speechItemEnded.flash.store = s.flash.store ∧ s.speechItemEnded.display = s.display ∧
    s.speechItemEnded.panel = s.panel ∧ s.speechItemEnded.rest = s.rest ∧
    s.speechItemEnded.phraseStore = s.phraseStore ∧ s.speechItemEnded.pending = s.pending := by
  unfold speechItemEnded; (repeat' split) <;> simp

@[simp] theorem patternEnded_keeps (s : State) :
    s.patternEnded.timebase = s.timebase ∧ s.patternEnded.host = s.host ∧
    s.patternEnded.machine = s.machine ∧ s.patternEnded.settings = s.settings ∧
    s.patternEnded.agenda.ids = s.agenda.ids ∧ s.patternEnded.agenda.nextTicket = s.agenda.nextTicket ∧
    s.patternEnded.agenda.basePage = s.agenda.basePage ∧ s.patternEnded.floor = s.floor ∧
    s.patternEnded.line = s.line ∧ s.patternEnded.roster = s.roster ∧
    s.patternEnded.flash.store = s.flash.store ∧ s.patternEnded.display = s.display ∧
    s.patternEnded.panel = s.panel ∧ s.patternEnded.rest = s.rest ∧
    s.patternEnded.phraseStore = s.phraseStore ∧ s.patternEnded.pending = s.pending := by
  unfold patternEnded; (repeat' split) <;> simp

@[simp] theorem pauseExpired_keeps (s : State) :
    s.pauseExpired.timebase = s.timebase ∧ s.pauseExpired.host = s.host ∧
    s.pauseExpired.machine = s.machine ∧ s.pauseExpired.settings = s.settings ∧
    s.pauseExpired.agenda.ids = s.agenda.ids ∧ s.pauseExpired.agenda.nextTicket = s.agenda.nextTicket ∧
    s.pauseExpired.agenda.basePage = s.agenda.basePage ∧ s.pauseExpired.floor = s.floor ∧
    s.pauseExpired.line = s.line ∧ s.pauseExpired.roster = s.roster ∧
    s.pauseExpired.flash.store = s.flash.store ∧ s.pauseExpired.display = s.display ∧
    s.pauseExpired.panel = s.panel ∧ s.pauseExpired.rest = s.rest ∧
    s.pauseExpired.phraseStore = s.phraseStore ∧ s.pauseExpired.pending = s.pending := by
  unfold pauseExpired; (repeat' split) <;> simp

@[simp] theorem gapExpired_keeps (s : State) :
    s.gapExpired.timebase = s.timebase ∧ s.gapExpired.host = s.host ∧
    s.gapExpired.machine = s.machine ∧ s.gapExpired.settings = s.settings ∧
    s.gapExpired.agenda.ids = s.agenda.ids ∧ s.gapExpired.agenda.nextTicket = s.agenda.nextTicket ∧
    s.gapExpired.agenda.basePage = s.agenda.basePage ∧ s.gapExpired.floor = s.floor ∧
    s.gapExpired.line = s.line ∧ s.gapExpired.roster = s.roster ∧
    s.gapExpired.flash.store = s.flash.store ∧ s.gapExpired.display = s.display ∧
    s.gapExpired.panel = s.panel ∧ s.gapExpired.rest = s.rest ∧
    s.gapExpired.phraseStore = s.phraseStore ∧ s.gapExpired.pending = s.pending := by
  unfold gapExpired; (repeat' split) <;> simp

@[simp] theorem rendererIdle_keeps (s : State) (enable : Bool) (dropTimer : Option Nat) :
    (s.rendererIdle enable dropTimer).timebase = s.timebase ∧
    (s.rendererIdle enable dropTimer).host = s.host ∧
    (s.rendererIdle enable dropTimer).machine = s.machine ∧
    (s.rendererIdle enable dropTimer).settings = s.settings ∧
    (s.rendererIdle enable dropTimer).agenda = s.agenda ∧
    (s.rendererIdle enable dropTimer).floor = s.floor ∧
    (s.rendererIdle enable dropTimer).line = s.line ∧
    (s.rendererIdle enable dropTimer).roster = s.roster ∧
    (s.rendererIdle enable dropTimer).flash = s.flash ∧
    (s.rendererIdle enable dropTimer).level = s.level ∧
    (s.rendererIdle enable dropTimer).display = s.display ∧
    (s.rendererIdle enable dropTimer).panel = s.panel ∧
    (s.rendererIdle enable dropTimer).events = s.events ∧
    (s.rendererIdle enable dropTimer).rest = s.rest ∧
    (s.rendererIdle enable dropTimer).phraseStore = s.phraseStore ∧
    (s.rendererIdle enable dropTimer).pending = s.pending := by
  unfold rendererIdle; (repeat' split) <;> simp

@[simp] theorem endReported_keeps (s : State) (report : EndReport) :
    (s.endReported report).timebase.station = s.timebase.station ∧
    (s.endReported report).host = s.host ∧ (s.endReported report).machine = s.machine ∧
    (s.endReported report).settings = s.settings ∧
    (s.endReported report).agenda.nextTicket = s.agenda.nextTicket ∧
    (s.endReported report).agenda.basePage = s.agenda.basePage ∧
    (s.endReported report).floor.claims = s.floor.claims ∧
    (s.endReported report).floor.holders = s.floor.holders ∧
    (s.endReported report).floor.isolated = s.floor.isolated ∧
    (s.endReported report).roster = s.roster ∧ (s.endReported report).flash.store = s.flash.store ∧
    (s.endReported report).panel = s.panel ∧ (s.endReported report).rest.part = s.rest.part ∧
    (s.endReported report).rest.warm = s.rest.warm ∧
    (s.endReported report).phraseStore = s.phraseStore ∧
    (s.endReported report).pending = s.pending := by
  unfold endReported; simp

@[simp] theorem tailExpired_keeps (s : State) :
    s.tailExpired.timebase.station = s.timebase.station ∧ s.tailExpired.host = s.host ∧
    s.tailExpired.machine = s.machine ∧ s.tailExpired.settings = s.settings ∧
    s.tailExpired.agenda.nextTicket = s.agenda.nextTicket ∧
    s.tailExpired.agenda.basePage = s.agenda.basePage ∧ s.tailExpired.floor.claims = s.floor.claims ∧
    s.tailExpired.floor.holders = s.floor.holders ∧ s.tailExpired.floor.isolated = s.floor.isolated ∧
    s.tailExpired.roster = s.roster ∧ s.tailExpired.flash.store = s.flash.store ∧
    s.tailExpired.panel = s.panel ∧ s.tailExpired.rest.part = s.rest.part ∧
    s.tailExpired.rest.warm = s.rest.warm ∧ s.tailExpired.phraseStore = s.phraseStore ∧
    s.tailExpired.pending = s.pending := by
  unfold tailExpired; (repeat' split) <;> simp

@[simp] theorem fadeExpired_keeps (s : State) :
    s.fadeExpired.timebase.station = s.timebase.station ∧ s.fadeExpired.host = s.host ∧
    s.fadeExpired.machine = s.machine ∧ s.fadeExpired.settings = s.settings ∧
    s.fadeExpired.agenda.nextTicket = s.agenda.nextTicket ∧
    s.fadeExpired.agenda.basePage = s.agenda.basePage ∧ s.fadeExpired.floor.claims = s.floor.claims ∧
    s.fadeExpired.floor.holders = s.floor.holders ∧ s.fadeExpired.floor.isolated = s.floor.isolated ∧
    s.fadeExpired.roster = s.roster ∧ s.fadeExpired.flash.store = s.flash.store ∧
    s.fadeExpired.panel = s.panel ∧ s.fadeExpired.rest.part = s.rest.part ∧
    s.fadeExpired.rest.warm = s.rest.warm ∧ s.fadeExpired.phraseStore = s.phraseStore ∧
    s.fadeExpired.pending = s.pending := by
  unfold fadeExpired; (repeat' split) <;> simp

@[simp] theorem enableDropped_keeps (s : State) :
    s.enableDropped.timebase = s.timebase ∧ s.enableDropped.host = s.host ∧
    s.enableDropped.machine = s.machine ∧ s.enableDropped.settings = s.settings ∧
    s.enableDropped.agenda = s.agenda ∧ s.enableDropped.floor = s.floor ∧
    s.enableDropped.line = s.line ∧ s.enableDropped.roster = s.roster ∧
    s.enableDropped.flash = s.flash ∧ s.enableDropped.level = s.level ∧
    s.enableDropped.display = s.display ∧ s.enableDropped.panel = s.panel ∧
    s.enableDropped.events = s.events ∧ s.enableDropped.rest = s.rest ∧
    s.enableDropped.phraseStore = s.phraseStore ∧ s.enableDropped.pending = s.pending := by
  unfold enableDropped; (repeat' split) <;> simp

@[simp] theorem windowEnded_keeps (s : State) :
    s.windowEnded.timebase = s.timebase ∧ s.windowEnded.host = s.host ∧
    s.windowEnded.machine = s.machine ∧ s.windowEnded.settings = s.settings ∧
    s.windowEnded.agenda = s.agenda ∧ s.windowEnded.floor = s.floor ∧ s.windowEnded.line = s.line ∧
    s.windowEnded.roster = s.roster ∧ s.windowEnded.flash = s.flash ∧
    s.windowEnded.renderer = s.renderer ∧ s.windowEnded.display = s.display ∧
    s.windowEnded.panel = s.panel ∧ s.windowEnded.events = s.events ∧ s.windowEnded.rest = s.rest ∧
    s.windowEnded.phraseStore = s.phraseStore ∧ s.windowEnded.pending = s.pending := by
  unfold windowEnded; (repeat' split) <;> simp

@[simp] theorem sampleTaken_keeps (s : State) (adc : BitVec 8) :
    (s.sampleTaken adc).timebase = s.timebase ∧ (s.sampleTaken adc).host = s.host ∧
    (s.sampleTaken adc).machine = s.machine ∧ (s.sampleTaken adc).settings = s.settings ∧
    (s.sampleTaken adc).agenda = s.agenda ∧ (s.sampleTaken adc).floor = s.floor ∧
    (s.sampleTaken adc).line = s.line ∧ (s.sampleTaken adc).roster = s.roster ∧
    (s.sampleTaken adc).flash = s.flash ∧ (s.sampleTaken adc).display = s.display ∧
    (s.sampleTaken adc).panel = s.panel ∧ (s.sampleTaken adc).events = s.events ∧
    (s.sampleTaken adc).rest = s.rest ∧ (s.sampleTaken adc).phraseStore = s.phraseStore ∧
    (s.sampleTaken adc).pending = s.pending := by
  unfold sampleTaken; (repeat' split) <;> simp

@[simp] theorem composeEnded_keeps (s : State) :
    s.composeEnded.timebase = s.timebase ∧ s.composeEnded.host = s.host ∧
    s.composeEnded.machine = s.machine ∧ s.composeEnded.settings = s.settings ∧
    s.composeEnded.agenda = s.agenda ∧ s.composeEnded.floor = s.floor ∧ s.composeEnded.line = s.line ∧
    s.composeEnded.roster = s.roster ∧ s.composeEnded.flash = s.flash ∧
    s.composeEnded.renderer = s.renderer ∧ s.composeEnded.level = s.level ∧
    s.composeEnded.panel = s.panel ∧ s.composeEnded.events = s.events ∧ s.composeEnded.rest = s.rest ∧
    s.composeEnded.phraseStore = s.phraseStore ∧ s.composeEnded.pending = s.pending := by
  unfold composeEnded; (repeat' split) <;> simp

@[simp] theorem swapped_keeps (s : State) :
    s.swapped.timebase = s.timebase ∧ s.swapped.host = s.host ∧ s.swapped.machine = s.machine ∧
    s.swapped.settings = s.settings ∧ s.swapped.agenda.ids = s.agenda.ids ∧
    s.swapped.agenda.nextTicket = s.agenda.nextTicket ∧ s.swapped.agenda.basePage = s.agenda.basePage ∧
    s.swapped.floor = s.floor ∧ s.swapped.line = s.line ∧ s.swapped.roster = s.roster ∧
    s.swapped.flash.store = s.flash.store ∧ s.swapped.renderer = s.renderer ∧
    s.swapped.level = s.level ∧ s.swapped.panel = s.panel ∧ s.swapped.rest = s.rest ∧
    s.swapped.phraseStore = s.phraseStore ∧ s.swapped.pending = s.pending := by
  unfold swapped; (repeat' split) <;> simp

@[simp] theorem blinkStepped_keeps (s : State) :
    s.blinkStepped.timebase = s.timebase ∧ s.blinkStepped.host = s.host ∧
    s.blinkStepped.machine = s.machine ∧ s.blinkStepped.settings = s.settings ∧
    s.blinkStepped.agenda = s.agenda ∧ s.blinkStepped.floor = s.floor ∧ s.blinkStepped.line = s.line ∧
    s.blinkStepped.roster = s.roster ∧ s.blinkStepped.flash = s.flash ∧
    s.blinkStepped.renderer = s.renderer ∧ s.blinkStepped.level = s.level ∧
    s.blinkStepped.panel = s.panel ∧ s.blinkStepped.events = s.events ∧ s.blinkStepped.rest = s.rest ∧
    s.blinkStepped.phraseStore = s.phraseStore ∧ s.blinkStepped.pending = s.pending := by
  unfold blinkStepped; (repeat' split) <;> simp

@[simp] theorem frameBegun_keeps (s : State) :
    s.frameBegun.timebase = s.timebase ∧ s.frameBegun.host = s.host ∧
    s.frameBegun.machine = s.machine ∧ s.frameBegun.settings = s.settings ∧
    s.frameBegun.agenda.ids = s.agenda.ids ∧ s.frameBegun.agenda.nextTicket = s.agenda.nextTicket ∧
    s.frameBegun.agenda.basePage = s.agenda.basePage ∧ s.frameBegun.floor = s.floor ∧
    s.frameBegun.line = s.line ∧ s.frameBegun.roster = s.roster ∧
    s.frameBegun.flash.store = s.flash.store ∧ s.frameBegun.renderer = s.renderer ∧
    s.frameBegun.level = s.level ∧ s.frameBegun.panel = s.panel ∧ s.frameBegun.rest = s.rest ∧
    s.frameBegun.phraseStore = s.phraseStore ∧ s.frameBegun.pending = s.pending := by
  unfold frameBegun; (repeat' split) <;> simp

@[simp] theorem filtersStepped_keeps (s : State) (levels : BitVec 8) :
    (s.filtersStepped levels).timebase = s.timebase ∧ (s.filtersStepped levels).host = s.host ∧
    (s.filtersStepped levels).machine = s.machine ∧ (s.filtersStepped levels).settings = s.settings ∧
    (s.filtersStepped levels).agenda = s.agenda ∧ (s.filtersStepped levels).floor = s.floor ∧
    (s.filtersStepped levels).line = s.line ∧ (s.filtersStepped levels).roster = s.roster ∧
    (s.filtersStepped levels).flash = s.flash ∧ (s.filtersStepped levels).renderer = s.renderer ∧
    (s.filtersStepped levels).level = s.level ∧ (s.filtersStepped levels).display = s.display ∧
    (s.filtersStepped levels).panel.presence = s.panel.presence ∧
    (s.filtersStepped levels).panel.language = s.panel.language ∧
    (s.filtersStepped levels).events = s.events ∧ (s.filtersStepped levels).rest = s.rest ∧
    (s.filtersStepped levels).phraseStore = s.phraseStore ∧
    (s.filtersStepped levels).pending = s.pending := by
  unfold filtersStepped; (repeat' split) <;> simp

@[simp] theorem idleRestarted_keeps (s : State) :
    s.idleRestarted.timebase = s.timebase ∧ s.idleRestarted.host = s.host ∧
    s.idleRestarted.machine = s.machine ∧ s.idleRestarted.settings = s.settings ∧
    s.idleRestarted.agenda = s.agenda ∧ s.idleRestarted.floor = s.floor ∧
    s.idleRestarted.line = s.line ∧ s.idleRestarted.roster = s.roster ∧
    s.idleRestarted.flash = s.flash ∧ s.idleRestarted.renderer = s.renderer ∧
    s.idleRestarted.level = s.level ∧ s.idleRestarted.display = s.display ∧
    s.idleRestarted.panel = s.panel ∧ s.idleRestarted.events = s.events ∧
    s.idleRestarted.rest.part = s.rest.part ∧ s.idleRestarted.rest.warm = s.rest.warm ∧
    s.idleRestarted.phraseStore = s.phraseStore ∧ s.idleRestarted.pending = s.pending := by
  unfold idleRestarted; (repeat' split) <;> simp

@[simp] theorem sessionRestarted_keeps (s : State) :
    s.sessionRestarted.timebase = s.timebase ∧ s.sessionRestarted.host = s.host ∧
    s.sessionRestarted.machine = s.machine ∧ s.sessionRestarted.settings = s.settings ∧
    s.sessionRestarted.agenda = s.agenda ∧ s.sessionRestarted.floor = s.floor ∧
    s.sessionRestarted.line = s.line ∧ s.sessionRestarted.roster = s.roster ∧
    s.sessionRestarted.flash = s.flash ∧ s.sessionRestarted.renderer = s.renderer ∧
    s.sessionRestarted.level = s.level ∧ s.sessionRestarted.display = s.display ∧
    s.sessionRestarted.panel.presence = s.panel.presence ∧
    s.sessionRestarted.panel.language = s.panel.language ∧ s.sessionRestarted.events = s.events ∧
    s.sessionRestarted.rest = s.rest ∧ s.sessionRestarted.phraseStore = s.phraseStore ∧
    s.sessionRestarted.pending = s.pending := by
  unfold sessionRestarted; (repeat' split) <;> simp

@[simp] theorem repeatPressed_keeps (s : State) :
    s.repeatPressed.timebase = s.timebase ∧ s.repeatPressed.host = s.host ∧
    s.repeatPressed.machine = s.machine ∧ s.repeatPressed.settings = s.settings ∧
    s.repeatPressed.agenda.ids = s.agenda.ids ∧
    s.repeatPressed.agenda.nextTicket = s.agenda.nextTicket ∧
    s.repeatPressed.agenda.basePage = s.agenda.basePage ∧ s.repeatPressed.floor = s.floor ∧
    s.repeatPressed.line = s.line ∧ s.repeatPressed.roster = s.roster ∧
    s.repeatPressed.flash = s.flash ∧ s.repeatPressed.renderer = s.renderer ∧
    s.repeatPressed.level = s.level ∧ s.repeatPressed.display = s.display ∧
    s.repeatPressed.panel = s.panel ∧ s.repeatPressed.events = s.events ∧
    s.repeatPressed.rest = s.rest ∧ s.repeatPressed.phraseStore = s.phraseStore ∧
    s.repeatPressed.pending = s.pending := by
  unfold repeatPressed; (repeat' split) <;> simp

@[simp] theorem interruptPlaying_keeps (s : State) :
    s.interruptPlaying.timebase = s.timebase ∧ s.interruptPlaying.host = s.host ∧
    s.interruptPlaying.machine = s.machine ∧ s.interruptPlaying.settings = s.settings ∧
    s.interruptPlaying.agenda.ids = s.agenda.ids ∧
    s.interruptPlaying.agenda.nextTicket = s.agenda.nextTicket ∧
    s.interruptPlaying.agenda.basePage = s.agenda.basePage ∧ s.interruptPlaying.floor = s.floor ∧
    s.interruptPlaying.line = s.line ∧ s.interruptPlaying.roster = s.roster ∧
    s.interruptPlaying.flash.store = s.flash.store ∧ s.interruptPlaying.display = s.display ∧
    s.interruptPlaying.panel = s.panel ∧ s.interruptPlaying.events = s.events ∧
    s.interruptPlaying.rest = s.rest ∧ s.interruptPlaying.phraseStore = s.phraseStore ∧
    s.interruptPlaying.pending = s.pending := by
  unfold interruptPlaying; (repeat' split) <;> simp

@[simp] theorem languagePressed_keeps (s : State) :
    s.languagePressed.timebase = s.timebase ∧ s.languagePressed.host = s.host ∧
    s.languagePressed.machine = s.machine ∧ s.languagePressed.settings = s.settings ∧
    s.languagePressed.agenda.ids = s.agenda.ids ∧
    s.languagePressed.agenda.nextTicket = s.agenda.nextTicket ∧
    s.languagePressed.agenda.basePage = s.agenda.basePage ∧ s.languagePressed.floor = s.floor ∧
    s.languagePressed.line = s.line ∧ s.languagePressed.roster = s.roster ∧
    s.languagePressed.flash.store = s.flash.store ∧
    s.languagePressed.panel.presence = s.panel.presence ∧ s.languagePressed.rest = s.rest ∧
    s.languagePressed.phraseStore = s.phraseStore ∧ s.languagePressed.pending = s.pending := by
  simp only [languagePressed]; (repeat' split) <;> simp

@[simp] theorem acknowledgePressed_keeps (s : State) :
    s.acknowledgePressed.timebase = s.timebase ∧ s.acknowledgePressed.host = s.host ∧
    s.acknowledgePressed.machine = s.machine ∧ s.acknowledgePressed.settings = s.settings ∧
    s.acknowledgePressed.agenda.nextTicket = s.agenda.nextTicket ∧
    s.acknowledgePressed.agenda.basePage = s.agenda.basePage ∧
    s.acknowledgePressed.floor.claims = s.floor.claims ∧
    s.acknowledgePressed.floor.holders = s.floor.holders ∧
    s.acknowledgePressed.floor.isolated = s.floor.isolated ∧ s.acknowledgePressed.roster = s.roster ∧
    s.acknowledgePressed.flash.store = s.flash.store ∧ s.acknowledgePressed.panel = s.panel ∧
    s.acknowledgePressed.rest = s.rest ∧ s.acknowledgePressed.phraseStore = s.phraseStore ∧
    s.acknowledgePressed.pending = s.pending := by
  unfold acknowledgePressed; split <;> simp

@[simp] theorem keyEffect_keeps (s : State) (role : Role) :
    (s.keyEffect role).timebase = s.timebase ∧ (s.keyEffect role).host = s.host ∧
    (s.keyEffect role).machine = s.machine ∧ (s.keyEffect role).settings = s.settings ∧
    (s.keyEffect role).agenda.nextTicket = s.agenda.nextTicket ∧
    (s.keyEffect role).agenda.basePage = s.agenda.basePage ∧
    (s.keyEffect role).floor.claims = s.floor.claims ∧
    (s.keyEffect role).floor.holders = s.floor.holders ∧
    (s.keyEffect role).floor.isolated = s.floor.isolated ∧ (s.keyEffect role).roster = s.roster ∧
    (s.keyEffect role).flash.store = s.flash.store ∧
    (s.keyEffect role).panel.presence = s.panel.presence ∧ (s.keyEffect role).rest = s.rest ∧
    (s.keyEffect role).phraseStore = s.phraseStore ∧ (s.keyEffect role).pending = s.pending := by
  cases role <;> simp [keyEffect]

@[simp] theorem pressed_keeps (s : State) (line : Nat) :
    (s.pressed line).timebase.station = s.timebase.station ∧ (s.pressed line).host = s.host ∧
    (s.pressed line).machine = s.machine ∧ (s.pressed line).settings = s.settings ∧
    (s.pressed line).agenda.nextTicket = s.agenda.nextTicket ∧
    (s.pressed line).agenda.basePage = s.agenda.basePage ∧
    (s.pressed line).floor.claims = s.floor.claims ∧ (s.pressed line).floor.holders = s.floor.holders ∧
    (s.pressed line).floor.isolated = s.floor.isolated ∧ (s.pressed line).roster = s.roster ∧
    (s.pressed line).flash.store = s.flash.store ∧ (s.pressed line).panel.presence = s.panel.presence ∧
    (s.pressed line).rest.warm = s.rest.warm ∧ (s.pressed line).phraseStore = s.phraseStore ∧
    (s.pressed line).pending = s.pending := by
  unfold pressed; (repeat' split) <;> simp

@[simp] theorem keysJudged_keeps (s : State) :
    s.keysJudged.timebase.station = s.timebase.station ∧ s.keysJudged.host = s.host ∧
    s.keysJudged.machine = s.machine ∧ s.keysJudged.settings = s.settings ∧
    s.keysJudged.agenda.nextTicket = s.agenda.nextTicket ∧
    s.keysJudged.agenda.basePage = s.agenda.basePage ∧ s.keysJudged.floor.claims = s.floor.claims ∧
    s.keysJudged.floor.holders = s.floor.holders ∧ s.keysJudged.floor.isolated = s.floor.isolated ∧
    s.keysJudged.roster = s.roster ∧ s.keysJudged.flash.store = s.flash.store ∧
    s.keysJudged.panel.presence = s.panel.presence ∧ s.keysJudged.rest.warm = s.rest.warm ∧
    s.keysJudged.phraseStore = s.phraseStore ∧ s.keysJudged.pending = s.pending := by
  unfold keysJudged; (repeat' split) <;> simp

@[simp] theorem reportWake_keeps (s : State) (source : WakeSource) :
    (s.reportWake source).timebase = s.timebase ∧ (s.reportWake source).host = s.host ∧
    (s.reportWake source).machine = s.machine ∧ (s.reportWake source).settings = s.settings ∧
    (s.reportWake source).agenda = s.agenda ∧ (s.reportWake source).floor = s.floor ∧
    (s.reportWake source).line = s.line ∧ (s.reportWake source).roster = s.roster ∧
    (s.reportWake source).flash = s.flash ∧ (s.reportWake source).renderer = s.renderer ∧
    (s.reportWake source).level = s.level ∧ (s.reportWake source).display = s.display ∧
    (s.reportWake source).panel = s.panel ∧ (s.reportWake source).events = s.events ∧
    (s.reportWake source).rest.part = s.rest.part ∧ (s.reportWake source).rest.warm = s.rest.warm ∧
    (s.reportWake source).phraseStore = s.phraseStore ∧ (s.reportWake source).pending = s.pending := by
  unfold reportWake; (repeat' split) <;> simp

@[simp] theorem doorEdge_keeps (s : State) (line : Nat) (door : Door) :
    (s.doorEdge line door).timebase.station = s.timebase.station ∧
    (s.doorEdge line door).host = s.host ∧ (s.doorEdge line door).machine = s.machine ∧
    (s.doorEdge line door).settings = s.settings ∧
    (s.doorEdge line door).agenda.nextTicket = s.agenda.nextTicket ∧
    (s.doorEdge line door).agenda.basePage = s.agenda.basePage ∧
    (s.doorEdge line door).floor.claims = s.floor.claims ∧
    (s.doorEdge line door).floor.holders = s.floor.holders ∧
    (s.doorEdge line door).floor.isolated = s.floor.isolated ∧
    (s.doorEdge line door).roster = s.roster ∧ (s.doorEdge line door).flash.store = s.flash.store ∧
    (s.doorEdge line door).panel.presence = s.panel.presence ∧
    (s.doorEdge line door).panel.language = s.panel.language ∧
    (s.doorEdge line door).rest.warm = s.rest.warm ∧
    (s.doorEdge line door).phraseStore = s.phraseStore ∧
    (s.doorEdge line door).pending = s.pending := by
  unfold doorEdge; (repeat' split) <;> simp

@[simp] theorem doorJudged_keeps (s : State) :
    s.doorJudged.timebase.station = s.timebase.station ∧ s.doorJudged.host = s.host ∧
    s.doorJudged.machine = s.machine ∧ s.doorJudged.settings = s.settings ∧
    s.doorJudged.agenda.nextTicket = s.agenda.nextTicket ∧
    s.doorJudged.agenda.basePage = s.agenda.basePage ∧ s.doorJudged.floor.claims = s.floor.claims ∧
    s.doorJudged.floor.holders = s.floor.holders ∧ s.doorJudged.floor.isolated = s.floor.isolated ∧
    s.doorJudged.roster = s.roster ∧ s.doorJudged.flash.store = s.flash.store ∧
    s.doorJudged.panel.presence = s.panel.presence ∧ s.doorJudged.panel.language = s.panel.language ∧
    s.doorJudged.rest.warm = s.rest.warm ∧ s.doorJudged.phraseStore = s.phraseStore ∧
    s.doorJudged.pending = s.pending := by
  unfold doorJudged; (repeat' split) <;> simp

@[simp] theorem arrived_keeps (s : State) (line : Nat) :
    (s.arrived line).timebase.station = s.timebase.station ∧ (s.arrived line).host = s.host ∧
    (s.arrived line).machine = s.machine ∧ (s.arrived line).settings = s.settings ∧
    (s.arrived line).agenda.ids = s.agenda.ids ∧
    (s.arrived line).agenda.nextTicket = s.agenda.nextTicket ∧
    (s.arrived line).agenda.basePage = s.agenda.basePage ∧
    (s.arrived line).floor.claims = s.floor.claims ∧ (s.arrived line).floor.holders = s.floor.holders ∧
    (s.arrived line).floor.isolated = s.floor.isolated ∧ (s.arrived line).line = s.line ∧
    (s.arrived line).roster = s.roster ∧ (s.arrived line).flash.store = s.flash.store ∧
    (s.arrived line).panel.language = s.panel.language ∧ (s.arrived line).rest.warm = s.rest.warm ∧
    (s.arrived line).phraseStore = s.phraseStore ∧ (s.arrived line).pending = s.pending := by
  unfold arrived; (repeat' split) <;> simp

@[simp] theorem presenceLeavesRest_keeps (s : State) (line : Nat) :
    (s.presenceLeavesRest line).timebase.station = s.timebase.station ∧
    (s.presenceLeavesRest line).host = s.host ∧ (s.presenceLeavesRest line).machine = s.machine ∧
    (s.presenceLeavesRest line).settings = s.settings ∧
    (s.presenceLeavesRest line).agenda.ids = s.agenda.ids ∧
    (s.presenceLeavesRest line).agenda.nextTicket = s.agenda.nextTicket ∧
    (s.presenceLeavesRest line).agenda.basePage = s.agenda.basePage ∧
    (s.presenceLeavesRest line).floor.claims = s.floor.claims ∧
    (s.presenceLeavesRest line).floor.holders = s.floor.holders ∧
    (s.presenceLeavesRest line).floor.isolated = s.floor.isolated ∧
    (s.presenceLeavesRest line).line = s.line ∧ (s.presenceLeavesRest line).roster = s.roster ∧
    (s.presenceLeavesRest line).flash.store = s.flash.store ∧
    (s.presenceLeavesRest line).panel.language = s.panel.language ∧
    (s.presenceLeavesRest line).rest.warm = s.rest.warm ∧
    (s.presenceLeavesRest line).phraseStore = s.phraseStore ∧
    (s.presenceLeavesRest line).pending = s.pending := by
  unfold presenceLeavesRest; (repeat' split) <;> simp

@[simp] theorem presenceReturnsToRest_keeps (s : State) :
    s.presenceReturnsToRest.timebase = s.timebase ∧ s.presenceReturnsToRest.host = s.host ∧
    s.presenceReturnsToRest.machine = s.machine ∧ s.presenceReturnsToRest.settings = s.settings ∧
    s.presenceReturnsToRest.agenda = s.agenda ∧ s.presenceReturnsToRest.floor = s.floor ∧
    s.presenceReturnsToRest.line = s.line ∧ s.presenceReturnsToRest.roster = s.roster ∧
    s.presenceReturnsToRest.flash = s.flash ∧ s.presenceReturnsToRest.renderer = s.renderer ∧
    s.presenceReturnsToRest.level = s.level ∧ s.presenceReturnsToRest.display = s.display ∧
    s.presenceReturnsToRest.panel.presence = s.panel.presence ∧
    s.presenceReturnsToRest.panel.language = s.panel.language ∧
    s.presenceReturnsToRest.events = s.events ∧ s.presenceReturnsToRest.rest = s.rest ∧
    s.presenceReturnsToRest.phraseStore = s.phraseStore ∧
    s.presenceReturnsToRest.pending = s.pending := by
  unfold presenceReturnsToRest; (repeat' split) <;> simp

@[simp] theorem presenceJudged_keeps (s : State) (line : Nat) (wasAtRest : Bool) :
    (s.presenceJudged line wasAtRest).timebase.station = s.timebase.station ∧
    (s.presenceJudged line wasAtRest).host = s.host ∧
    (s.presenceJudged line wasAtRest).machine = s.machine ∧
    (s.presenceJudged line wasAtRest).settings = s.settings ∧
    (s.presenceJudged line wasAtRest).agenda.ids = s.agenda.ids ∧
    (s.presenceJudged line wasAtRest).agenda.nextTicket = s.agenda.nextTicket ∧
    (s.presenceJudged line wasAtRest).agenda.basePage = s.agenda.basePage ∧
    (s.presenceJudged line wasAtRest).floor.claims = s.floor.claims ∧
    (s.presenceJudged line wasAtRest).floor.holders = s.floor.holders ∧
    (s.presenceJudged line wasAtRest).floor.isolated = s.floor.isolated ∧
    (s.presenceJudged line wasAtRest).line = s.line ∧
    (s.presenceJudged line wasAtRest).roster = s.roster ∧
    (s.presenceJudged line wasAtRest).flash.store = s.flash.store ∧
    (s.presenceJudged line wasAtRest).panel.language = s.panel.language ∧
    (s.presenceJudged line wasAtRest).rest.warm = s.rest.warm ∧
    (s.presenceJudged line wasAtRest).phraseStore = s.phraseStore ∧
    (s.presenceJudged line wasAtRest).pending = s.pending := by
  unfold presenceJudged; (repeat' split) <;> simp

@[simp] theorem panelJudged_keeps (s : State) (before : Panel) :
    (s.panelJudged before).timebase.station = s.timebase.station ∧
    (s.panelJudged before).host = s.host ∧ (s.panelJudged before).machine = s.machine ∧
    (s.panelJudged before).settings = s.settings ∧
    (s.panelJudged before).agenda.nextTicket = s.agenda.nextTicket ∧
    (s.panelJudged before).agenda.basePage = s.agenda.basePage ∧
    (s.panelJudged before).floor.claims = s.floor.claims ∧
    (s.panelJudged before).floor.holders = s.floor.holders ∧
    (s.panelJudged before).floor.isolated = s.floor.isolated ∧
    (s.panelJudged before).roster = s.roster ∧ (s.panelJudged before).flash.store = s.flash.store ∧
    (s.panelJudged before).rest.warm = s.rest.warm ∧
    (s.panelJudged before).phraseStore = s.phraseStore ∧
    (s.panelJudged before).pending = s.pending := by
  unfold panelJudged; (repeat' split) <;> simp

@[simp] theorem panelSampled_keeps (s : State) (levels : BitVec 8) :
    (s.panelSampled levels).timebase.station = s.timebase.station ∧
    (s.panelSampled levels).host = s.host ∧ (s.panelSampled levels).machine = s.machine ∧
    (s.panelSampled levels).settings = s.settings ∧
    (s.panelSampled levels).agenda.nextTicket = s.agenda.nextTicket ∧
    (s.panelSampled levels).agenda.basePage = s.agenda.basePage ∧
    (s.panelSampled levels).floor.claims = s.floor.claims ∧
    (s.panelSampled levels).floor.holders = s.floor.holders ∧
    (s.panelSampled levels).floor.isolated = s.floor.isolated ∧
    (s.panelSampled levels).roster = s.roster ∧ (s.panelSampled levels).flash.store = s.flash.store ∧
    (s.panelSampled levels).rest.warm = s.rest.warm ∧
    (s.panelSampled levels).phraseStore = s.phraseStore ∧
    (s.panelSampled levels).pending = s.pending := by
  unfold panelSampled; (repeat' split) <;> simp

@[simp] theorem presenceHoldExpired_keeps (s : State) :
    s.presenceHoldExpired.timebase.station = s.timebase.station ∧ s.presenceHoldExpired.host = s.host ∧
    s.presenceHoldExpired.machine = s.machine ∧ s.presenceHoldExpired.settings = s.settings ∧
    s.presenceHoldExpired.agenda.ids = s.agenda.ids ∧
    s.presenceHoldExpired.agenda.nextTicket = s.agenda.nextTicket ∧
    s.presenceHoldExpired.agenda.basePage = s.agenda.basePage ∧
    s.presenceHoldExpired.floor.claims = s.floor.claims ∧
    s.presenceHoldExpired.floor.holders = s.floor.holders ∧
    s.presenceHoldExpired.floor.isolated = s.floor.isolated ∧ s.presenceHoldExpired.line = s.line ∧
    s.presenceHoldExpired.roster = s.roster ∧ s.presenceHoldExpired.flash.store = s.flash.store ∧
    s.presenceHoldExpired.panel.language = s.panel.language ∧
    s.presenceHoldExpired.rest.part = s.rest.part ∧ s.presenceHoldExpired.rest.warm = s.rest.warm ∧
    s.presenceHoldExpired.phraseStore = s.phraseStore ∧ s.presenceHoldExpired.pending = s.pending := by
  unfold presenceHoldExpired; (repeat' split) <;> simp

@[simp] theorem sessionStopped_keeps (s : State) :
    s.sessionStopped.timebase = s.timebase ∧ s.sessionStopped.host = s.host ∧
    s.sessionStopped.machine = s.machine ∧ s.sessionStopped.settings = s.settings ∧
    s.sessionStopped.agenda = s.agenda ∧ s.sessionStopped.floor = s.floor ∧
    s.sessionStopped.line = s.line ∧ s.sessionStopped.roster = s.roster ∧
    s.sessionStopped.flash = s.flash ∧ s.sessionStopped.renderer = s.renderer ∧
    s.sessionStopped.level = s.level ∧ s.sessionStopped.display = s.display ∧
    s.sessionStopped.panel.presence = s.panel.presence ∧
    s.sessionStopped.panel.language = s.panel.language ∧ s.sessionStopped.events = s.events ∧
    s.sessionStopped.rest = s.rest ∧ s.sessionStopped.phraseStore = s.phraseStore ∧
    s.sessionStopped.pending = s.pending := by
  unfold sessionStopped; (repeat' split) <;> simp

@[simp] theorem sessionTimedOut_keeps (s : State) :
    s.sessionTimedOut.timebase = s.timebase ∧ s.sessionTimedOut.host = s.host ∧
    s.sessionTimedOut.machine = s.machine ∧ s.sessionTimedOut.settings = s.settings ∧
    s.sessionTimedOut.agenda.ids = s.agenda.ids ∧
    s.sessionTimedOut.agenda.nextTicket = s.agenda.nextTicket ∧
    s.sessionTimedOut.agenda.basePage = s.agenda.basePage ∧ s.sessionTimedOut.floor = s.floor ∧
    s.sessionTimedOut.line = s.line ∧ s.sessionTimedOut.roster = s.roster ∧
    s.sessionTimedOut.flash.store = s.flash.store ∧ s.sessionTimedOut.renderer = s.renderer ∧
    s.sessionTimedOut.level = s.level ∧ s.sessionTimedOut.panel.presence = s.panel.presence ∧
    s.sessionTimedOut.rest = s.rest ∧ s.sessionTimedOut.phraseStore = s.phraseStore ∧
    s.sessionTimedOut.pending = s.pending := by
  unfold sessionTimedOut; (repeat' split) <;> simp

@[simp] theorem keysTaken_keeps (s : State) :
    s.keysTaken.timebase = s.timebase ∧ s.keysTaken.host = s.host ∧ s.keysTaken.machine = s.machine ∧
    s.keysTaken.settings = s.settings ∧ s.keysTaken.agenda = s.agenda ∧ s.keysTaken.floor = s.floor ∧
    s.keysTaken.line = s.line ∧ s.keysTaken.roster = s.roster ∧ s.keysTaken.flash = s.flash ∧
    s.keysTaken.renderer = s.renderer ∧ s.keysTaken.level = s.level ∧ s.keysTaken.display = s.display ∧
    s.keysTaken.panel.presence = s.panel.presence ∧ s.keysTaken.panel.language = s.panel.language ∧
    s.keysTaken.events = s.events ∧ s.keysTaken.rest = s.rest ∧
    s.keysTaken.phraseStore = s.phraseStore ∧ s.keysTaken.pending = s.pending := by
  unfold keysTaken; (repeat' split) <;> simp

@[simp] theorem doorTaken_keeps (s : State) :
    s.doorTaken.timebase = s.timebase ∧ s.doorTaken.host = s.host ∧ s.doorTaken.machine = s.machine ∧
    s.doorTaken.settings = s.settings ∧ s.doorTaken.agenda = s.agenda ∧ s.doorTaken.floor = s.floor ∧
    s.doorTaken.line = s.line ∧ s.doorTaken.roster = s.roster ∧ s.doorTaken.flash = s.flash ∧
    s.doorTaken.renderer = s.renderer ∧ s.doorTaken.level = s.level ∧ s.doorTaken.display = s.display ∧
    s.doorTaken.panel.presence = s.panel.presence ∧ s.doorTaken.panel.language = s.panel.language ∧
    s.doorTaken.events = s.events ∧ s.doorTaken.rest = s.rest ∧
    s.doorTaken.phraseStore = s.phraseStore ∧ s.doorTaken.pending = s.pending := by
  unfold doorTaken; (repeat' split) <;> simp

@[simp] theorem presenceTaken_keeps (s : State) :
    s.presenceTaken.timebase = s.timebase ∧ s.presenceTaken.host = s.host ∧
    s.presenceTaken.machine = s.machine ∧ s.presenceTaken.settings = s.settings ∧
    s.presenceTaken.agenda = s.agenda ∧ s.presenceTaken.floor = s.floor ∧
    s.presenceTaken.line = s.line ∧ s.presenceTaken.roster = s.roster ∧
    s.presenceTaken.flash = s.flash ∧ s.presenceTaken.renderer = s.renderer ∧
    s.presenceTaken.level = s.level ∧ s.presenceTaken.display = s.display ∧
    s.presenceTaken.panel.language = s.panel.language ∧ s.presenceTaken.events = s.events ∧
    s.presenceTaken.rest = s.rest ∧ s.presenceTaken.phraseStore = s.phraseStore ∧
    s.presenceTaken.pending = s.pending := by
  unfold presenceTaken; (repeat' split) <;> simp

@[simp] theorem sessionStarted_keeps (s : State) :
    s.sessionStarted.timebase = s.timebase ∧ s.sessionStarted.host = s.host ∧
    s.sessionStarted.machine = s.machine ∧ s.sessionStarted.settings = s.settings ∧
    s.sessionStarted.agenda = s.agenda ∧ s.sessionStarted.floor = s.floor ∧
    s.sessionStarted.line = s.line ∧ s.sessionStarted.roster = s.roster ∧
    s.sessionStarted.flash = s.flash ∧ s.sessionStarted.renderer = s.renderer ∧
    s.sessionStarted.level = s.level ∧ s.sessionStarted.display = s.display ∧
    s.sessionStarted.panel.presence = s.panel.presence ∧
    s.sessionStarted.panel.language = s.panel.language ∧ s.sessionStarted.events = s.events ∧
    s.sessionStarted.rest = s.rest ∧ s.sessionStarted.phraseStore = s.phraseStore ∧
    s.sessionStarted.pending = s.pending := by
  unfold sessionStarted; (repeat' split) <;> simp

@[simp] theorem idleExpired_keeps (s : State) :
    s.idleExpired.timebase = s.timebase ∧ s.idleExpired.host = s.host ∧
    s.idleExpired.machine = s.machine ∧ s.idleExpired.settings = s.settings ∧
    s.idleExpired.agenda = s.agenda ∧ s.idleExpired.floor.claims = s.floor.claims ∧
    s.idleExpired.floor.holders = s.floor.holders ∧ s.idleExpired.floor.quietAge = s.floor.quietAge ∧
    s.idleExpired.floor.isolated = s.floor.isolated ∧ s.idleExpired.line = s.line ∧
    s.idleExpired.roster = s.roster ∧ s.idleExpired.flash.store = s.flash.store ∧
    s.idleExpired.level = s.level ∧ s.idleExpired.panel = s.panel ∧
    s.idleExpired.rest.warm = s.rest.warm ∧ s.idleExpired.phraseStore = s.phraseStore ∧
    s.idleExpired.pending = s.pending := by
  unfold idleExpired; (repeat' split) <;> simp

@[simp] theorem offerAll_keeps (s : State) (records : List EventRecord) :
    (s.offerAll records).timebase = s.timebase ∧ (s.offerAll records).host = s.host ∧
    (s.offerAll records).machine = s.machine ∧ (s.offerAll records).settings = s.settings ∧
    (s.offerAll records).agenda = s.agenda ∧ (s.offerAll records).floor = s.floor ∧
    (s.offerAll records).line = s.line ∧ (s.offerAll records).roster = s.roster ∧
    (s.offerAll records).flash = s.flash ∧ (s.offerAll records).renderer = s.renderer ∧
    (s.offerAll records).level = s.level ∧ (s.offerAll records).display = s.display ∧
    (s.offerAll records).panel = s.panel ∧ (s.offerAll records).rest = s.rest ∧
    (s.offerAll records).phraseStore = s.phraseStore ∧ (s.offerAll records).pending = s.pending := by
  induction records generalizing s with
  | nil => simp [offerAll]
  | cons r rs ih => simpa [offerAll] using ih (s.offer r)

@[simp] theorem retireRested_keeps (s : State) :
    s.retireRested.timebase = s.timebase ∧ s.retireRested.host = s.host ∧
    s.retireRested.machine = s.machine ∧ s.retireRested.settings = s.settings ∧
    s.retireRested.agenda.nextTicket = s.agenda.nextTicket ∧
    s.retireRested.agenda.basePage = s.agenda.basePage ∧ s.retireRested.floor = s.floor ∧
    s.retireRested.line = s.line ∧ s.retireRested.roster = s.roster ∧
    s.retireRested.flash.store = s.flash.store ∧ s.retireRested.renderer = s.renderer ∧
    s.retireRested.level = s.level ∧ s.retireRested.panel = s.panel ∧ s.retireRested.rest = s.rest ∧
    s.retireRested.phraseStore = s.phraseStore ∧ s.retireRested.pending = s.pending := by
  unfold retireRested; (repeat' split) <;> simp

@[simp] theorem floorRested_keeps (s : State) :
    s.floorRested.timebase = s.timebase ∧ s.floorRested.host = s.host ∧
    s.floorRested.machine = s.machine ∧ s.floorRested.settings = s.settings ∧
    s.floorRested.agenda = s.agenda ∧ s.floorRested.floor.claims = s.floor.claims ∧
    s.floorRested.floor.holders = s.floor.holders ∧ s.floorRested.floor.isolated = s.floor.isolated ∧
    s.floorRested.roster = s.roster ∧ s.floorRested.flash = s.flash ∧
    s.floorRested.renderer = s.renderer ∧ s.floorRested.level = s.level ∧
    s.floorRested.display = s.display ∧ s.floorRested.panel = s.panel ∧
    s.floorRested.events = s.events ∧ s.floorRested.rest = s.rest ∧
    s.floorRested.phraseStore = s.phraseStore ∧ s.floorRested.pending = s.pending := by
  unfold floorRested; (repeat' split) <;> simp

@[simp] theorem enterSettling_keeps (s : State) :
    s.enterSettling.timebase = s.timebase ∧ s.enterSettling.host = s.host ∧
    s.enterSettling.machine = s.machine ∧ s.enterSettling.settings = s.settings ∧
    s.enterSettling.agenda.nextTicket = s.agenda.nextTicket ∧
    s.enterSettling.agenda.basePage = s.agenda.basePage ∧
    s.enterSettling.floor.claims = s.floor.claims ∧ s.enterSettling.floor.holders = s.floor.holders ∧
    s.enterSettling.floor.isolated = s.floor.isolated ∧
    s.enterSettling.roster.records = s.roster.records ∧ s.enterSettling.flash.store = s.flash.store ∧
    s.enterSettling.panel = s.panel ∧ s.enterSettling.rest.warm = s.rest.warm ∧
    s.enterSettling.phraseStore = s.phraseStore ∧ s.enterSettling.pending = s.pending := by
  unfold enterSettling; (repeat' split) <;> simp

@[simp] theorem panelRested_keeps (s : State) :
    s.panelRested.timebase = s.timebase ∧ s.panelRested.host = s.host ∧
    s.panelRested.machine = s.machine ∧ s.panelRested.settings = s.settings ∧
    s.panelRested.agenda = s.agenda ∧ s.panelRested.floor = s.floor ∧ s.panelRested.line = s.line ∧
    s.panelRested.roster = s.roster ∧ s.panelRested.flash = s.flash ∧
    s.panelRested.renderer = s.renderer ∧ s.panelRested.level = s.level ∧
    s.panelRested.display = s.display ∧ s.panelRested.events = s.events ∧ s.panelRested.rest = s.rest ∧
    s.panelRested.phraseStore = s.phraseStore ∧ s.panelRested.pending = s.pending := by
  unfold panelRested; (repeat' split) <;> simp

@[simp] theorem levelRested_keeps (s : State) :
    s.levelRested.timebase = s.timebase ∧ s.levelRested.host = s.host ∧
    s.levelRested.machine = s.machine ∧ s.levelRested.settings = s.settings ∧
    s.levelRested.agenda = s.agenda ∧ s.levelRested.floor = s.floor ∧ s.levelRested.line = s.line ∧
    s.levelRested.roster = s.roster ∧ s.levelRested.flash = s.flash ∧
    s.levelRested.renderer = s.renderer ∧ s.levelRested.display = s.display ∧
    s.levelRested.panel = s.panel ∧ s.levelRested.events = s.events ∧ s.levelRested.rest = s.rest ∧
    s.levelRested.phraseStore = s.phraseStore ∧ s.levelRested.pending = s.pending := by
  unfold levelRested; (repeat' split) <;> simp

@[simp] theorem displayRested_keeps (s : State) :
    s.displayRested.timebase = s.timebase ∧ s.displayRested.host = s.host ∧
    s.displayRested.machine = s.machine ∧ s.displayRested.settings = s.settings ∧
    s.displayRested.agenda = s.agenda ∧ s.displayRested.floor = s.floor ∧
    s.displayRested.line = s.line ∧ s.displayRested.roster = s.roster ∧
    s.displayRested.flash = s.flash ∧ s.displayRested.renderer = s.renderer ∧
    s.displayRested.level = s.level ∧ s.displayRested.panel = s.panel ∧
    s.displayRested.events = s.events ∧ s.displayRested.rest = s.rest ∧
    s.displayRested.phraseStore = s.phraseStore ∧ s.displayRested.pending = s.pending := by
  unfold displayRested; (repeat' split) <;> simp

@[simp] theorem listsRested_keeps (s : State) :
    s.listsRested.timebase = s.timebase ∧ s.listsRested.host = s.host ∧
    s.listsRested.machine = s.machine ∧ s.listsRested.settings = s.settings ∧
    s.listsRested.agenda = s.agenda ∧ s.listsRested.floor.isolated = s.floor.isolated ∧
    s.listsRested.line = s.line ∧ s.listsRested.flash = s.flash ∧ s.listsRested.renderer = s.renderer ∧
    s.listsRested.level = s.level ∧ s.listsRested.display = s.display ∧ s.listsRested.panel = s.panel ∧
    s.listsRested.events = s.events ∧ s.listsRested.rest = s.rest ∧
    s.listsRested.phraseStore = s.phraseStore ∧ s.listsRested.pending = s.pending := by
  unfold listsRested; (repeat' split) <;> simp

@[simp] theorem flashRested_keeps (s : State) :
    s.flashRested.timebase = s.timebase ∧ s.flashRested.host = s.host ∧
    s.flashRested.machine = s.machine ∧ s.flashRested.settings = s.settings ∧
    s.flashRested.agenda = s.agenda ∧ s.flashRested.floor = s.floor ∧ s.flashRested.line = s.line ∧
    s.flashRested.roster = s.roster ∧ s.flashRested.flash.store = s.flash.store ∧
    s.flashRested.renderer = s.renderer ∧ s.flashRested.level = s.level ∧
    s.flashRested.display = s.display ∧ s.flashRested.panel = s.panel ∧
    s.flashRested.events = s.events ∧ s.flashRested.rest = s.rest ∧
    s.flashRested.phraseStore = s.phraseStore ∧ s.flashRested.pending = s.pending := by
  unfold flashRested; (repeat' split) <;> simp

@[simp] theorem enterDormant_keeps (s : State) :
    s.enterDormant.timebase = s.timebase ∧ s.enterDormant.host = s.host ∧
    s.enterDormant.machine = s.machine ∧ s.enterDormant.settings = s.settings ∧
    s.enterDormant.agenda = s.agenda ∧ s.enterDormant.floor.isolated = s.floor.isolated ∧
    s.enterDormant.flash.store = s.flash.store ∧ s.enterDormant.events = s.events ∧
    s.enterDormant.rest.warm = s.rest.warm ∧ s.enterDormant.phraseStore = s.phraseStore ∧
    s.enterDormant.pending = s.pending := by
  unfold enterDormant; (repeat' split) <;> simp

@[simp] theorem dormantTaken_keeps (s : State) :
    s.dormantTaken.timebase = s.timebase ∧ s.dormantTaken.host = s.host ∧
    s.dormantTaken.machine = s.machine ∧ s.dormantTaken.settings = s.settings ∧
    s.dormantTaken.agenda = s.agenda ∧ s.dormantTaken.floor.isolated = s.floor.isolated ∧
    s.dormantTaken.flash.store = s.flash.store ∧ s.dormantTaken.events = s.events ∧
    s.dormantTaken.rest.warm = s.rest.warm ∧ s.dormantTaken.phraseStore = s.phraseStore ∧
    s.dormantTaken.pending = s.pending := by
  unfold dormantTaken; (repeat' split) <;> simp

@[simp] theorem settlingRanOut_keeps (s : State) :
    s.settlingRanOut.timebase = s.timebase ∧ s.settlingRanOut.host = s.host ∧
    s.settlingRanOut.machine = s.machine ∧ s.settlingRanOut.settings = s.settings ∧
    s.settlingRanOut.agenda = s.agenda ∧ s.settlingRanOut.floor.isolated = s.floor.isolated ∧
    s.settlingRanOut.flash.store = s.flash.store ∧ s.settlingRanOut.rest.warm = s.rest.warm ∧
    s.settlingRanOut.phraseStore = s.phraseStore ∧ s.settlingRanOut.pending = s.pending := by
  unfold settlingRanOut; (repeat' split) <;> simp

@[simp] theorem wokenBy_keeps (s : State) (source : WakeSource) :
    (s.wokenBy source).timebase.station = s.timebase.station ∧ (s.wokenBy source).host = s.host ∧
    (s.wokenBy source).machine = s.machine ∧ (s.wokenBy source).settings = s.settings ∧
    (s.wokenBy source).agenda = s.agenda ∧ (s.wokenBy source).floor = s.floor ∧
    (s.wokenBy source).line = s.line ∧ (s.wokenBy source).roster = s.roster ∧
    (s.wokenBy source).flash = s.flash ∧ (s.wokenBy source).renderer = s.renderer ∧
    (s.wokenBy source).level = s.level ∧ (s.wokenBy source).display = s.display ∧
    (s.wokenBy source).panel = s.panel ∧ (s.wokenBy source).phraseStore = s.phraseStore ∧
    (s.wokenBy source).pending = s.pending ∧ (s.wokenBy source).rest.warm = s.rest.warm := by
  unfold wokenBy; (repeat' split) <;> simp

@[simp] theorem selectDiscarded_keeps (s : State) :
    s.selectDiscarded.timebase = s.timebase ∧ s.selectDiscarded.machine = s.machine ∧
    s.selectDiscarded.settings = s.settings ∧ s.selectDiscarded.agenda = s.agenda ∧
    s.selectDiscarded.floor = s.floor ∧ s.selectDiscarded.line = s.line ∧
    s.selectDiscarded.roster = s.roster ∧ s.selectDiscarded.flash = s.flash ∧
    s.selectDiscarded.renderer = s.renderer ∧ s.selectDiscarded.level = s.level ∧
    s.selectDiscarded.display = s.display ∧ s.selectDiscarded.panel = s.panel ∧
    s.selectDiscarded.events = s.events ∧ s.selectDiscarded.rest = s.rest ∧
    s.selectDiscarded.phraseStore = s.phraseStore ∧ s.selectDiscarded.pending = s.pending := by
  unfold selectDiscarded; (repeat' split) <;> simp

@[simp] theorem selectFell_keeps (s : State) (pin : Level) :
    (s.selectFell pin).host.request = s.host.request ∧ (s.selectFell pin).host.slot = s.host.slot ∧
    (s.selectFell pin).host.overrun = s.host.overrun ∧
    (s.selectFell pin).machine = s.machine ∧ (s.selectFell pin).settings = s.settings ∧
    (s.selectFell pin).agenda = s.agenda ∧ (s.selectFell pin).floor = s.floor ∧
    (s.selectFell pin).line = s.line ∧ (s.selectFell pin).roster = s.roster ∧
    (s.selectFell pin).flash = s.flash ∧ (s.selectFell pin).renderer = s.renderer ∧
    (s.selectFell pin).level = s.level ∧ (s.selectFell pin).display = s.display ∧
    (s.selectFell pin).panel = s.panel ∧ (s.selectFell pin).phraseStore = s.phraseStore ∧
    (s.selectFell pin).pending = s.pending ∧ (s.selectFell pin).timebase.station = s.timebase.station ∧
    (s.selectFell pin).rest.warm = s.rest.warm := by
  unfold selectFell; (repeat' split) <;> simp [selectDiscarded]

@[simp] theorem wakeTaken_keeps (s : State) (event : WakeEvent) :
    (s.wakeTaken event).host.request = s.host.request ∧ (s.wakeTaken event).host.slot = s.host.slot ∧
    (s.wakeTaken event).host.overrun = s.host.overrun ∧ (s.wakeTaken event).machine = s.machine ∧
    (s.wakeTaken event).settings = s.settings ∧ (s.wakeTaken event).agenda = s.agenda ∧
    (s.wakeTaken event).floor = s.floor ∧ (s.wakeTaken event).line = s.line ∧
    (s.wakeTaken event).roster = s.roster ∧ (s.wakeTaken event).flash = s.flash ∧
    (s.wakeTaken event).renderer = s.renderer ∧ (s.wakeTaken event).level = s.level ∧
    (s.wakeTaken event).display = s.display ∧ (s.wakeTaken event).panel = s.panel ∧
    (s.wakeTaken event).phraseStore = s.phraseStore ∧ (s.wakeTaken event).pending = s.pending ∧
    (s.wakeTaken event).timebase.station = s.timebase.station ∧
    (s.wakeTaken event).rest.warm = s.rest.warm := by
  unfold wakeTaken; (repeat' split) <;> simp

@[simp] theorem respond_keeps (s : State) (result : ResultCode) (body : List Byte) :
    (s.respond result body).timebase = s.timebase ∧ (s.respond result body).machine = s.machine ∧
    (s.respond result body).settings = s.settings ∧ (s.respond result body).agenda = s.agenda ∧
    (s.respond result body).floor = s.floor ∧ (s.respond result body).line = s.line ∧
    (s.respond result body).roster = s.roster ∧ (s.respond result body).flash = s.flash ∧
    (s.respond result body).renderer = s.renderer ∧ (s.respond result body).level = s.level ∧
    (s.respond result body).display = s.display ∧ (s.respond result body).panel = s.panel ∧
    (s.respond result body).events = s.events ∧ (s.respond result body).rest = s.rest ∧
    (s.respond result body).phraseStore = s.phraseStore ∧
    (s.respond result body).pending = s.pending := by
  unfold respond; (repeat' split) <;> simp

@[simp] theorem hearMaskTaken_keeps (s : State) :
    s.hearMaskTaken.timebase = s.timebase ∧ s.hearMaskTaken.host = s.host ∧
    s.hearMaskTaken.machine = s.machine ∧ s.hearMaskTaken.settings = s.settings ∧
    s.hearMaskTaken.agenda = s.agenda ∧ s.hearMaskTaken.floor.isolated = s.floor.isolated ∧
    s.hearMaskTaken.line = s.line ∧ s.hearMaskTaken.roster = s.roster ∧
    s.hearMaskTaken.flash = s.flash ∧ s.hearMaskTaken.renderer = s.renderer ∧
    s.hearMaskTaken.level = s.level ∧ s.hearMaskTaken.display = s.display ∧
    s.hearMaskTaken.panel = s.panel ∧ s.hearMaskTaken.events = s.events ∧
    s.hearMaskTaken.rest = s.rest ∧ s.hearMaskTaken.phraseStore = s.phraseStore ∧
    s.hearMaskTaken.pending = s.pending := by
  unfold hearMaskTaken; (repeat' split) <;> simp

@[simp] theorem languageTaken_keeps (s : State) :
    s.languageTaken.timebase = s.timebase ∧ s.languageTaken.host = s.host ∧
    s.languageTaken.machine = s.machine ∧ s.languageTaken.settings = s.settings ∧
    s.languageTaken.agenda = s.agenda ∧ s.languageTaken.floor = s.floor ∧
    s.languageTaken.line = s.line ∧ s.languageTaken.roster = s.roster ∧
    s.languageTaken.flash = s.flash ∧ s.languageTaken.renderer = s.renderer ∧
    s.languageTaken.level = s.level ∧ s.languageTaken.display = s.display ∧
    s.languageTaken.panel.presence = s.panel.presence ∧ s.languageTaken.events = s.events ∧
    s.languageTaken.rest = s.rest ∧ s.languageTaken.phraseStore = s.phraseStore ∧
    s.languageTaken.pending = s.pending := by
  unfold languageTaken; (repeat' split) <;> simp

@[simp] theorem setUp_keeps (s : State) (cfg : Settings) (kind : MachineKind) :
    (s.setUp cfg kind).timebase.station = s.timebase.station ∧
    (s.setUp cfg kind).agenda.ids = s.agenda.ids ∧
    (s.setUp cfg kind).agenda.nextTicket = s.agenda.nextTicket ∧
    (s.setUp cfg kind).agenda.basePage = s.agenda.basePage ∧
    (s.setUp cfg kind).floor.isolated = s.floor.isolated ∧
    (s.setUp cfg kind).roster.records = s.roster.records ∧
    (s.setUp cfg kind).flash.store = s.flash.store ∧ (s.setUp cfg kind).phraseStore = s.phraseStore ∧
    (s.setUp cfg kind).pending = s.pending := by
  unfold setUp; (repeat' split) <;> simp

@[simp] theorem setupEffect_keeps (s : State) (body : List Byte) :
    (s.setupEffect body).timebase.station = s.timebase.station ∧
    (s.setupEffect body).agenda.ids = s.agenda.ids ∧
    (s.setupEffect body).agenda.nextTicket = s.agenda.nextTicket ∧
    (s.setupEffect body).agenda.basePage = s.agenda.basePage ∧
    (s.setupEffect body).floor.isolated = s.floor.isolated ∧
    (s.setupEffect body).roster.records = s.roster.records ∧
    (s.setupEffect body).flash.store = s.flash.store ∧
    (s.setupEffect body).phraseStore = s.phraseStore ∧ (s.setupEffect body).pending = s.pending := by
  unfold setupEffect; (repeat' split) <;> simp

@[simp] theorem admitPost_keeps (s : State) (p : Post) :
    (s.admitPost p).timebase.station = s.timebase.station ∧ (s.admitPost p).machine = s.machine ∧
    (s.admitPost p).settings = s.settings ∧ (s.admitPost p).agenda.basePage = s.agenda.basePage ∧
    (s.admitPost p).floor.claims = s.floor.claims ∧ (s.admitPost p).floor.holders = s.floor.holders ∧
    (s.admitPost p).floor.isolated = s.floor.isolated ∧ (s.admitPost p).line = s.line ∧
    (s.admitPost p).roster = s.roster ∧ (s.admitPost p).flash.store = s.flash.store ∧
    (s.admitPost p).panel = s.panel ∧ (s.admitPost p).rest.part = s.rest.part ∧
    (s.admitPost p).rest.warm = s.rest.warm ∧ (s.admitPost p).phraseStore = s.phraseStore ∧
    (s.admitPost p).pending = s.pending := by
  unfold admitPost; (repeat' split) <;> simp

@[simp] theorem stagePost_keeps (s : State) (e : Entry) (p : Post) :
    (s.stagePost e p).timebase = s.timebase ∧ (s.stagePost e p).machine = s.machine ∧
    (s.stagePost e p).settings = s.settings ∧ (s.stagePost e p).agenda.basePage = s.agenda.basePage ∧
    (s.stagePost e p).floor = s.floor ∧ (s.stagePost e p).line = s.line ∧
    (s.stagePost e p).roster = s.roster ∧ (s.stagePost e p).flash.store = s.flash.store ∧
    (s.stagePost e p).display = s.display ∧ (s.stagePost e p).panel = s.panel ∧
    (s.stagePost e p).rest = s.rest ∧ (s.stagePost e p).phraseStore = s.phraseStore ∧
    (s.stagePost e p).pending = s.pending := by
  unfold stagePost; (repeat' split) <;> simp

@[simp] theorem displacePost_keeps (s : State) (p : Post) :
    (s.displacePost p).timebase.station = s.timebase.station ∧ (s.displacePost p).machine = s.machine ∧
    (s.displacePost p).settings = s.settings ∧ (s.displacePost p).agenda.basePage = s.agenda.basePage ∧
    (s.displacePost p).floor.claims = s.floor.claims ∧
    (s.displacePost p).floor.holders = s.floor.holders ∧
    (s.displacePost p).floor.isolated = s.floor.isolated ∧ (s.displacePost p).line = s.line ∧
    (s.displacePost p).roster = s.roster ∧ (s.displacePost p).flash.store = s.flash.store ∧
    (s.displacePost p).panel = s.panel ∧ (s.displacePost p).rest.part = s.rest.part ∧
    (s.displacePost p).rest.warm = s.rest.warm ∧ (s.displacePost p).phraseStore = s.phraseStore ∧
    (s.displacePost p).pending = s.pending := by
  unfold displacePost; (repeat' split) <;> simp

@[simp] theorem posted_keeps (s : State) (p : Post) :
    (s.posted p).timebase.station = s.timebase.station ∧ (s.posted p).machine = s.machine ∧
    (s.posted p).settings = s.settings ∧ (s.posted p).agenda.basePage = s.agenda.basePage ∧
    (s.posted p).floor.claims = s.floor.claims ∧ (s.posted p).floor.holders = s.floor.holders ∧
    (s.posted p).floor.isolated = s.floor.isolated ∧ (s.posted p).roster = s.roster ∧
    (s.posted p).flash.store = s.flash.store ∧ (s.posted p).panel = s.panel ∧
    (s.posted p).rest.part = s.rest.part ∧ (s.posted p).rest.warm = s.rest.warm ∧
    (s.posted p).phraseStore = s.phraseStore ∧ (s.posted p).pending = s.pending := by
  unfold posted; (repeat' split) <;> simp

@[simp] theorem postEffect_keeps (s : State) (body : List Byte) :
    (s.postEffect body).timebase.station = s.timebase.station ∧
    (s.postEffect body).machine = s.machine ∧ (s.postEffect body).settings = s.settings ∧
    (s.postEffect body).agenda.basePage = s.agenda.basePage ∧
    (s.postEffect body).floor.claims = s.floor.claims ∧
    (s.postEffect body).floor.holders = s.floor.holders ∧
    (s.postEffect body).floor.isolated = s.floor.isolated ∧ (s.postEffect body).roster = s.roster ∧
    (s.postEffect body).flash.store = s.flash.store ∧ (s.postEffect body).panel = s.panel ∧
    (s.postEffect body).rest.warm = s.rest.warm ∧ (s.postEffect body).phraseStore = s.phraseStore ∧
    (s.postEffect body).pending = s.pending := by
  unfold postEffect; (repeat' split) <;> simp

@[simp] theorem withdrawEntry_keeps (s : State) (e : Entry) :
    (s.withdrawEntry e).timebase.station = s.timebase.station ∧
    (s.withdrawEntry e).machine = s.machine ∧ (s.withdrawEntry e).settings = s.settings ∧
    (s.withdrawEntry e).agenda.nextTicket = s.agenda.nextTicket ∧
    (s.withdrawEntry e).agenda.basePage = s.agenda.basePage ∧
    (s.withdrawEntry e).floor.claims = s.floor.claims ∧
    (s.withdrawEntry e).floor.holders = s.floor.holders ∧
    (s.withdrawEntry e).floor.isolated = s.floor.isolated ∧ (s.withdrawEntry e).roster = s.roster ∧
    (s.withdrawEntry e).flash.store = s.flash.store ∧ (s.withdrawEntry e).panel = s.panel ∧
    (s.withdrawEntry e).rest.part = s.rest.part ∧ (s.withdrawEntry e).rest.warm = s.rest.warm ∧
    (s.withdrawEntry e).phraseStore = s.phraseStore ∧ (s.withdrawEntry e).pending = s.pending := by
  unfold withdrawEntry; (repeat' split) <;> simp

@[simp] theorem withdrawEffect_keeps (s : State) (body : List Byte) :
    (s.withdrawEffect body).timebase.station = s.timebase.station ∧
    (s.withdrawEffect body).machine = s.machine ∧ (s.withdrawEffect body).settings = s.settings ∧
    (s.withdrawEffect body).agenda.nextTicket = s.agenda.nextTicket ∧
    (s.withdrawEffect body).agenda.basePage = s.agenda.basePage ∧
    (s.withdrawEffect body).floor.claims = s.floor.claims ∧
    (s.withdrawEffect body).floor.holders = s.floor.holders ∧
    (s.withdrawEffect body).floor.isolated = s.floor.isolated ∧
    (s.withdrawEffect body).roster = s.roster ∧ (s.withdrawEffect body).flash.store = s.flash.store ∧
    (s.withdrawEffect body).panel = s.panel ∧ (s.withdrawEffect body).rest.part = s.rest.part ∧
    (s.withdrawEffect body).rest.warm = s.rest.warm ∧
    (s.withdrawEffect body).phraseStore = s.phraseStore ∧
    (s.withdrawEffect body).pending = s.pending := by
  simp only [withdrawEffect]; (repeat' split) <;> simp

@[simp] theorem machineWritten_keeps (s : State) (availability : Availability) (minutes progress : Nat) :
    (s.machineWritten availability minutes progress).timebase = s.timebase ∧
    (s.machineWritten availability minutes progress).host = s.host ∧
    (s.machineWritten availability minutes progress).settings = s.settings ∧
    (s.machineWritten availability minutes progress).agenda.ids = s.agenda.ids ∧
    (s.machineWritten availability minutes progress).agenda.nextTicket = s.agenda.nextTicket ∧
    (s.machineWritten availability minutes progress).agenda.basePage = s.agenda.basePage ∧
    (s.machineWritten availability minutes progress).floor = s.floor ∧
    (s.machineWritten availability minutes progress).roster.records = s.roster.records ∧
    (s.machineWritten availability minutes progress).flash.store = s.flash.store ∧
    (s.machineWritten availability minutes progress).renderer = s.renderer ∧
    (s.machineWritten availability minutes progress).level = s.level ∧
    (s.machineWritten availability minutes progress).panel = s.panel ∧
    (s.machineWritten availability minutes progress).rest = s.rest ∧
    (s.machineWritten availability minutes progress).phraseStore = s.phraseStore ∧
    (s.machineWritten availability minutes progress).pending = s.pending := by
  unfold machineWritten; (repeat' split) <;> simp

@[simp] theorem machineEffect_keeps (s : State) (body : List Byte) :
    (s.machineEffect body).timebase = s.timebase ∧ (s.machineEffect body).settings = s.settings ∧
    (s.machineEffect body).agenda.ids = s.agenda.ids ∧
    (s.machineEffect body).agenda.nextTicket = s.agenda.nextTicket ∧
    (s.machineEffect body).agenda.basePage = s.agenda.basePage ∧
    (s.machineEffect body).floor = s.floor ∧ (s.machineEffect body).roster.records = s.roster.records ∧
    (s.machineEffect body).flash.store = s.flash.store ∧ (s.machineEffect body).renderer = s.renderer ∧
    (s.machineEffect body).level = s.level ∧ (s.machineEffect body).panel = s.panel ∧
    (s.machineEffect body).rest = s.rest ∧ (s.machineEffect body).phraseStore = s.phraseStore ∧
    (s.machineEffect body).pending = s.pending := by
  unfold machineEffect; (repeat' split) <;> simp

@[simp] theorem basepageEffect_keeps (s : State) (body : List Byte) :
    (s.basepageEffect body).timebase = s.timebase ∧ (s.basepageEffect body).machine = s.machine ∧
    (s.basepageEffect body).settings = s.settings ∧ (s.basepageEffect body).agenda.ids = s.agenda.ids ∧
    (s.basepageEffect body).agenda.nextTicket = s.agenda.nextTicket ∧
    (s.basepageEffect body).floor = s.floor ∧ (s.basepageEffect body).line = s.line ∧
    (s.basepageEffect body).roster = s.roster ∧ (s.basepageEffect body).flash.store = s.flash.store ∧
    (s.basepageEffect body).renderer = s.renderer ∧ (s.basepageEffect body).level = s.level ∧
    (s.basepageEffect body).panel = s.panel ∧ (s.basepageEffect body).rest = s.rest ∧
    (s.basepageEffect body).phraseStore = s.phraseStore ∧
    (s.basepageEffect body).pending = s.pending := by
  simp only [basepageEffect]; (repeat' split) <;> simp

@[simp] theorem eventsEffect_keeps (s : State) (body : List Byte) :
    (s.eventsEffect body).timebase = s.timebase ∧ (s.eventsEffect body).machine = s.machine ∧
    (s.eventsEffect body).settings = s.settings ∧ (s.eventsEffect body).agenda = s.agenda ∧
    (s.eventsEffect body).floor = s.floor ∧ (s.eventsEffect body).line = s.line ∧
    (s.eventsEffect body).roster = s.roster ∧ (s.eventsEffect body).flash = s.flash ∧
    (s.eventsEffect body).renderer = s.renderer ∧ (s.eventsEffect body).level = s.level ∧
    (s.eventsEffect body).display = s.display ∧ (s.eventsEffect body).panel = s.panel ∧
    (s.eventsEffect body).rest = s.rest ∧ (s.eventsEffect body).phraseStore = s.phraseStore ∧
    (s.eventsEffect body).pending = s.pending := by
  unfold eventsEffect; (repeat' split) <;> simp

@[simp] theorem statusEffect_keeps (s : State) (body : List Byte) :
    (s.statusEffect body).timebase = s.timebase ∧ (s.statusEffect body).machine = s.machine ∧
    (s.statusEffect body).settings = s.settings ∧ (s.statusEffect body).agenda = s.agenda ∧
    (s.statusEffect body).floor = s.floor ∧ (s.statusEffect body).line = s.line ∧
    (s.statusEffect body).roster = s.roster ∧ (s.statusEffect body).flash = s.flash ∧
    (s.statusEffect body).renderer = s.renderer ∧ (s.statusEffect body).level = s.level ∧
    (s.statusEffect body).display = s.display ∧ (s.statusEffect body).panel = s.panel ∧
    (s.statusEffect body).events = s.events ∧ (s.statusEffect body).rest = s.rest ∧
    (s.statusEffect body).phraseStore = s.phraseStore ∧ (s.statusEffect body).pending = s.pending := by
  unfold statusEffect; (repeat' split) <;> simp

@[simp] theorem rosterEffect_keeps (s : State) (body : List Byte) :
    (s.rosterEffect body).timebase = s.timebase ∧ (s.rosterEffect body).machine = s.machine ∧
    (s.rosterEffect body).settings = s.settings ∧ (s.rosterEffect body).agenda = s.agenda ∧
    (s.rosterEffect body).floor = s.floor ∧ (s.rosterEffect body).line = s.line ∧
    (s.rosterEffect body).roster = s.roster ∧ (s.rosterEffect body).flash = s.flash ∧
    (s.rosterEffect body).renderer = s.renderer ∧ (s.rosterEffect body).level = s.level ∧
    (s.rosterEffect body).display = s.display ∧ (s.rosterEffect body).panel = s.panel ∧
    (s.rosterEffect body).events = s.events ∧ (s.rosterEffect body).rest = s.rest ∧
    (s.rosterEffect body).phraseStore = s.phraseStore ∧ (s.rosterEffect body).pending = s.pending := by
  unfold rosterEffect; (repeat' split) <;> simp

@[simp] theorem restStandbyEffect_keeps (s : State) (body : List Byte) :
    (s.restStandbyEffect body).timebase = s.timebase ∧ (s.restStandbyEffect body).machine = s.machine ∧
    (s.restStandbyEffect body).settings = s.settings ∧ (s.restStandbyEffect body).agenda = s.agenda ∧
    (s.restStandbyEffect body).floor.claims = s.floor.claims ∧
    (s.restStandbyEffect body).floor.holders = s.floor.holders ∧
    (s.restStandbyEffect body).floor.quietAge = s.floor.quietAge ∧
    (s.restStandbyEffect body).floor.isolated = s.floor.isolated ∧
    (s.restStandbyEffect body).line = s.line ∧ (s.restStandbyEffect body).roster = s.roster ∧
    (s.restStandbyEffect body).flash.store = s.flash.store ∧
    (s.restStandbyEffect body).level = s.level ∧ (s.restStandbyEffect body).panel = s.panel ∧
    (s.restStandbyEffect body).rest.warm = s.rest.warm ∧
    (s.restStandbyEffect body).phraseStore = s.phraseStore ∧
    (s.restStandbyEffect body).pending = s.pending := by
  unfold restStandbyEffect; (repeat' split) <;> simp

@[simp] theorem restDormantEffect_keeps (s : State) (body : List Byte) :
    (s.restDormantEffect body).timebase = s.timebase ∧ (s.restDormantEffect body).machine = s.machine ∧
    (s.restDormantEffect body).settings = s.settings ∧
    (s.restDormantEffect body).agenda.nextTicket = s.agenda.nextTicket ∧
    (s.restDormantEffect body).agenda.basePage = s.agenda.basePage ∧
    (s.restDormantEffect body).floor.claims = s.floor.claims ∧
    (s.restDormantEffect body).floor.holders = s.floor.holders ∧
    (s.restDormantEffect body).floor.isolated = s.floor.isolated ∧
    (s.restDormantEffect body).roster.records = s.roster.records ∧
    (s.restDormantEffect body).flash.store = s.flash.store ∧
    (s.restDormantEffect body).panel = s.panel ∧ (s.restDormantEffect body).rest.warm = s.rest.warm ∧
    (s.restDormantEffect body).phraseStore = s.phraseStore ∧
    (s.restDormantEffect body).pending = s.pending := by
  unfold restDormantEffect; (repeat' split) <;> simp

@[simp] theorem restActiveEffect_keeps (s : State) (body : List Byte) :
    (s.restActiveEffect body).timebase.station = s.timebase.station ∧
    (s.restActiveEffect body).machine = s.machine ∧ (s.restActiveEffect body).settings = s.settings ∧
    (s.restActiveEffect body).agenda.ids = s.agenda.ids ∧
    (s.restActiveEffect body).agenda.nextTicket = s.agenda.nextTicket ∧
    (s.restActiveEffect body).agenda.basePage = s.agenda.basePage ∧
    (s.restActiveEffect body).floor.claims = s.floor.claims ∧
    (s.restActiveEffect body).floor.holders = s.floor.holders ∧
    (s.restActiveEffect body).floor.isolated = s.floor.isolated ∧
    (s.restActiveEffect body).line = s.line ∧ (s.restActiveEffect body).roster = s.roster ∧
    (s.restActiveEffect body).flash.store = s.flash.store ∧ (s.restActiveEffect body).panel = s.panel ∧
    (s.restActiveEffect body).rest.warm = s.rest.warm ∧
    (s.restActiveEffect body).phraseStore = s.phraseStore ∧
    (s.restActiveEffect body).pending = s.pending := by
  unfold restActiveEffect; (repeat' split) <;> simp

@[simp] theorem sessionEndEffect_keeps (s : State) (body : List Byte) :
    (s.sessionEndEffect body).timebase = s.timebase ∧ (s.sessionEndEffect body).machine = s.machine ∧
    (s.sessionEndEffect body).settings = s.settings ∧
    (s.sessionEndEffect body).agenda.ids = s.agenda.ids ∧
    (s.sessionEndEffect body).agenda.nextTicket = s.agenda.nextTicket ∧
    (s.sessionEndEffect body).agenda.basePage = s.agenda.basePage ∧
    (s.sessionEndEffect body).floor = s.floor ∧ (s.sessionEndEffect body).line = s.line ∧
    (s.sessionEndEffect body).roster = s.roster ∧
    (s.sessionEndEffect body).flash.store = s.flash.store ∧
    (s.sessionEndEffect body).renderer = s.renderer ∧ (s.sessionEndEffect body).level = s.level ∧
    (s.sessionEndEffect body).panel.presence = s.panel.presence ∧
    (s.sessionEndEffect body).rest = s.rest ∧ (s.sessionEndEffect body).phraseStore = s.phraseStore ∧
    (s.sessionEndEffect body).pending = s.pending := by
  unfold sessionEndEffect; (repeat' split) <;> simp

@[simp] theorem answerUnnamed_keeps (s : State) (buffer : List Byte) :
    (s.answerUnnamed buffer).timebase = s.timebase ∧ (s.answerUnnamed buffer).machine = s.machine ∧
    (s.answerUnnamed buffer).settings = s.settings ∧ (s.answerUnnamed buffer).agenda = s.agenda ∧
    (s.answerUnnamed buffer).floor = s.floor ∧ (s.answerUnnamed buffer).line = s.line ∧
    (s.answerUnnamed buffer).roster = s.roster ∧ (s.answerUnnamed buffer).flash = s.flash ∧
    (s.answerUnnamed buffer).renderer = s.renderer ∧ (s.answerUnnamed buffer).level = s.level ∧
    (s.answerUnnamed buffer).display = s.display ∧ (s.answerUnnamed buffer).panel = s.panel ∧
    (s.answerUnnamed buffer).events = s.events ∧ (s.answerUnnamed buffer).rest = s.rest ∧
    (s.answerUnnamed buffer).phraseStore = s.phraseStore ∧
    (s.answerUnnamed buffer).pending = s.pending := by
  unfold answerUnnamed; (repeat' split) <;> simp

@[simp] theorem sent_keeps (s : State) (bytes : List Byte) :
    (s.sent bytes).timebase = s.timebase ∧ (s.sent bytes).machine = s.machine ∧
    (s.sent bytes).settings = s.settings ∧ (s.sent bytes).agenda = s.agenda ∧
    (s.sent bytes).floor = s.floor ∧ (s.sent bytes).line = s.line ∧ (s.sent bytes).roster = s.roster ∧
    (s.sent bytes).flash = s.flash ∧ (s.sent bytes).renderer = s.renderer ∧
    (s.sent bytes).level = s.level ∧ (s.sent bytes).display = s.display ∧
    (s.sent bytes).panel = s.panel ∧ (s.sent bytes).events = s.events ∧ (s.sent bytes).rest = s.rest ∧
    (s.sent bytes).phraseStore = s.phraseStore ∧ (s.sent bytes).pending = s.pending := by
  unfold sent; (repeat' split) <;> simp

@[simp] theorem writeTaken_keeps (s : State) (frame : List Byte) :
    (s.writeTaken frame).timebase = s.timebase ∧ (s.writeTaken frame).machine = s.machine ∧
    (s.writeTaken frame).settings = s.settings ∧ (s.writeTaken frame).agenda = s.agenda ∧
    (s.writeTaken frame).floor = s.floor ∧ (s.writeTaken frame).line = s.line ∧
    (s.writeTaken frame).roster = s.roster ∧ (s.writeTaken frame).flash = s.flash ∧
    (s.writeTaken frame).renderer = s.renderer ∧ (s.writeTaken frame).level = s.level ∧
    (s.writeTaken frame).display = s.display ∧ (s.writeTaken frame).panel = s.panel ∧
    (s.writeTaken frame).events = s.events ∧ (s.writeTaken frame).rest = s.rest ∧
    (s.writeTaken frame).phraseStore = s.phraseStore ∧ (s.writeTaken frame).pending = s.pending := by
  unfold writeTaken; (repeat' split) <;> simp

@[simp] theorem discarded_keeps (s : State) (bytes : Nat) :
    (s.discarded bytes).timebase = s.timebase ∧ (s.discarded bytes).machine = s.machine ∧
    (s.discarded bytes).settings = s.settings ∧ (s.discarded bytes).agenda = s.agenda ∧
    (s.discarded bytes).floor = s.floor ∧ (s.discarded bytes).line = s.line ∧
    (s.discarded bytes).roster = s.roster ∧ (s.discarded bytes).flash = s.flash ∧
    (s.discarded bytes).renderer = s.renderer ∧ (s.discarded bytes).level = s.level ∧
    (s.discarded bytes).display = s.display ∧ (s.discarded bytes).panel = s.panel ∧
    (s.discarded bytes).events = s.events ∧ (s.discarded bytes).rest = s.rest ∧
    (s.discarded bytes).phraseStore = s.phraseStore ∧ (s.discarded bytes).pending = s.pending := by
  unfold discarded; (repeat' split) <;> simp

@[simp] theorem written_keeps (s : State) (bytes : List Byte) :
    (s.written bytes).timebase = s.timebase ∧ (s.written bytes).machine = s.machine ∧
    (s.written bytes).settings = s.settings ∧ (s.written bytes).agenda = s.agenda ∧
    (s.written bytes).floor = s.floor ∧ (s.written bytes).line = s.line ∧
    (s.written bytes).roster = s.roster ∧ (s.written bytes).flash = s.flash ∧
    (s.written bytes).renderer = s.renderer ∧ (s.written bytes).level = s.level ∧
    (s.written bytes).display = s.display ∧ (s.written bytes).panel = s.panel ∧
    (s.written bytes).events = s.events ∧ (s.written bytes).rest = s.rest ∧
    (s.written bytes).phraseStore = s.phraseStore ∧ (s.written bytes).pending = s.pending := by
  unfold written; (repeat' split) <;> simp

@[simp] theorem read_keeps (s : State) (clocked : Nat) :
    (s.read clocked).timebase = s.timebase ∧ (s.read clocked).machine = s.machine ∧
    (s.read clocked).settings = s.settings ∧ (s.read clocked).agenda = s.agenda ∧
    (s.read clocked).floor = s.floor ∧ (s.read clocked).line = s.line ∧
    (s.read clocked).roster = s.roster ∧ (s.read clocked).flash = s.flash ∧
    (s.read clocked).renderer = s.renderer ∧ (s.read clocked).level = s.level ∧
    (s.read clocked).display = s.display ∧ (s.read clocked).panel = s.panel ∧
    (s.read clocked).events = s.events ∧ (s.read clocked).rest = s.rest ∧
    (s.read clocked).phraseStore = s.phraseStore ∧ (s.read clocked).pending = s.pending := by
  unfold read; (repeat' split) <;> simp

@[simp] theorem msCounted_keeps (s : State) :
    s.msCounted.timebase.station = s.timebase.station ∧ s.msCounted.host = s.host ∧
    s.msCounted.machine = s.machine ∧ s.msCounted.settings = s.settings ∧
    s.msCounted.agenda = s.agenda ∧ s.msCounted.floor.isolated = s.floor.isolated ∧
    s.msCounted.line.doneSlot = s.line.doneSlot ∧
    s.msCounted.line.talkSlot = s.line.talkSlot ∧ s.msCounted.line.beaconSlot = s.line.beaconSlot ∧
    s.msCounted.line.onLine = s.line.onLine ∧ s.msCounted.roster = s.roster ∧
    s.msCounted.flash.store = s.flash.store ∧ s.msCounted.renderer = s.renderer ∧
    s.msCounted.level = s.level ∧ s.msCounted.display = s.display ∧ s.msCounted.panel = s.panel ∧
    s.msCounted.events = s.events ∧ s.msCounted.rest.part = s.rest.part ∧
    s.msCounted.rest.warm = s.rest.warm ∧ s.msCounted.phraseStore = s.phraseStore ∧
    s.msCounted.pending = s.pending := by
  unfold msCounted; (repeat' split) <;> simp

@[simp] theorem tenthCounted_keeps (s : State) :
    s.tenthCounted.timebase = s.timebase ∧ s.tenthCounted.host = s.host ∧
    s.tenthCounted.machine = s.machine ∧ s.tenthCounted.settings = s.settings ∧
    s.tenthCounted.agenda.ids = s.agenda.ids ∧ s.tenthCounted.agenda.nextTicket = s.agenda.nextTicket ∧
    s.tenthCounted.agenda.basePage = s.agenda.basePage ∧ s.tenthCounted.floor = s.floor ∧
    s.tenthCounted.line = s.line ∧ s.tenthCounted.flash = s.flash ∧
    s.tenthCounted.renderer = s.renderer ∧ s.tenthCounted.level = s.level ∧
    s.tenthCounted.display = s.display ∧ s.tenthCounted.panel.presence = s.panel.presence ∧
    s.tenthCounted.panel.language = s.panel.language ∧ s.tenthCounted.events = s.events ∧
    s.tenthCounted.rest = s.rest ∧ s.tenthCounted.phraseStore = s.phraseStore ∧
    s.tenthCounted.pending = s.pending := by
  have h := ids_mapEntries s Entry.tenthTick (by simp)
  simp [tenthCounted, h]

@[simp] theorem msTicked_keeps (s : State) :
    s.msTicked.timebase.station = s.timebase.station ∧ s.msTicked.host = s.host ∧
    s.msTicked.machine = s.machine ∧ s.msTicked.settings = s.settings ∧
    s.msTicked.agenda.ids = s.agenda.ids ∧ s.msTicked.agenda.nextTicket = s.agenda.nextTicket ∧
    s.msTicked.agenda.basePage = s.agenda.basePage ∧ s.msTicked.floor.isolated = s.floor.isolated ∧
    s.msTicked.line.doneSlot = s.line.doneSlot ∧
    s.msTicked.line.talkSlot = s.line.talkSlot ∧ s.msTicked.line.beaconSlot = s.line.beaconSlot ∧
    s.msTicked.line.onLine = s.line.onLine ∧ s.msTicked.flash.store = s.flash.store ∧
    s.msTicked.renderer = s.renderer ∧ s.msTicked.level = s.level ∧ s.msTicked.display = s.display ∧
    s.msTicked.panel.presence = s.panel.presence ∧ s.msTicked.panel.language = s.panel.language ∧
    s.msTicked.events = s.events ∧ s.msTicked.rest.part = s.rest.part ∧
    s.msTicked.rest.warm = s.rest.warm ∧ s.msTicked.phraseStore = s.phraseStore ∧
    s.msTicked.pending = s.pending := by
  simp only [msTicked]; (repeat' split) <;> simp

@[simp] theorem idled_keeps (s : State) :
    s.idled.timebase.station = s.timebase.station ∧ s.idled.host = s.host ∧
    s.idled.machine = s.machine ∧ s.idled.settings = s.settings ∧ s.idled.agenda.ids = s.agenda.ids ∧
    s.idled.agenda.nextTicket = s.agenda.nextTicket ∧ s.idled.agenda.basePage = s.agenda.basePage ∧
    s.idled.floor.isolated = s.floor.isolated ∧ s.idled.line.doneSlot = s.line.doneSlot ∧
    s.idled.line.talkSlot = s.line.talkSlot ∧ s.idled.line.beaconSlot = s.line.beaconSlot ∧
    s.idled.line.onLine = s.line.onLine ∧
    s.idled.flash.store = s.flash.store ∧ s.idled.renderer = s.renderer ∧ s.idled.level = s.level ∧
    s.idled.display = s.display ∧ s.idled.panel.presence = s.panel.presence ∧
    s.idled.panel.language = s.panel.language ∧ s.idled.events = s.events ∧
    s.idled.rest.part = s.rest.part ∧ s.idled.rest.warm = s.rest.warm ∧
    s.idled.phraseStore = s.phraseStore ∧ s.idled.pending = s.pending := by
  unfold idled; (repeat' split) <;> simp

@[simp] theorem unsampledTaken_keeps (s : State) (levels : BitVec 8) :
    (s.unsampledTaken levels).timebase = s.timebase ∧ (s.unsampledTaken levels).host = s.host ∧
    (s.unsampledTaken levels).machine = s.machine ∧ (s.unsampledTaken levels).settings = s.settings ∧
    (s.unsampledTaken levels).agenda = s.agenda ∧ (s.unsampledTaken levels).floor = s.floor ∧
    (s.unsampledTaken levels).line = s.line ∧ (s.unsampledTaken levels).roster = s.roster ∧
    (s.unsampledTaken levels).flash = s.flash ∧ (s.unsampledTaken levels).renderer = s.renderer ∧
    (s.unsampledTaken levels).level = s.level ∧ (s.unsampledTaken levels).display = s.display ∧
    (s.unsampledTaken levels).panel.presence = s.panel.presence ∧
    (s.unsampledTaken levels).panel.language = s.panel.language ∧
    (s.unsampledTaken levels).events = s.events ∧ (s.unsampledTaken levels).rest = s.rest ∧
    (s.unsampledTaken levels).phraseStore = s.phraseStore ∧
    (s.unsampledTaken levels).pending = s.pending := by
  unfold unsampledTaken; (repeat' split) <;> simp

@[simp] theorem panelWoken_keeps (s : State) (levels : BitVec 8) :
    (s.panelWoken levels).timebase = s.timebase ∧ (s.panelWoken levels).host = s.host ∧
    (s.panelWoken levels).machine = s.machine ∧ (s.panelWoken levels).settings = s.settings ∧
    (s.panelWoken levels).agenda = s.agenda ∧ (s.panelWoken levels).floor = s.floor ∧
    (s.panelWoken levels).line = s.line ∧ (s.panelWoken levels).roster = s.roster ∧
    (s.panelWoken levels).flash = s.flash ∧ (s.panelWoken levels).renderer = s.renderer ∧
    (s.panelWoken levels).level = s.level ∧ (s.panelWoken levels).display = s.display ∧
    (s.panelWoken levels).panel.language = s.panel.language ∧ (s.panelWoken levels).events = s.events ∧
    (s.panelWoken levels).rest = s.rest ∧ (s.panelWoken levels).phraseStore = s.phraseStore ∧
    (s.panelWoken levels).pending = s.pending := by
  unfold panelWoken; (repeat' split) <;> simp

@[simp] theorem coldStarted_keeps (s : State) (stn : BitVec 5) (xsel : BitVec 2) :
    (s.coldStarted stn xsel).phraseStore = s.phraseStore ∧
    (s.coldStarted stn xsel).pending = s.pending := by
  exact ⟨rfl, rfl⟩

end Sys2Proof.Machine.State
end

