-- ==== Sys2Proof/Laws/Events.lean ====
section
/-! SUPPORT. Every operation but the cold reset and EVENTS only joins records to the event queue (10 R174). -/

namespace Sys2Proof.Machine

set_option linter.unnecessarySeqFocus false
set_option linter.unusedTactic false

theorem EventQueue.grewFrom_refl (q : EventQueue) : q.grewFrom q :=
  ⟨List.prefix_refl _, fun b => ⟨b, Nat.le_refl _⟩⟩

theorem EventQueue.grewFrom_trans {a b c : EventQueue} (h : c.grewFrom b) (g : b.grewFrom a) :
    c.grewFrom a :=
  ⟨g.1.trans h.1, fun x => ⟨(h.2 (g.2 x).1).1, Nat.le_trans (g.2 x).2 (h.2 (g.2 x).1).2⟩⟩

namespace State

/-- An offer (10 R174): the record joins while there is room, and is counted otherwise. -/
theorem offer_events_grew (s : State) (r : EventRecord) : (s.offer r).events.grewFrom s.events := by
  unfold offer
  split
  · rename_i room
    refine ⟨by simp, fun b => ⟨⟨?_, b.2⟩, Nat.le_refl _⟩⟩
    simp only [setEvents_events, List.length_append, List.length_singleton]
    omega
  · refine ⟨by simp, fun b => ⟨⟨b.1, ?_⟩, ?_⟩⟩
    · simp only [setEvents_events]; exact Nat.min_le_left _ _
    · have := b.2
      simp only [setEvents_events]
      omega

@[simp] theorem offer_grew (s : State) (r : EventRecord) (q : EventQueue)
    (hq : s.events.grewFrom q) : (s.offer r).events.grewFrom q :=
  EventQueue.grewFrom_trans (s.offer_events_grew r) hq

@[simp] theorem reportPage_grew (s : State) (snap : Snapshot) (q : EventQueue)
    (hq : s.events.grewFrom q) : (s.reportPage snap).events.grewFrom q := by
  unfold reportPage; (repeat' split) <;> simp -implicitDefEqProofs (maxDischargeDepth := 20) [hq]

@[simp] theorem drawSoFar_grew (s : State) (snap : Snapshot) (drawn : Drawn) (q : EventQueue)
    (hq : s.events.grewFrom q) : (s.drawSoFar snap drawn).events.grewFrom q := by
  unfold drawSoFar; (repeat' split) <;> simp -implicitDefEqProofs (maxDischargeDepth := 20) [hq]

@[simp] theorem advanceCompose_grew (s : State) (q : EventQueue)
    (hq : s.events.grewFrom q) : s.advanceCompose.events.grewFrom q := by
  unfold advanceCompose; (repeat' split) <;> simp -implicitDefEqProofs (maxDischargeDepth := 20) [hq]

@[simp] theorem startCompose_grew (s : State) (q : EventQueue)
    (hq : s.events.grewFrom q) : s.startCompose.events.grewFrom q := by
  unfold startCompose; (repeat' split) <;> simp -implicitDefEqProofs (maxDischargeDepth := 20) [hq]

@[simp] theorem cause_grew (s : State) (q : EventQueue)
    (hq : s.events.grewFrom q) : s.cause.events.grewFrom q := by
  unfold cause; (repeat' split) <;> simp -implicitDefEqProofs (maxDischargeDepth := 20) [hq]

@[simp] theorem selectOwner_grew (s : State) (q : EventQueue)
    (hq : s.events.grewFrom q) : s.selectOwner.events.grewFrom q := by
  unfold selectOwner; (repeat' split) <;> simp -implicitDefEqProofs (maxDischargeDepth := 20) [hq]

@[simp] theorem bindingCause_grew (s : State) (ticket : Nat) (q : EventQueue)
    (hq : s.events.grewFrom q) : (s.bindingCause ticket).events.grewFrom q := by
  unfold bindingCause; (repeat' split) <;> simp -implicitDefEqProofs (maxDischargeDepth := 20) [hq]

@[simp] theorem reportPhrase_grew (s : State) (ticket phrase : Nat) (q : EventQueue)
    (hq : s.events.grewFrom q) : (s.reportPhrase ticket phrase).events.grewFrom q := by
  unfold reportPhrase; (repeat' split) <;> simp -implicitDefEqProofs (maxDischargeDepth := 20) [hq]

@[simp] theorem reportMissing_grew (s : State) (ticket : Nat) (missing : LookupNote) (q : EventQueue)
    (hq : s.events.grewFrom q) : (s.reportMissing ticket missing).events.grewFrom q := by
  unfold reportMissing; (repeat' split) <;> simp -implicitDefEqProofs (maxDischargeDepth := 20) [hq]

@[simp] theorem advanceLookup_grew (s : State) (q : EventQueue)
    (hq : s.events.grewFrom q) : s.advanceLookup.events.grewFrom q := by
  unfold advanceLookup; (repeat' split) <;> simp -implicitDefEqProofs (maxDischargeDepth := 20) [hq]

@[simp] theorem startLookup_grew (s : State) (p : Play) (index : Nat) (q : EventQueue)
    (hq : s.events.grewFrom q) : (s.startLookup p index).events.grewFrom q := by
  unfold startLookup; (repeat' split) <;> simp -implicitDefEqProofs (maxDischargeDepth := 20) [hq]

@[simp] theorem startPlay_grew (s : State) (e : Entry) (route : Route) (q : EventQueue)
    (hq : s.events.grewFrom q) : (s.startPlay e route).events.grewFrom q := by
  unfold startPlay; (repeat' split) <;> simp -implicitDefEqProofs (maxDischargeDepth := 20) [hq]

@[simp] theorem isolatedStart_grew (s : State) (e : Entry) (q : EventQueue)
    (hq : s.events.grewFrom q) : (s.isolatedStart e).events.grewFrom q := by
  unfold isolatedStart; (repeat' split) <;> simp -implicitDefEqProofs (maxDischargeDepth := 20) [hq]

@[simp] theorem localStart_grew (s : State) (q : EventQueue)
    (hq : s.events.grewFrom q) : s.localStart.events.grewFrom q := by
  unfold localStart; (repeat' split) <;> simp -implicitDefEqProofs (maxDischargeDepth := 20) [hq]

@[simp] theorem floorTest_grew (s : State) (q : EventQueue)
    (hq : s.events.grewFrom q) : s.floorTest.events.grewFrom q := by
  unfold floorTest; (repeat' split) <;> simp -implicitDefEqProofs (maxDischargeDepth := 20) [hq]

@[simp] theorem followUp_grew (s : State) (q : EventQueue)
    (hq : s.events.grewFrom q) : s.followUp.events.grewFrom q := by
  unfold followUp; (repeat' split) <;> simp -implicitDefEqProofs (maxDischargeDepth := 20) [hq]

@[simp] theorem admission_grew (s : State) (p : Post) (ticket : Nat) (q : EventQueue)
    (hq : s.events.grewFrom q) : (s.admission p ticket).events.grewFrom q := by
  unfold admission; (repeat' split) <;> simp -implicitDefEqProofs (maxDischargeDepth := 20) [hq]

@[simp] theorem retireSuccessor_grew (s : State) (successor : Option Successor) (outcome : Retirement) (q : EventQueue)
    (hq : s.events.grewFrom q) : (s.retireSuccessor successor outcome).events.grewFrom q := by
  unfold retireSuccessor; (repeat' split) <;> simp -implicitDefEqProofs (maxDischargeDepth := 20) [hq]

@[simp] theorem leaveEntry_grew (s : State) (e : Entry) (outcome : Retirement) (q : EventQueue)
    (hq : s.events.grewFrom q) : (s.leaveEntry e outcome).events.grewFrom q := by
  unfold leaveEntry; simp -implicitDefEqProofs (maxDischargeDepth := 20) [hq]

@[simp] theorem dropEntry_grew (s : State) (e : Entry) (outcome : Retirement) (q : EventQueue)
    (hq : s.events.grewFrom q) : (s.dropEntry e outcome).events.grewFrom q := by
  unfold dropEntry; (repeat' split) <;> simp -implicitDefEqProofs (maxDischargeDepth := 20) [hq]

@[simp] theorem retireEntry_grew (s : State) (e : Entry) (outcome : Retirement) (q : EventQueue)
    (hq : s.events.grewFrom q) : (s.retireEntry e outcome).events.grewFrom q := by
  unfold retireEntry; (repeat' split) <;> simp -implicitDefEqProofs (maxDischargeDepth := 20) [hq]

@[simp] theorem dropPlayed_grew (s : State) (e : Entry) (outcome : Retirement) (q : EventQueue)
    (hq : s.events.grewFrom q) : (s.dropPlayed e outcome).events.grewFrom q := by
  unfold dropPlayed; (repeat' split) <;> simp -implicitDefEqProofs (maxDischargeDepth := 20) [hq]

@[simp] theorem entryPlayed_grew (s : State) (e : Entry) (q : EventQueue)
    (hq : s.events.grewFrom q) : (s.entryPlayed e).events.grewFrom q := by
  unfold entryPlayed; (repeat' split) <;> simp -implicitDefEqProofs (maxDischargeDepth := 20) [hq]

@[simp] theorem agendaPlayEnd_grew (s : State) (report : EndReport) (q : EventQueue)
    (hq : s.events.grewFrom q) : (s.agendaPlayEnd report).events.grewFrom q := by
  unfold agendaPlayEnd; (repeat' split) <;> simp -implicitDefEqProofs (maxDischargeDepth := 20) [hq]

@[simp] theorem playEnded_grew (s : State) (report : EndReport) (q : EventQueue)
    (hq : s.events.grewFrom q) : (s.playEnded report).events.grewFrom q := by
  unfold playEnded; (repeat' split) <;> simp -implicitDefEqProofs (maxDischargeDepth := 20) [hq]

@[simp] theorem isolateReport_grew (s : State) (q : EventQueue)
    (hq : s.events.grewFrom q) : s.isolateReport.events.grewFrom q := by
  unfold isolateReport; (repeat' split) <;> simp -implicitDefEqProofs (maxDischargeDepth := 20) [hq]

@[simp] theorem lineGood_grew (s : State) (q : EventQueue)
    (hq : s.events.grewFrom q) : s.lineGood.events.grewFrom q := by
  unfold lineGood; (repeat' split) <;> simp -implicitDefEqProofs (maxDischargeDepth := 20) [hq]

@[simp] theorem sessionReset_grew (s : State) (q : EventQueue)
    (hq : s.events.grewFrom q) : s.sessionReset.events.grewFrom q := by
  simp only [sessionReset]; (repeat' split) <;> simp -implicitDefEqProofs (maxDischargeDepth := 20) [hq]

@[simp] theorem enterActive_grew (s : State) (q : EventQueue)
    (hq : s.events.grewFrom q) : s.enterActive.events.grewFrom q := by
  unfold enterActive; (repeat' split) <;> simp -implicitDefEqProofs (maxDischargeDepth := 20) [hq]

@[simp] theorem returnActive_grew (s : State) (q : EventQueue)
    (hq : s.events.grewFrom q) : s.returnActive.events.grewFrom q := by
  unfold returnActive; (repeat' split) <;> simp -implicitDefEqProofs (maxDischargeDepth := 20) [hq]

@[simp] theorem enterStandby_grew (s : State) (q : EventQueue)
    (hq : s.events.grewFrom q) : s.enterStandby.events.grewFrom q := by
  unfold enterStandby; (repeat' split) <;> simp -implicitDefEqProofs (maxDischargeDepth := 20) [hq]

@[simp] theorem startBid_grew (s : State) (ticket : Nat) (q : EventQueue)
    (hq : s.events.grewFrom q) : (s.startBid ticket).events.grewFrom q := by
  unfold startBid; (repeat' split) <;> simp -implicitDefEqProofs (maxDischargeDepth := 20) [hq]

@[simp] theorem floorSent_grew (s : State) (kind : FrameKind) (q : EventQueue)
    (hq : s.events.grewFrom q) : (s.floorSent kind).events.grewFrom q := by
  unfold floorSent; (repeat' split) <;> simp -implicitDefEqProofs (maxDischargeDepth := 20) [hq]

@[simp] theorem settleTicked_grew (s : State) (q : EventQueue)
    (hq : s.events.grewFrom q) : s.settleTicked.events.grewFrom q := by
  unfold settleTicked; (repeat' split) <;> simp -implicitDefEqProofs (maxDischargeDepth := 20) [hq]

@[simp] theorem claimFor_grew (s : State) (e : Entry) (q : EventQueue)
    (hq : s.events.grewFrom q) : (s.claimFor e).events.grewFrom q := by
  unfold claimFor; (repeat' split) <;> simp -implicitDefEqProofs (maxDischargeDepth := 20) [hq]

@[simp] theorem settleCompleted_grew (s : State) (q : EventQueue)
    (hq : s.events.grewFrom q) : s.settleCompleted.events.grewFrom q := by
  unfold settleCompleted; (repeat' split) <;> simp -implicitDefEqProofs (maxDischargeDepth := 20) [hq]

@[simp] theorem windowExpired_grew (s : State) (q : EventQueue)
    (hq : s.events.grewFrom q) : s.windowExpired.events.grewFrom q := by
  unfold windowExpired; (repeat' split) <;> simp -implicitDefEqProofs (maxDischargeDepth := 20) [hq]

@[simp] theorem claimAged_grew (s : State) (station : Nat) (q : EventQueue)
    (hq : s.events.grewFrom q) : (s.claimAged station).events.grewFrom q := by
  unfold claimAged; (repeat' split) <;> simp -implicitDefEqProofs (maxDischargeDepth := 20) [hq]

@[simp] theorem holdAged_grew (s : State) (station : Nat) (q : EventQueue)
    (hq : s.events.grewFrom q) : (s.holdAged station).events.grewFrom q := by
  unfold holdAged; (repeat' split) <;> simp -implicitDefEqProofs (maxDischargeDepth := 20) [hq]

@[simp] theorem countAbandon_grew (s : State) (q : EventQueue)
    (hq : s.events.grewFrom q) : s.countAbandon.events.grewFrom q := by
  unfold countAbandon; (repeat' split) <;> simp -implicitDefEqProofs (maxDischargeDepth := 20) [hq]

@[simp] theorem abandonFrame_grew (s : State) (name : SlotName) (kind : FrameKind) (q : EventQueue)
    (hq : s.events.grewFrom q) : (s.abandonFrame name kind).events.grewFrom q := by
  unfold abandonFrame; (repeat' split) <;> simp -implicitDefEqProofs (maxDischargeDepth := 20) [hq]

@[simp] theorem transmitFailed_grew (s : State) (q : EventQueue)
    (hq : s.events.grewFrom q) : s.transmitFailed.events.grewFrom q := by
  simp only [transmitFailed]; (repeat' split) <;> simp -implicitDefEqProofs (maxDischargeDepth := 20) [hq]

@[simp] theorem frameSent_grew (s : State) (q : EventQueue)
    (hq : s.events.grewFrom q) : s.frameSent.events.grewFrom q := by
  simp only [frameSent]; (repeat' split) <;> simp -implicitDefEqProofs (maxDischargeDepth := 20) [hq]

@[simp] theorem duplicateTaken_grew (s : State) (q : EventQueue)
    (hq : s.events.grewFrom q) : s.duplicateTaken.events.grewFrom q := by
  unfold duplicateTaken; (repeat' split) <;> simp -implicitDefEqProofs (maxDischargeDepth := 20) [hq]

@[simp] theorem takeHeard_grew (s : State) (h : Heard) (own : Bool) (q : EventQueue)
    (hq : s.events.grewFrom q) : (s.takeHeard h own).events.grewFrom q := by
  unfold takeHeard; (repeat' split) <;> simp -implicitDefEqProofs (maxDischargeDepth := 20) [hq]

@[simp] theorem frameHeard_grew (s : State) (chars : List Byte) (q : EventQueue)
    (hq : s.events.grewFrom q) : (s.frameHeard chars).events.grewFrom q := by
  unfold frameHeard; (repeat' split) <;> simp -implicitDefEqProofs (maxDischargeDepth := 20) [hq]

@[simp] theorem lineHeld_grew (s : State) (q : EventQueue)
    (hq : s.events.grewFrom q) : s.lineHeld.events.grewFrom q := by
  unfold lineHeld; (repeat' split) <;> simp -implicitDefEqProofs (maxDischargeDepth := 20) [hq]

@[simp] theorem secondTicked_grew (s : State) (q : EventQueue)
    (hq : s.events.grewFrom q) : s.secondTicked.events.grewFrom q := by
  unfold secondTicked; (repeat' split) <;> simp -implicitDefEqProofs (maxDischargeDepth := 20) [hq]

@[simp] theorem cadenceExpired_grew (s : State) (ticket : Nat) (q : EventQueue)
    (hq : s.events.grewFrom q) : (s.cadenceExpired ticket).events.grewFrom q := by
  unfold cadenceExpired; (repeat' split) <;> simp -implicitDefEqProofs (maxDischargeDepth := 20) [hq]

@[simp] theorem expiryTaken_grew (s : State) (ticket : Nat) (q : EventQueue)
    (hq : s.events.grewFrom q) : (s.expiryTaken ticket).events.grewFrom q := by
  unfold expiryTaken; (repeat' split) <;> simp -implicitDefEqProofs (maxDischargeDepth := 20) [hq]

@[simp] theorem lookupData_grew (s : State) (data : List Byte) (q : EventQueue)
    (hq : s.events.grewFrom q) : (s.lookupData data).events.grewFrom q := by
  unfold lookupData; (repeat' split) <;> simp -implicitDefEqProofs (maxDischargeDepth := 20) [hq]

@[simp] theorem composeData_grew (s : State) (data : List Byte) (q : EventQueue)
    (hq : s.events.grewFrom q) : (s.composeData data).events.grewFrom q := by
  unfold composeData; (repeat' split) <;> simp -implicitDefEqProofs (maxDischargeDepth := 20) [hq]

@[simp] theorem deliver_grew (s : State) (purpose : ReadFor) (data : List Byte) (q : EventQueue)
    (hq : s.events.grewFrom q) : (s.deliver purpose data).events.grewFrom q := by
  unfold deliver; (repeat' split) <;> simp -implicitDefEqProofs (maxDischargeDepth := 20) [hq]

@[simp] theorem readDone_grew (s : State) (q : EventQueue)
    (hq : s.events.grewFrom q) : s.readDone.events.grewFrom q := by
  unfold readDone; (repeat' split) <;> simp -implicitDefEqProofs (maxDischargeDepth := 20) [hq]

@[simp] theorem storeJudged_grew (s : State) (store : Store) (q : EventQueue)
    (hq : s.events.grewFrom q) : (s.storeJudged store).events.grewFrom q := by
  simp only [storeJudged]; (repeat' split) <;> simp -implicitDefEqProofs (maxDischargeDepth := 20) [hq]

@[simp] theorem directoryJudged_grew (s : State) (q : EventQueue)
    (hq : s.events.grewFrom q) : s.directoryJudged.events.grewFrom q := by
  unfold directoryJudged; (repeat' split) <;> simp -implicitDefEqProofs (maxDischargeDepth := 20) [hq]

@[simp] theorem beginItem_grew (s : State) (p : Play) (index : Nat) (q : EventQueue)
    (hq : s.events.grewFrom q) : (s.beginItem p index).events.grewFrom q := by
  unfold beginItem; (repeat' split) <;> simp -implicitDefEqProofs (maxDischargeDepth := 20) [hq]

@[simp] theorem enterGap_grew (s : State) (p : Play) (q : EventQueue)
    (hq : s.events.grewFrom q) : (s.enterGap p).events.grewFrom q := by
  unfold enterGap; (repeat' split) <;> simp -implicitDefEqProofs (maxDischargeDepth := 20) [hq]

@[simp] theorem endItem_grew (s : State) (p : Play) (kind : ItemKind) (q : EventQueue)
    (hq : s.events.grewFrom q) : (s.endItem p kind).events.grewFrom q := by
  unfold endItem; (repeat' split) <;> simp -implicitDefEqProofs (maxDischargeDepth := 20) [hq]

@[simp] theorem leadExpired_grew (s : State) (q : EventQueue)
    (hq : s.events.grewFrom q) : s.leadExpired.events.grewFrom q := by
  unfold leadExpired; (repeat' split) <;> simp -implicitDefEqProofs (maxDischargeDepth := 20) [hq]

@[simp] theorem itemEnded_grew (s : State) (kind : ItemKind) (q : EventQueue)
    (hq : s.events.grewFrom q) : (s.itemEnded kind).events.grewFrom q := by
  unfold itemEnded; (repeat' split) <;> simp -implicitDefEqProofs (maxDischargeDepth := 20) [hq]

@[simp] theorem speechItemEnded_grew (s : State) (q : EventQueue)
    (hq : s.events.grewFrom q) : s.speechItemEnded.events.grewFrom q := by
  unfold speechItemEnded; (repeat' split) <;> simp -implicitDefEqProofs (maxDischargeDepth := 20) [hq]

@[simp] theorem patternEnded_grew (s : State) (q : EventQueue)
    (hq : s.events.grewFrom q) : s.patternEnded.events.grewFrom q := by
  unfold patternEnded; (repeat' split) <;> simp -implicitDefEqProofs (maxDischargeDepth := 20) [hq]

@[simp] theorem pauseExpired_grew (s : State) (q : EventQueue)
    (hq : s.events.grewFrom q) : s.pauseExpired.events.grewFrom q := by
  unfold pauseExpired; (repeat' split) <;> simp -implicitDefEqProofs (maxDischargeDepth := 20) [hq]

@[simp] theorem gapExpired_grew (s : State) (q : EventQueue)
    (hq : s.events.grewFrom q) : s.gapExpired.events.grewFrom q := by
  unfold gapExpired; (repeat' split) <;> simp -implicitDefEqProofs (maxDischargeDepth := 20) [hq]

@[simp] theorem endReported_grew (s : State) (report : EndReport) (q : EventQueue)
    (hq : s.events.grewFrom q) : (s.endReported report).events.grewFrom q := by
  unfold endReported; simp -implicitDefEqProofs (maxDischargeDepth := 20) [hq]

@[simp] theorem tailExpired_grew (s : State) (q : EventQueue)
    (hq : s.events.grewFrom q) : s.tailExpired.events.grewFrom q := by
  unfold tailExpired; (repeat' split) <;> simp -implicitDefEqProofs (maxDischargeDepth := 20) [hq]

@[simp] theorem fadeExpired_grew (s : State) (q : EventQueue)
    (hq : s.events.grewFrom q) : s.fadeExpired.events.grewFrom q := by
  unfold fadeExpired; (repeat' split) <;> simp -implicitDefEqProofs (maxDischargeDepth := 20) [hq]

@[simp] theorem swapped_grew (s : State) (q : EventQueue)
    (hq : s.events.grewFrom q) : s.swapped.events.grewFrom q := by
  unfold swapped; (repeat' split) <;> simp -implicitDefEqProofs (maxDischargeDepth := 20) [hq]

@[simp] theorem frameBegun_grew (s : State) (q : EventQueue)
    (hq : s.events.grewFrom q) : s.frameBegun.events.grewFrom q := by
  unfold frameBegun; (repeat' split) <;> simp -implicitDefEqProofs (maxDischargeDepth := 20) [hq]

@[simp] theorem languagePressed_grew (s : State) (q : EventQueue)
    (hq : s.events.grewFrom q) : s.languagePressed.events.grewFrom q := by
  simp only [languagePressed]; (repeat' split) <;> simp -implicitDefEqProofs (maxDischargeDepth := 20) [hq]

@[simp] theorem acknowledgePressed_grew (s : State) (q : EventQueue)
    (hq : s.events.grewFrom q) : s.acknowledgePressed.events.grewFrom q := by
  unfold acknowledgePressed; (repeat' split) <;> simp -implicitDefEqProofs (maxDischargeDepth := 20) [hq]

@[simp] theorem keyEffect_grew (s : State) (role : Role) (q : EventQueue)
    (hq : s.events.grewFrom q) : (s.keyEffect role).events.grewFrom q := by
  cases role <;> simp -implicitDefEqProofs (maxDischargeDepth := 20) [keyEffect, hq]

@[simp] theorem pressed_grew (s : State) (line : Nat) (q : EventQueue)
    (hq : s.events.grewFrom q) : (s.pressed line).events.grewFrom q := by
  unfold pressed; (repeat' split) <;> simp -implicitDefEqProofs (maxDischargeDepth := 20) [hq]

@[simp] theorem keysJudged_grew (s : State) (q : EventQueue)
    (hq : s.events.grewFrom q) : s.keysJudged.events.grewFrom q := by
  unfold keysJudged; (repeat' split) <;> simp -implicitDefEqProofs (maxDischargeDepth := 20) [hq]

@[simp] theorem retireAll_grew (s : State) (outcome : Retirement) (es : List Entry) (q : EventQueue)
    (hq : s.events.grewFrom q) : (s.retireAll outcome es).events.grewFrom q := by
  induction es generalizing s with
  | nil => simpa -implicitDefEqProofs (maxDischargeDepth := 20) [retireAll] using hq
  | cons e es ih => simpa -implicitDefEqProofs (maxDischargeDepth := 20) [retireAll] using ih (s.retireEntry e outcome) (by simp -implicitDefEqProofs (maxDischargeDepth := 20) [hq])

@[simp] theorem doorEdge_grew (s : State) (line : Nat) (door : Door) (q : EventQueue)
    (hq : s.events.grewFrom q) : (s.doorEdge line door).events.grewFrom q := by
  unfold doorEdge; (repeat' split) <;> simp -implicitDefEqProofs (maxDischargeDepth := 20) [hq]

@[simp] theorem doorJudged_grew (s : State) (q : EventQueue)
    (hq : s.events.grewFrom q) : s.doorJudged.events.grewFrom q := by
  unfold doorJudged; (repeat' split) <;> simp -implicitDefEqProofs (maxDischargeDepth := 20) [hq]

@[simp] theorem arrived_grew (s : State) (line : Nat) (q : EventQueue)
    (hq : s.events.grewFrom q) : (s.arrived line).events.grewFrom q := by
  unfold arrived; (repeat' split) <;> simp -implicitDefEqProofs (maxDischargeDepth := 20) [hq]

@[simp] theorem presenceLeavesRest_grew (s : State) (line : Nat) (q : EventQueue)
    (hq : s.events.grewFrom q) : (s.presenceLeavesRest line).events.grewFrom q := by
  unfold presenceLeavesRest; (repeat' split) <;> simp -implicitDefEqProofs (maxDischargeDepth := 20) [hq]

@[simp] theorem presenceJudged_grew (s : State) (line : Nat) (wasAtRest : Bool) (q : EventQueue)
    (hq : s.events.grewFrom q) : (s.presenceJudged line wasAtRest).events.grewFrom q := by
  unfold presenceJudged; (repeat' split) <;> simp -implicitDefEqProofs (maxDischargeDepth := 20) [hq]

@[simp] theorem panelJudged_grew (s : State) (before : Panel) (q : EventQueue)
    (hq : s.events.grewFrom q) : (s.panelJudged before).events.grewFrom q := by
  unfold panelJudged; (repeat' split) <;> simp -implicitDefEqProofs (maxDischargeDepth := 20) [hq]

@[simp] theorem panelSampled_grew (s : State) (levels : BitVec 8) (q : EventQueue)
    (hq : s.events.grewFrom q) : (s.panelSampled levels).events.grewFrom q := by
  unfold panelSampled; (repeat' split) <;> simp -implicitDefEqProofs (maxDischargeDepth := 20) [hq]

@[simp] theorem presenceHoldExpired_grew (s : State) (q : EventQueue)
    (hq : s.events.grewFrom q) : s.presenceHoldExpired.events.grewFrom q := by
  unfold presenceHoldExpired; (repeat' split) <;> simp -implicitDefEqProofs (maxDischargeDepth := 20) [hq]

@[simp] theorem sessionTimedOut_grew (s : State) (q : EventQueue)
    (hq : s.events.grewFrom q) : s.sessionTimedOut.events.grewFrom q := by
  unfold sessionTimedOut; (repeat' split) <;> simp -implicitDefEqProofs (maxDischargeDepth := 20) [hq]

@[simp] theorem idleExpired_grew (s : State) (q : EventQueue)
    (hq : s.events.grewFrom q) : s.idleExpired.events.grewFrom q := by
  unfold idleExpired; (repeat' split) <;> simp -implicitDefEqProofs (maxDischargeDepth := 20) [hq]

@[simp] theorem offerAll_grew (s : State) (records : List EventRecord) (q : EventQueue)
    (hq : s.events.grewFrom q) : (s.offerAll records).events.grewFrom q := by
  induction records generalizing s with
  | nil => simpa -implicitDefEqProofs (maxDischargeDepth := 20) [offerAll] using hq
  | cons r rs ih => simpa -implicitDefEqProofs (maxDischargeDepth := 20) [offerAll] using ih (s.offer r) (by simp -implicitDefEqProofs (maxDischargeDepth := 20) [hq])

@[simp] theorem retireRested_grew (s : State) (q : EventQueue)
    (hq : s.events.grewFrom q) : s.retireRested.events.grewFrom q := by
  unfold retireRested; (repeat' split) <;> simp -implicitDefEqProofs (maxDischargeDepth := 20) [hq]

@[simp] theorem enterSettling_grew (s : State) (q : EventQueue)
    (hq : s.events.grewFrom q) : s.enterSettling.events.grewFrom q := by
  unfold enterSettling; (repeat' split) <;> simp -implicitDefEqProofs (maxDischargeDepth := 20) [hq]

@[simp] theorem settlingRanOut_grew (s : State) (q : EventQueue)
    (hq : s.events.grewFrom q) : s.settlingRanOut.events.grewFrom q := by
  unfold settlingRanOut; (repeat' split) <;> simp -implicitDefEqProofs (maxDischargeDepth := 20) [hq]

@[simp] theorem wokenBy_grew (s : State) (source : WakeSource) (q : EventQueue)
    (hq : s.events.grewFrom q) : (s.wokenBy source).events.grewFrom q := by
  unfold wokenBy; (repeat' split) <;> simp -implicitDefEqProofs (maxDischargeDepth := 20) [hq]

@[simp] theorem selectFell_grew (s : State) (pin : Level) (q : EventQueue)
    (hq : s.events.grewFrom q) : (s.selectFell pin).events.grewFrom q := by
  unfold selectFell; (repeat' split) <;> simp -implicitDefEqProofs (maxDischargeDepth := 20) [hq]

@[simp] theorem wakeTaken_grew (s : State) (event : WakeEvent) (q : EventQueue)
    (hq : s.events.grewFrom q) : (s.wakeTaken event).events.grewFrom q := by
  unfold wakeTaken; (repeat' split) <;> simp -implicitDefEqProofs (maxDischargeDepth := 20) [hq]

@[simp] theorem setUp_grew (s : State) (cfg : Settings) (kind : MachineKind) (q : EventQueue)
    (hq : s.events.grewFrom q) : (s.setUp cfg kind).events.grewFrom q := by
  unfold setUp; (repeat' split) <;> simp -implicitDefEqProofs (maxDischargeDepth := 20) [hq]

@[simp] theorem setupEffect_grew (s : State) (body : List Byte) (q : EventQueue)
    (hq : s.events.grewFrom q) : (s.setupEffect body).events.grewFrom q := by
  unfold setupEffect; (repeat' split) <;> simp -implicitDefEqProofs (maxDischargeDepth := 20) [hq]

@[simp] theorem admitPost_grew (s : State) (p : Post) (q : EventQueue)
    (hq : s.events.grewFrom q) : (s.admitPost p).events.grewFrom q := by
  unfold admitPost; (repeat' split) <;> simp -implicitDefEqProofs (maxDischargeDepth := 20) [hq]

@[simp] theorem stagePost_grew (s : State) (e : Entry) (p : Post) (q : EventQueue)
    (hq : s.events.grewFrom q) : (s.stagePost e p).events.grewFrom q := by
  unfold stagePost; (repeat' split) <;> simp -implicitDefEqProofs (maxDischargeDepth := 20) [hq]

@[simp] theorem displacePost_grew (s : State) (p : Post) (q : EventQueue)
    (hq : s.events.grewFrom q) : (s.displacePost p).events.grewFrom q := by
  unfold displacePost; (repeat' split) <;> simp -implicitDefEqProofs (maxDischargeDepth := 20) [hq]

@[simp] theorem posted_grew (s : State) (p : Post) (q : EventQueue)
    (hq : s.events.grewFrom q) : (s.posted p).events.grewFrom q := by
  unfold posted; (repeat' split) <;> simp -implicitDefEqProofs (maxDischargeDepth := 20) [hq]

@[simp] theorem postEffect_grew (s : State) (body : List Byte) (q : EventQueue)
    (hq : s.events.grewFrom q) : (s.postEffect body).events.grewFrom q := by
  unfold postEffect; (repeat' split) <;> simp -implicitDefEqProofs (maxDischargeDepth := 20) [hq]

@[simp] theorem withdrawEntry_grew (s : State) (e : Entry) (q : EventQueue)
    (hq : s.events.grewFrom q) : (s.withdrawEntry e).events.grewFrom q := by
  unfold withdrawEntry; (repeat' split) <;> simp -implicitDefEqProofs (maxDischargeDepth := 20) [hq]

@[simp] theorem withdrawEffect_grew (s : State) (body : List Byte) (q : EventQueue)
    (hq : s.events.grewFrom q) : (s.withdrawEffect body).events.grewFrom q := by
  simp only [withdrawEffect]; (repeat' split) <;> simp -implicitDefEqProofs (maxDischargeDepth := 20) [hq]

@[simp] theorem machineWritten_grew (s : State) (availability : Availability) (minutes progress : Nat) (q : EventQueue)
    (hq : s.events.grewFrom q) : (s.machineWritten availability minutes progress).events.grewFrom q := by
  unfold machineWritten; (repeat' split) <;> simp -implicitDefEqProofs (maxDischargeDepth := 20) [hq]

@[simp] theorem machineEffect_grew (s : State) (body : List Byte) (q : EventQueue)
    (hq : s.events.grewFrom q) : (s.machineEffect body).events.grewFrom q := by
  unfold machineEffect; (repeat' split) <;> simp -implicitDefEqProofs (maxDischargeDepth := 20) [hq]

@[simp] theorem basepageEffect_grew (s : State) (body : List Byte) (q : EventQueue)
    (hq : s.events.grewFrom q) : (s.basepageEffect body).events.grewFrom q := by
  simp only [basepageEffect]; (repeat' split) <;> simp -implicitDefEqProofs (maxDischargeDepth := 20) [hq]

@[simp] theorem restStandbyEffect_grew (s : State) (body : List Byte) (q : EventQueue)
    (hq : s.events.grewFrom q) : (s.restStandbyEffect body).events.grewFrom q := by
  unfold restStandbyEffect; (repeat' split) <;> simp -implicitDefEqProofs (maxDischargeDepth := 20) [hq]

@[simp] theorem restDormantEffect_grew (s : State) (body : List Byte) (q : EventQueue)
    (hq : s.events.grewFrom q) : (s.restDormantEffect body).events.grewFrom q := by
  unfold restDormantEffect; (repeat' split) <;> simp -implicitDefEqProofs (maxDischargeDepth := 20) [hq]

@[simp] theorem restActiveEffect_grew (s : State) (body : List Byte) (q : EventQueue)
    (hq : s.events.grewFrom q) : (s.restActiveEffect body).events.grewFrom q := by
  unfold restActiveEffect; (repeat' split) <;> simp -implicitDefEqProofs (maxDischargeDepth := 20) [hq]

@[simp] theorem sessionEndEffect_grew (s : State) (body : List Byte) (q : EventQueue)
    (hq : s.events.grewFrom q) : (s.sessionEndEffect body).events.grewFrom q := by
  unfold sessionEndEffect; (repeat' split) <;> simp -implicitDefEqProofs (maxDischargeDepth := 20) [hq]

end State

end Sys2Proof.Machine
end

