-- ==== Sys2Proof/Laws/Does.lean ====
section
/-! SUPPORT. What the shared operations do to the parts they change; Laws/Ops.lean and Laws/Units.lean say what
they keep. -/

namespace Sys2Proof.Machine.State

/-! ### Floor context and events -/

/-- Setting the floor context replaces it alone. -/
@[simp] theorem setCtx_floor (s : State) (ctx : FloorCtx) :
    (s.setCtx ctx).floor = { s.floor with ctx := ctx } := rfl

/-- What an offer leaves in the event queue depends on the queue alone. -/
theorem offer_events_congr {s t : State} (r : EventRecord) (h : s.events = t.events) :
    (s.offer r).events = (t.offer r).events := by
  unfold offer
  rw [h]
  split <;> simp

/-- Records offered one after another depend on the queue alone. -/
theorem offerAll_events_congr (records : List EventRecord) {s t : State} (h : s.events = t.events) :
    (s.offerAll records).events = (t.offerAll records).events := by
  induction records generalizing s t with
  | nil => exact h
  | cons r rest ih => exact ih (offer_events_congr r h)

/-- An offer is an update of the event queue. -/
theorem offer_eq_setEvents (s : State) (r : EventRecord) :
    s.offer r = s.setEvents (s.offer r).events := by
  unfold offer; split <;> simp

/-- Deferring the candidate sets DEFERRING with settle count 0. -/
@[simp] theorem deferBid_ctx (s : State) : s.deferBid.floor.ctx = .deferring 0 := by
  simp [deferBid]

@[simp] theorem deferBid_quietAge (s : State) : s.deferBid.floor.quietAge = s.floor.quietAge := by
  simp [deferBid, closeGate, mapEntries]

/-- A bid or hold that ends leaves the floor context IDLE or DEFERRING (04 R84, R85). -/
theorem leaveBid_ctx (s : State) :
    s.leaveBid.floor.ctx = .idle ∨ s.leaveBid.floor.ctx = .deferring 0 := by
  unfold leaveBid; simp only [setCtx_floor]; split <;> simp

/-- A line-good report clears ISOLATED and, in DEFERRING, the settle count (04 R89). -/
theorem lineGood_floor (s : State) :
    s.lineGood.floor = { s.floor with
      isolated := false,
      ctx := match s.floor.isolated, s.floor.ctx with
             | true, .deferring _ => .deferring 0
             | _, ctx => ctx } := by
  unfold lineGood
  cases h : s.floor.isolated <;> cases hc : s.floor.ctx <;> simp <;> simp [← h, ← hc]

/-- An isolate report with ISOLATED clear (04 R87): set, both lists empty, and its record queued. -/
theorem isolateReport_effect (s : State) (h : s.floor.isolated = false) :
    s.isolateReport.floor.isolated = true ∧ s.isolateReport.floor.claims = [] ∧
      s.isolateReport.floor.holders = [] ∧
      s.isolateReport.events = (s.offer .isolatedOn).events := by
  unfold isolateReport
  rw [if_neg (by simp [h])]
  refine ⟨?_, ?_, ?_, ?_⟩
  · split <;> simp
  · split <;> simp
  · split <;> simp
  · rw [← offer_events_congr (s := s.setFloor
      { s.floor with isolated := true, claims := [], holders := [] }) .isolatedOn (by simp)]
    split <;> simp [deferBid, closeGate, mapEntries]

/-- With ISOLATED set, an isolate report does nothing. -/
theorem isolateReport_of_isolated (s : State) (h : s.floor.isolated = true) :
    s.isolateReport = s := by
  simp [isolateReport, h]

/-! ### Slots -/

/-- The slots are functions of the line interface. -/
theorem slotAt_congr {s t : State} (h : s.line = t.line) (name : SlotName) :
    s.slotAt name = t.slotAt name := by
  cases name <;> simp [slotAt, h]

theorem slotAt_setSlot (s : State) (name other : SlotName) (slot : Slot) :
    (s.setSlot name slot).slotAt other = if other = name then slot else s.slotAt other := by
  cases name <;> cases other <;> rfl

/-- Replacing a slot keeps the rest of the line interface. -/
@[simp] theorem setSlot_line (s : State) (name : SlotName) (slot : Slot) :
    (s.setSlot name slot).line.onLine = s.line.onLine ∧
      (s.setSlot name slot).line.backoff = s.line.backoff ∧
      (s.setSlot name slot).line.abandonRun = s.line.abandonRun ∧
      (s.setSlot name slot).line.receiver = s.line.receiver ∧
      (s.setSlot name slot).line.chars = s.line.chars ∧
      (s.setSlot name slot).line.idleCount = s.line.idleCount ∧
      (s.setSlot name slot).line.stuckTimer = s.line.stuckTimer ∧
      (s.setSlot name slot).line.stuckLatch = s.line.stuckLatch := by
  cases name <;> simp [setSlot]

/-- Removing the frame of the TALK/CLAIM slot keeps the other slots, the back-off flag, the abandon run count and
the stuck latch. -/
@[simp] theorem removeTalk_line (s : State) :
    (s.removeFrame .talk).line.talkSlot = Slot.empty ∧
      (s.removeFrame .talk).line.doneSlot = s.line.doneSlot ∧
      (s.removeFrame .talk).line.beaconSlot = s.line.beaconSlot ∧
      (s.removeFrame .talk).line.backoff = s.line.backoff ∧
      (s.removeFrame .talk).line.abandonRun = s.line.abandonRun ∧
      (s.removeFrame .talk).line.stuckLatch = s.line.stuckLatch := by
  unfold removeFrame; split <;> simp [setSlot, breakFrame]

/-- With nothing on the line, removing a frame leaves the receiver alone. -/
theorem removeFrame_off (s : State) (name : SlotName) (h : s.line.onLine = none) :
    s.removeFrame name = s.setSlot name Slot.empty := by
  simp [removeFrame, h]

/-! ### Starting plays -/

/-- A play that starts is in its lead of 10 ms with the amplifier enable raised, on its route (06 R111). -/
theorem startPlay_renderer (s : State) (e : Entry) (route : Route) :
    (s.startPlay e route).renderer.phase = .lead ∧ (s.startPlay e route).renderer.timer = 80 ∧
      (s.startPlay e route).renderer.enable = true ∧
      ∃ p, (s.startPlay e route).renderer.play = some p ∧ p.ticket = e.ticket ∧
        p.route = route := by
  have same : (s.startPlay e route).renderer =
      (((((s.setAgenda (s.agenda.modify e.ticket fun e => s.playing e)).setTimebase
        { s.timebase with plays := s.timebase.plays + 1 }).setLevel { s.level with
          gain := gainCode s.settings s.level.amb e.post.cls s.floor.isolated,
          soundingSeen := true }).setRenderer { s.renderer with
            phase := .lead, timer := Config.leadSamples, enable := true,
            dropTimer := none }).startLookup (s.playContext e route) 0).renderer := by
    unfold startPlay; simp only []; split <;> simp
  rw [same]
  unfold startLookup advanceLookup
  simp only [setRenderer_renderer]
  split
  · simp [playContext]
  · simp only [lookupDone]
    split <;> simp [playContext]

/-- While the floor context is neither IDLE nor DEFERRING, the tests after an event start nothing. -/
theorem followUp_busy (s : State) (h : s.floorFree = false) :
    s.followUp.floor = s.floor ∧ s.followUp.renderer = s.renderer ∧ s.followUp.level = s.level ∧
      s.followUp.timebase = s.timebase := by
  have free : s.selectOwner.floorFree = false := by
    simpa only [floorFree, selectOwner_keeps] using h
  have l : s.selectOwner.localStart = s.selectOwner := by
    unfold localStart; rw [if_neg]; simp [free]
  have f : s.selectOwner.floorTest = s.selectOwner := by
    unfold floorTest; rw [if_neg]; simp [free]
  unfold followUp
  rw [l, f]
  simp

/-- Outside ACTIVE the tests after an event start nothing. -/
theorem followUp_inactive (s : State) (h : s.rest.part ≠ .active) :
    s.followUp.floor = s.floor ∧ s.followUp.renderer = s.renderer ∧ s.followUp.level = s.level ∧
      s.followUp.timebase = s.timebase := by
  have l : s.selectOwner.localStart = s.selectOwner := by
    unfold localStart; rw [if_neg]; simp [h]
  have f : s.selectOwner.floorTest = s.selectOwner := by
    unfold floorTest; rw [if_neg]; simp [h]
  unfold followUp
  rw [l, f]
  simp

/-! ### The end report (06 R120) -/

@[simp] theorem enterTail_report (s : State) : s.enterTail.renderer.report = s.renderer.report := by
  simp [enterTail]

@[simp] theorem lookupDone_report (s : State) (p : Play) (found : Option (Nat × List Span)) :
    (s.lookupDone p found).renderer.report = s.renderer.report := by
  unfold lookupDone; (repeat' split) <;> simp

@[simp] theorem advanceLookup_report (s : State) :
    s.advanceLookup.renderer.report = s.renderer.report := by
  unfold advanceLookup; (repeat' split) <;> simp

@[simp] theorem startLookup_report (s : State) (p : Play) (index : Nat) :
    (s.startLookup p index).renderer.report = s.renderer.report := by
  simp [startLookup]

/-- A play that starts leaves the report of the play before it. -/
@[simp] theorem startPlay_report (s : State) (e : Entry) (route : Route) :
    (s.startPlay e route).renderer.report = s.renderer.report := by
  unfold startPlay; simp only []; split <;> simp

@[simp] theorem isolatedStart_report (s : State) (e : Entry) :
    (s.isolatedStart e).renderer.report = s.renderer.report := by
  simp [isolatedStart]

@[simp] theorem localStart_report (s : State) : s.localStart.renderer.report = s.renderer.report := by
  unfold localStart; (repeat' split) <;> simp

@[simp] theorem floorTest_report (s : State) : s.floorTest.renderer.report = s.renderer.report := by
  unfold floorTest; (repeat' split) <;> simp

@[simp] theorem followUp_report (s : State) : s.followUp.renderer.report = s.renderer.report := by
  simp [followUp]

/-- The report that the renderer gives stands, whatever play its end lets start. -/
@[simp] theorem endReported_report (s : State) (report : EndReport) :
    (s.endReported report).renderer.report = some report := by
  unfold endReported playEnded; (repeat' split) <;> simp

/-! ### The outputs of the flash port and the display port (06 R105, 08 R138) -/

/-- The address bytes sent name the address the flash reads from. -/
theorem sent_names_addr (r : PortRead) : numberOf (r.sent.drop 1) = r.addr % 2 ^ 24 := by
  simp [PortRead.sent, numberOf, byteOf]
  omega

/-- Bit `k` of the pixel at place `i` of the frame on the display pins. -/
theorem displayPins_pixel (s : State) (i k level : Nat) (hk : k < 4)
    (h : s.frameStream[i]? = some level) :
    s.displayPins (4 * i + k) =
      { clock := true, data := level.testBit (3 - k), frameStart := decide (i = 0 ∧ k = 0) } := by
  have hd : (4 * i + k) / 4 = i := by omega
  have hm : (4 * i + k) % 4 = k := by omega
  have hz : (4 * i + k = 0) = (i = 0 ∧ k = 0) := by simp
  simp only [displayPins, hd, hm, h, hz]
  match k, hk with
  | 0, _ => rfl
  | 1, _ => rfl
  | 2, _ => rfl
  | 3, _ => rfl

/-- With no bit of a frame left the display pins are at rest. -/
theorem displayPins_rest (s : State) (n : Nat) (h : s.frameStream.length * 4 ≤ n) :
    s.displayPins n = { clock := false, data := false, frameStart := false } := by
  have : s.frameStream[n / 4]? = none := List.getElem?_eq_none (by omega)
  simp only [displayPins, this]

end Sys2Proof.Machine.State
end

