-- ==== Sys2Proof/Laws/Frames.lean ====
section
/-! SUPPORT. A receiver reads back every frame that a station builds (03 R47, R49, R50). -/

namespace Sys2Proof.Machine

theorem kindOfChar_code (code station : Nat) (hc : code < 8) (hs : station < 32) :
    kindOfChar (byteOf (32 * code + station)) = code ∧
      (byteOf (32 * code + station)).toNat % 32 = station := by
  simp only [kindOfChar, byteOf, BitVec.toNat_ofNat]
  omega

theorem byteOf_toNat (n : Nat) (h : n < 256) : (byteOf n).toNat = n := by
  simp [byteOf, Nat.mod_eq_of_lt h]

theorem setWidth_mask (mask : BitVec 4) : (mask.setWidth 8).setWidth 4 = mask := by
  ext i hi
  simp

/-- A DONE is read back. -/
theorem takeFrame_done (station : Nat) (h : station < 32) :
    takeFrame (LineFrame.done.chars station) = some { station := station, frame := .done } := by
  have c := kindOfChar_code 0 station (by omega) h
  simp only [Nat.mul_zero, Nat.zero_add] at c
  simp [takeFrame, LineFrame.chars, LineFrame.fields, c.1, c.2, expectedChars, anyContentFault,
    List.range_succ, contentFault, readFields]

/-- A CLAIM is read back. -/
theorem takeFrame_claim (station key : Nat) (mask : BitVec 4) (h : station < 32)
    (hk : key < 256) :
    takeFrame ((LineFrame.claim key mask).chars station) =
      some { station := station, frame := .claim key mask } := by
  have c := kindOfChar_code 2 station (by omega) h
  simp only [show 32 * 2 = 64 from rfl] at c
  have k : (byteOf (255 - key)).toNat = 255 - key := byteOf_toNat _ (by omega)
  simp [takeFrame, LineFrame.chars, LineFrame.fields, c.1, c.2, expectedChars, anyContentFault,
    List.range_succ, contentFault, readFields, k, setWidth_mask mask]
  omega

/-- A TALK is read back. -/
theorem takeFrame_talk (station key length : Nat) (mask : BitVec 4) (h : station < 32)
    (hk : key < 256) (hl : 0 < length) (hm : length < 256) :
    takeFrame ((LineFrame.talk key mask length).chars station) =
      some { station := station, frame := .talk key mask length } := by
  have c := kindOfChar_code 1 station (by omega) h
  simp only [show 32 * 1 = 32 from rfl] at c
  have z : byteOf length ≠ 0 := by
    intro e
    have := congrArg BitVec.toNat e
    rw [byteOf_toNat _ hm] at this
    simp at this
    omega
  have k : (byteOf (255 - key)).toNat = 255 - key := byteOf_toNat _ (by omega)
  simp [takeFrame, LineFrame.chars, LineFrame.fields, c.1, c.2, expectedChars, anyContentFault,
    List.range_succ, contentFault, readFields, k, byteOf_toNat _ hm, setWidth_mask mask]
  exact ⟨z, by omega⟩

/-- A BEACON is read back. -/
theorem takeFrame_beacon (station zone minutes : Nat) (kind : MachineKind) (a : Availability)
    (h : station < 32) (hz : zone < 4) (hm : minutes < 256) :
    takeFrame ((LineFrame.beacon kind a zone minutes).chars station) =
      some { station := station, frame := .beacon kind a zone minutes } := by
  have c := kindOfChar_code 3 station (by omega) h
  simp only [show 32 * 3 = 96 from rfl] at c
  have s : (byteOf (beaconStatus kind a zone)).toNat = beaconStatus kind a zone := by
    apply byteOf_toNat
    cases kind <;> cases a <;> simp [beaconStatus, kindCode, availabilityCode] <;> omega
  have r : kindOfCode (beaconStatus kind a zone / 64) = some kind ∧
      availabilityOfCode (beaconStatus kind a zone / 16 % 4) = some a ∧
      beaconStatus kind a zone / 4 % 4 = zone ∧ beaconStatus kind a zone / 64 ≠ 3 := by
    have : zone = 0 ∨ zone = 1 ∨ zone = 2 ∨ zone = 3 := by omega
    rcases this with z | z | z | z <;> subst z <;> cases kind <;> cases a <;> decide
  simp [takeFrame, LineFrame.chars, LineFrame.fields, c.1, c.2, expectedChars, anyContentFault,
    List.range_succ, contentFault, readFields, s, r.1, r.2.1, r.2.2.1, r.2.2.2, byteOf_toNat, hm]

/-- A foreign frame is not the own one, whose second character has another station number. -/
theorem State.isOwnFrame_foreign (s : State) (f : LineFrame) (station : Nat) (h : station < 32)
    (strap : s.timebase.station < 32) (ne : station ≠ s.timebase.station) :
    s.isOwnFrame (f.chars station) = false := by
  unfold State.isOwnFrame
  split
  · rfl
  · rename_i g _
    simp only [beq_eq_false_iff_ne, ne_eq]
    intro e
    have second : ((g.chars s.timebase.station).getD 1 0).toNat % 32 =
        ((f.chars station).getD 1 0).toNat % 32 := by rw [e]
    cases f <;> cases g <;> simp [LineFrame.chars, LineFrame.fields, byteOf] at second <;> omega

/-! ### The transmit output (03 R44) -/

/-- The level of a character in each of its bit times. -/
theorem charLevels_at (c : Byte) (bit : Nat) (h : bit < 10) :
    (charLevels c).getD bit .recessive =
      (if bit = 0 then .dominant else if bit = 9 then .recessive
        else if c.getLsbD (8 - bit) = true then .recessive else .dominant) := by
  match bit, h with
  | 0, _ => rfl
  | 1, _ => rfl
  | 2, _ => rfl
  | 3, _ => rfl
  | 4, _ => rfl
  | 5, _ => rfl
  | 6, _ => rfl
  | 7, _ => rfl
  | 8, _ => rfl
  | 9, _ => rfl

/-- The output is recessive while nothing is sent. -/
theorem State.transmitOut_silent (s : State) (h : s.line.onLine = none) (n : Nat) :
    s.transmitOut n = .recessive := by
  simp [State.transmitOut, State.ownFrame, h]

/-- The output in a bit time of a character of the own frame. -/
theorem State.transmitOut_char (s : State) (f : LineFrame) (i bit : Nat) (c : Byte)
    (hf : s.ownFrame = some f) (hc : (f.chars s.timebase.station)[i]? = some c) (h : bit < 10) :
    s.transmitOut (10 * i + bit) = (charLevels c).getD bit .recessive := by
  have hd : (10 * i + bit) / 10 = i := by omega
  have hm : (10 * i + bit) % 10 = bit := by omega
  simp only [State.transmitOut, hf, hd, hm, hc]

/-- The output is recessive after the own frame. -/
theorem State.transmitOut_after (s : State) (f : LineFrame) (n : Nat) (hf : s.ownFrame = some f)
    (h : 10 * (f.chars s.timebase.station).length ≤ n) : s.transmitOut n = .recessive := by
  have : (f.chars s.timebase.station)[n / 10]? = none := List.getElem?_eq_none (by omega)
  simp only [State.transmitOut, hf, this]

end Sys2Proof.Machine
end

