-- ==== Sys2Proof/Laws/Agenda.lean ====
section
/-! SUPPORT. The entries that admission and retirement leave in the agenda (01), and fresh tickets (01 R3). -/

namespace Sys2Proof.Machine

namespace State

/-! ### Ids -/

/-- Selecting the display owner, and the idle timer's test, keep the ids; an admission adds one (01 R2). -/
theorem admission_ids (s : State) (p : Post) (ticket : Nat) :
    (s.admission p ticket).agenda.ids = s.agenda.ids ++ [(ticket, p, none)] := by
  unfold admission
  simp only [selectOwner_keeps, idleTest_keeps]
  simp [Agenda.ids, newEntry, Entry.id]

/-- Issuing a ticket keeps the ids. -/
theorem ticketUsed_ids (s : State) (ticket : Nat) :
    (s.ticketUsed ticket).agenda.ids = s.agenda.ids := by
  simp

/-- An entry that leaves takes its ticket's id with it (01 R19). -/
theorem leaveEntry_ids (s : State) (e : Entry) (outcome : Retirement) :
    (s.leaveEntry e outcome).agenda.ids = s.agenda.ids.filter (·.1 != e.ticket) := by
  unfold leaveEntry
  simp only [offer_keeps]
  simp only [Agenda.ids, setAgenda_agenda, List.filter_map]
  rfl

/-- The selection of the display owner changes no id. -/
theorem dropEntry_ids (s : State) (e : Entry) (outcome : Retirement) :
    (s.dropEntry e outcome).agenda.ids = s.agenda.ids.filter (·.1 != e.ticket) := by
  unfold dropEntry
  simp only [selectOwner_keeps, leaveEntry_ids]

/-- A retirement drops the entry, or leaves it PLAYING until its play ends (01 R19). -/
theorem retireEntry_ids (s : State) (e : Entry) (outcome : Retirement) :
    (s.retireEntry e outcome).agenda.ids =
      if e.state = .playing then s.agenda.ids else s.agenda.ids.filter (·.1 != e.ticket) := by
  unfold retireEntry
  cases h : e.state <;> simp [dropEntry_ids]

/-- At SETTLING entry the agenda is empty (01 R24). -/
theorem retireRested_ids (s : State) : s.retireRested.agenda.ids = [] := by
  unfold retireRested
  simp only [selectOwner_keeps]
  rfl

/-- A ticket is found among the ids. -/
theorem tickets_of_ids (a : Agenda) :
    a.tickets = a.ids.flatMap fun i => i.1 :: (i.2.2.map (·.ticket)).toList := by
  simp [Agenda.tickets, Agenda.ids, List.flatMap_map, Entry.id]

/-- Agendas with the same ids and ticket counter issue the same ticket. -/
theorem issue_congr {a b : Agenda} (h : a.ids = b.ids) (n : a.nextTicket = b.nextTicket) :
    a.issue = b.issue := by
  simp [Agenda.issue, tickets_of_ids, h, n]

end State

/-! ### Fresh tickets -/

/-- The ticket number `k` places after `n`. -/
def ticketAt (n k : Nat) : Nat := ticketAfter^[k] n

/-- The search finds a free number if one of those it looks at is free. -/
theorem freeTicket_fresh (live : List Nat) (fuel n : Nat)
    (h : ∃ k, k < fuel ∧ ticketAt n k ∉ live) : freeTicket live fuel n ∉ live := by
  induction fuel generalizing n with
  | zero => obtain ⟨k, hk, _⟩ := h; omega
  | succ fuel ih =>
      unfold freeTicket
      by_cases c : n ∈ live
      · simp only [List.contains_iff_mem, c, if_true]
        apply ih
        obtain ⟨k, hk, out⟩ := h
        cases k with
        | zero => exact absurd c out
        | succ k => exact ⟨k, by omega, out⟩
      · simp [c]

/-- The numbers the search looks at, written out: after 65535 it goes to 1. -/
theorem ticketAt_eq (n k : Nat) (hk : k ≤ 65535) :
    ticketAt n k = if k = 0 then n
      else if n ≥ 65535 then k
      else if n + k ≤ 65535 then n + k else n + k - 65535 := by
  unfold ticketAt
  induction k with
  | zero => simp
  | succ k ih =>
      rw [Function.iterate_succ_apply', ih (by omega)]
      unfold ticketAfter
      repeat' split
      all_goals omega

/-- The issued ticket is one that no entry and no staged successor holds (01 R3). -/
theorem Agenda.issue_fresh (a : Agenda) (h : a.tickets.length ≤ 32) : a.issue ∉ a.tickets := by
  apply freeTicket_fresh
  by_contra none
  simp only [not_exists, not_and, not_not] at none
  have sub : (List.range 33).map (ticketAt a.nextTicket) ⊆ a.tickets := by
    intro t ht
    simp only [List.mem_map, List.mem_range] at ht
    obtain ⟨k, hk, rfl⟩ := ht
    exact none k hk
  have nodup : ((List.range 33).map (ticketAt a.nextTicket)).Nodup := by
    refine List.Nodup.map_on ?_ List.nodup_range
    intro x hx y hy e
    simp only [List.mem_range] at hx hy
    rw [ticketAt_eq _ _ (by omega), ticketAt_eq _ _ (by omega)] at e
    repeat' split at e
    all_goals omega
  have := (List.subperm_of_subset nodup sub).length_le
  simp at this
  omega

/-- A lawful agenda holds at most 32 tickets. -/
theorem Agenda.tickets_length (a : Agenda) : a.tickets.length ≤ 2 * a.entries.length := by
  unfold Agenda.tickets
  induction a.entries with
  | nil => simp
  | cons e es ih =>
      rw [List.flatMap_cons, List.length_append, List.length_cons, List.length_cons]
      cases e.successor
      · simp only [Option.map_none, Option.toList_none, List.length_nil]; omega
      · simp only [Option.map_some, Option.toList_some, List.length_singleton]; omega

end Sys2Proof.Machine
end

