-- ==== Sys2Proof/Laws/PerInstr.lean ====
section
/-! SUPPORT. Families of statements made for each command. No row of the table gives bits, so no word spells a
command: said once for each. -/

namespace Sys2Proof.Laws

/-- No word of the table spells the command. -/
def NoWord.Statement (i : Instr) : Prop := ∀ nbits w : Nat, decodeTableWord nbits w ≠ some i

theorem NoWord.coldReset (stn : BitVec 5) (xsel : BitVec 2) : NoWord.Statement (.coldReset stn xsel) :=
  fun _ _ => nofun
theorem NoWord.directoryScan : NoWord.Statement .directoryScan :=
  fun _ _ => nofun
theorem NoWord.directoryBad : NoWord.Statement .directoryBad :=
  fun _ _ => nofun
theorem NoWord.flashGrant : NoWord.Statement .flashGrant :=
  fun _ _ => nofun
theorem NoWord.flashReadDone : NoWord.Statement .flashReadDone :=
  fun _ _ => nofun
theorem NoWord.writeTransaction (bytes : List Byte) : NoWord.Statement (.writeTransaction bytes) :=
  fun _ _ => nofun
theorem NoWord.readTransaction (clocked : Nat) : NoWord.Statement (.readTransaction clocked) :=
  fun _ _ => nofun
theorem NoWord.setup : NoWord.Statement .setup :=
  fun _ _ => nofun
theorem NoWord.post : NoWord.Statement .post :=
  fun _ _ => nofun
theorem NoWord.withdraw : NoWord.Statement .withdraw :=
  fun _ _ => nofun
theorem NoWord.machine : NoWord.Statement .machine :=
  fun _ _ => nofun
theorem NoWord.basepage : NoWord.Statement .basepage :=
  fun _ _ => nofun
theorem NoWord.events : NoWord.Statement .events :=
  fun _ _ => nofun
theorem NoWord.status : NoWord.Statement .status :=
  fun _ _ => nofun
theorem NoWord.roster : NoWord.Statement .roster :=
  fun _ _ => nofun
theorem NoWord.restStandby : NoWord.Statement .restStandby :=
  fun _ _ => nofun
theorem NoWord.restDormant : NoWord.Statement .restDormant :=
  fun _ _ => nofun
theorem NoWord.restActive : NoWord.Statement .restActive :=
  fun _ _ => nofun
theorem NoWord.sessionEnd : NoWord.Statement .sessionEnd :=
  fun _ _ => nofun
theorem NoWord.frameStart (boundary : Boundary) : NoWord.Statement (.frameStart boundary) :=
  fun _ _ => nofun
theorem NoWord.loss (first second : Byte) : NoWord.Statement (.loss first second) :=
  fun _ _ => nofun
theorem NoWord.transmitFailure : NoWord.Statement .transmitFailure :=
  fun _ _ => nofun
theorem NoWord.frameTransmitted : NoWord.Statement .frameTransmitted :=
  fun _ _ => nofun
theorem NoWord.frameReceived (chars : List Byte) : NoWord.Statement (.frameReceived chars) :=
  fun _ _ => nofun
theorem NoWord.lineStuck : NoWord.Statement .lineStuck :=
  fun _ _ => nofun
theorem NoWord.duplicateTimerExpiry : NoWord.Statement .duplicateTimerExpiry :=
  fun _ _ => nofun
theorem NoWord.claimAgeExpiry (station : Nat) : NoWord.Statement (.claimAgeExpiry station) :=
  fun _ _ => nofun
theorem NoWord.holdTimerExpiry (station : Nat) : NoWord.Statement (.holdTimerExpiry station) :=
  fun _ _ => nofun
theorem NoWord.settleComplete : NoWord.Statement .settleComplete :=
  fun _ _ => nofun
theorem NoWord.windowExpiry : NoWord.Statement .windowExpiry :=
  fun _ _ => nofun
theorem NoWord.renewalExpiry : NoWord.Statement .renewalExpiry :=
  fun _ _ => nofun
theorem NoWord.tick1s : NoWord.Statement .tick1s :=
  fun _ _ => nofun
theorem NoWord.cadenceExpiry (ticket : Nat) : NoWord.Statement (.cadenceExpiry ticket) :=
  fun _ _ => nofun
theorem NoWord.expired (ticket : Nat) : NoWord.Statement (.expired ticket) :=
  fun _ _ => nofun
theorem NoWord.samplePeriod (adc : BitVec 8) : NoWord.Statement (.samplePeriod adc) :=
  fun _ _ => nofun
theorem NoWord.leadExpiry : NoWord.Statement .leadExpiry :=
  fun _ _ => nofun
theorem NoWord.itemEnd : NoWord.Statement .itemEnd :=
  fun _ _ => nofun
theorem NoWord.patternEnd : NoWord.Statement .patternEnd :=
  fun _ _ => nofun
theorem NoWord.gapExpiry : NoWord.Statement .gapExpiry :=
  fun _ _ => nofun
theorem NoWord.pauseExpiry : NoWord.Statement .pauseExpiry :=
  fun _ _ => nofun
theorem NoWord.tailExpiry : NoWord.Statement .tailExpiry :=
  fun _ _ => nofun
theorem NoWord.fadeExpiry : NoWord.Statement .fadeExpiry :=
  fun _ _ => nofun
theorem NoWord.enableDrop : NoWord.Statement .enableDrop :=
  fun _ _ => nofun
theorem NoWord.ambientWindowEnd : NoWord.Statement .ambientWindowEnd :=
  fun _ _ => nofun
theorem NoWord.composeEnd : NoWord.Statement .composeEnd :=
  fun _ _ => nofun
theorem NoWord.frameBoundary : NoWord.Statement .frameBoundary :=
  fun _ _ => nofun
theorem NoWord.panelSample (levels : BitVec 8) : NoWord.Statement (.panelSample levels) :=
  fun _ _ => nofun
theorem NoWord.presenceHoldExpiry : NoWord.Statement .presenceHoldExpiry :=
  fun _ _ => nofun
theorem NoWord.sessionTimeout : NoWord.Statement .sessionTimeout :=
  fun _ _ => nofun
theorem NoWord.beaconTimerExpiry : NoWord.Statement .beaconTimerExpiry :=
  fun _ _ => nofun
theorem NoWord.rosterAgeExpiry (station : Nat) : NoWord.Statement (.rosterAgeExpiry station) :=
  fun _ _ => nofun
theorem NoWord.idleTimerExpiry : NoWord.Statement .idleTimerExpiry :=
  fun _ _ => nofun
theorem NoWord.settlingLimit : NoWord.Statement .settlingLimit :=
  fun _ _ => nofun
theorem NoWord.dormantEntry : NoWord.Statement .dormantEntry :=
  fun _ _ => nofun
theorem NoWord.wake (event : WakeEvent) : NoWord.Statement (.wake event) :=
  fun _ _ => nofun
theorem NoWord.wakingEnd (levels : BitVec 8) : NoWord.Statement (.wakingEnd levels) :=
  fun _ _ => nofun
theorem NoWord.idleGap : NoWord.Statement .idleGap :=
  fun _ _ => nofun
theorem NoWord.receiveFault (chars : List Byte) (ending : RxEnd) : NoWord.Statement (.receiveFault chars ending) :=
  fun _ _ => nofun
theorem NoWord.settleTick : NoWord.Statement .settleTick :=
  fun _ _ => nofun

end Sys2Proof.Laws
end

