-- ==== Sys2Proof/WellFormed.lean ====
section
/-! DEFINITION. Which commands are ones the outside world can send: the ranges of their operands. The
meanings are total all the same; an operand out of range finds nothing to act on. -/

namespace Sys2Proof

/-- A station number (03 R47: "The station field is the sender's strap number, 0–31"). -/
def wfStation (station : Nat) : Bool := decide (station < 32)

/-- A ticket (01 R3: 1 to 65535). -/
def wfTicket (ticket : Nat) : Bool := decide (0 < ticket) && decide (ticket < 65536)

/-- An idle count (03 R46: it saturates at 63). -/
def wfIdle (idle : Nat) : Bool := decide (idle ≤ 63)

/-- The characters of one frame: at most 5 (03 R47), and at least the 3 of a DONE for a frame that is taken. -/
def wfFrame (chars : List Byte) : Bool := decide (3 ≤ chars.length) && decide (chars.length ≤ 5)

/-- The characters read before a fault: at most 5, and at least one where a character makes it known. -/
def wfFault (chars : List Byte) (ending : RxEnd) : Bool :=
  decide (chars.length ≤ 5) && (ending != .character || decide (0 < chars.length))

/-- The bytes of a write transaction: any, but for a lead byte 0xA2, which makes it a read transaction
(10 R165). -/
def wfWrite (bytes : List Byte) : Bool := bytes.head? != some 0xA2

/-- The operands of a command lie in their ranges. -/
def Instr.wf : Instr → Bool
  | .coldReset _ _ => true
  | .directoryScan => true
  | .directoryBad => true
  | .flashGrant => true
  | .flashReadDone => true
  | .writeTransaction bytes => wfWrite bytes
  | .readTransaction _ => true
  | .setup => true
  | .post => true
  | .withdraw => true
  | .machine => true
  | .basepage => true
  | .events => true
  | .status => true
  | .roster => true
  | .restStandby => true
  | .restDormant => true
  | .restActive => true
  | .sessionEnd => true
  | .frameStart boundary => wfIdle boundary.idle
  | .loss _ _ => true
  | .transmitFailure => true
  | .frameTransmitted => true
  | .frameReceived chars => wfFrame chars
  | .lineStuck => true
  | .duplicateTimerExpiry => true
  | .claimAgeExpiry station => wfStation station
  | .holdTimerExpiry station => wfStation station
  | .settleComplete => true
  | .windowExpiry => true
  | .renewalExpiry => true
  | .tick1s => true
  | .cadenceExpiry ticket => wfTicket ticket
  | .expired ticket => wfTicket ticket
  | .samplePeriod _ => true
  | .leadExpiry => true
  | .itemEnd => true
  | .patternEnd => true
  | .gapExpiry => true
  | .pauseExpiry => true
  | .tailExpiry => true
  | .fadeExpiry => true
  | .enableDrop => true
  | .ambientWindowEnd => true
  | .composeEnd => true
  | .frameBoundary => true
  | .panelSample _ => true
  | .presenceHoldExpiry => true
  | .sessionTimeout => true
  | .beaconTimerExpiry => true
  | .rosterAgeExpiry station => wfStation station
  | .idleTimerExpiry => true
  | .settlingLimit => true
  | .dormantEntry => true
  | .wake _ => true
  | .wakingEnd _ => true
  | .idleGap => true
  | .receiveFault chars ending => wfFault chars ending
  | .settleTick => true

end Sys2Proof
end

