-- ==== Sys2Proof/Tests/Slice0.lean ====
section
/-! SUPPORT. Small tests: ill-formed commands are refused by the check, worked values of the manual, and for each
obligation with hypotheses a state that meets them. -/

namespace Sys2Proof.Tests

set_option Elab.async false

open Sys2Proof Sys2Proof.Machine

/-! ### Well-formed commands -/

theorem test_wf_station : (Instr.claimAgeExpiry 32).wf = false ∧
    (Instr.holdTimerExpiry 32).wf = false ∧ (Instr.rosterAgeExpiry 32).wf = false ∧
    (Instr.rosterAgeExpiry 31).wf = true := by decide +kernel
theorem test_wf_ticket : (Instr.expired 0).wf = false ∧ (Instr.cadenceExpiry 65536).wf = false ∧
    (Instr.expired 65535).wf = true := by decide +kernel
theorem test_wf_idle : (Instr.frameStart ⟨64, false⟩).wf = false ∧ (Instr.frameStart ⟨63, true⟩).wf = true := by
  decide +kernel
theorem test_wf_frame : (Instr.frameReceived [0, 5]).wf = false ∧
    (Instr.frameReceived [0, 0, 0, 0, 0, 0]).wf = false ∧
    (Instr.frameReceived [0x00, 0x05, 0xCC]).wf = true := by decide +kernel
theorem test_wf_fault : (Instr.receiveFault [] .character).wf = false ∧
    (Instr.receiveFault [0, 0, 0, 0, 0, 0] .gap).wf = false ∧
    (Instr.receiveFault [] .gap).wf = true := by decide +kernel
theorem test_wf_write : (Instr.writeTransaction [0xA2, 0x00]).wf = false ∧
    (Instr.writeTransaction [0xA1, 0x02, 0x06, 0xEF]).wf = true ∧
    (Instr.writeTransaction []).wf = true := by decide +kernel

/-! ### Small states -/

/-- The bytes of a request frame: length, code, body and check. -/
def frame (code : Nat) (body : List Nat) : List Byte :=
  let fields := byteOf (body.length + 2) :: byteOf code :: body.map byteOf
  fields ++ [crc8 fields]

/-- The directory of a store of 1 MiB with two languages, 1024 phrases each, and pages. -/
def directory : Directory :=
  { languages := 2, sizeCode := 4,
    slots := [{ unitsFirst := false, phrases := 1024, table := 0x1000 },
              { unitsFirst := true, phrases := 1024, table := 0x3000 }],
    pageTable := 0x8000, pages := 20, fontTable := 0x9000 }

/-- Station 4, set up, with roles on three lines and the store USABLE. -/
def active : State :=
  { State.reset with
    timebase := { State.reset.timebase with station := 4 },
    settings := { Settings.initial with
      hearMask := 0b0011,
      roles := [.repeatKey, .language, .acknowledge, .unused, .unused, .unused, .unused, .unused] },
    flash := { State.reset.flash with store := .usable directory, scanWait := none },
    rest := { State.reset.rest with part := .active, warm := true } }

/-- A post of one phrase. -/
def aPost (topic : Nat) (cls : PromptClass) : Post :=
  { topic := topic, cls := cls, tokens := [.phrase 120], page := 255, tone := 0, interval := 60,
    count := some 3, expiry := 0, retireOn := .never }

/-- An entry of a post in a state, its timers run out. -/
def entry (ticket : Nat) (state : EntryState) (p : Post) : Entry :=
  { active.newEntry p ticket with state := state, cadence := some 0, expiryTimer := some 0 }

/-- The agenda holds these entries. -/
def withEntries (s : State) (es : List Entry) : State :=
  s.setAgenda { s.agenda with entries := es }

/-- The floor unit in a context. -/
def inCtx (s : State) (ctx : FloorCtx) : State := s.setFloor { s.floor with ctx := ctx }

/-- A frame stands in the request buffer. -/
def asking (s : State) (code : Nat) (body : List Nat) : State :=
  s.setHost { s.host with request := some (frame code body) }

/-- A held frame that passes the first step of 10 R168 is a request of its row. -/
theorem asks_of {s : State} {row : RequestRow} {body : List Byte} (buffer : List Byte)
    (code : Nat) (h : s.executes = true ∧ s.host.request = some buffer ∧
      requestRow buffer = some row ∧ readRequest buffer = some (code, body)) : s.asks row body :=
  ⟨h.1, buffer, code, h.2⟩

/-- A bid with key 200 and length 32 for ticket 1. -/
def bid : Bid := { ticket := 1, key := 200, length := 32 }

/-- A hold that peers know of, its renewal timer run out. -/
def hold : Hold := { renewal := 0, start := 0, announced := true, yield := .none }

/-- A record of station 5 that has run out. -/
def rival : Rival := { station := 5, key := 182, mask := 0b0011, left := 0 }

/-- A peer record of station 5 that has run out. -/
def peer (a : Availability) : PeerRecord :=
  { station := 5, kind := .dryer, availability := a, zone := 1, minutes := 20, age := 0 }

/-- A play of ticket 1 over items, in a phase with its timer run out. -/
def play (items : List Item) : Play :=
  { ticket := 1, route := .floor, items := items, index := 0, stop := .none, washer := none,
    dryer := none, minutes := 255, lastPlayed := none, ahead := .sounds 0, stream := [],
    filled := 0, played := 0, fadeFrom := 2048 }

/-- The renderer in a phase of a play. -/
def inPhase (s : State) (phase : Phase) (p : Play) : State :=
  s.setRenderer { phase := phase, timer := 0, play := some p, enable := true, dropTimer := none,
                  report := none }

/-- One frame on the line from a slot with some failures. -/
def sending (s : State) (name : SlotName) (f : LineFrame) (failures : Nat) : State :=
  (s.setSlot name { frame := some f, next := none, failures := failures }).setLine
    { (s.setSlot name { frame := some f, next := none, failures := failures }).line with
      onLine := some name }

/-- The receiver between frames. -/
def listening (s : State) : State := s.setLine { s.line with receiver := .idle }

/-- The state a command leads to. -/
def after (i : Instr) (s : State) : State :=
  match exec i s with
  | .next t => t
  | .fault _ => s
  | .refused _ => s

/-! ### Worked values of the manual -/

theorem test_crc8 : crc8 [0x02, 0x06] = 0xEF ∧
    (LineFrame.claim 182 0b0011).chars 3 = [0x49, 0x43, 0x03, 0xFA] ∧
    LineFrame.done.chars 5 = [0x00, 0x05, 0xCC] := by decide +kernel
theorem test_keys : urgencyKey .action 13 3 false = 182 ∧ urgencyKey .ending 40 2 false = 143 ∧
    urgencyKey .hint 7 0 false = 49 := by decide +kernel
theorem test_levels : levelOfMean 1 = 0 ∧ levelOfMean 3 = 10 ∧ levelOfMean 5 = 14 ∧
    levelOfMean 12 = 22 ∧ levelOfMean 40 = 32 ∧ levelOfMean 90 = 38 ∧ levelOfMean 100 = 40 ∧
    levelOfMean 127 = 41 ∧ levelOfMean 128 = 42 := by decide +kernel
theorem test_numbers : numberPhrases false 0 = [960] ∧ numberPhrases false 13 = [973] ∧
    numberPhrases true 40 = [982] ∧ numberPhrases false 45 = [982, 965] ∧
    numberPhrases true 45 = [965, 982] ∧ numberPhrases false 99 = [987, 969] := by decide +kernel
theorem test_reset_store : Memory.wf State.reset.phraseStore = true := by decide +kernel

/-! ### Witnesses: states that meet the hypotheses of each obligation, clause by clause -/

/-- A phrase entry that is PLAYING, READY, BIDDING or WAITING. -/
def playing : Entry := entry 1 .playing (aPost 3 .step)
def ready : Entry := entry 1 .ready (aPost 3 .step)

theorem witness_StepTakesTheFront :
    (active.setPending [.tick1s, .setup]).pending = .tick1s :: [.setup] := by decide +kernel
theorem witness_AnIdleStep : State.reset.pending = [] ∧ State.reset.clocked = true ∧
    (State.reset.timebase.ms + 1) % 100 ≠ 0 ∧
    (active.setTimebase { active.timebase with ms := 99 }).clocked = true ∧ (99 + 1) % 100 = 0 ∧
    (active.setRest { active.rest with part := .dormant }).rest.part = .dormant ∧
    (active.setRest { active.rest with part := .waking }).rest.part = .waking ∧
    (inCtx active (.claiming bid 6)).floor.ctx = .claiming bid 6 ∧
    (inCtx active (.holding bid hold)).floor.ctx = .holding bid hold := by decide +kernel
theorem witness_UrgencyKey : urgencyKey .step 0 8 false = 111 ∧ urgencyKey .hint 0 0 true = 79 ∧
    urgencyKey .safety 255 0 false = 255 ∧ urgencyKey .idle 200 2 false = 24 := by decide +kernel
theorem witness_SecondTick : (withEntries active [playing]).clocked = true ∧
    (withEntries active [playing]).agenda.isPlaying = true ∧
    (after .tick1s (withEntries active
      [playing, entry 2 .ready (aPost 4 .hint)])).agenda.credits.map (·.2.2.1) = [0, 1] := by
  decide +kernel

/-- A WAITING entry with nothing owed, whose play began 29 ticks ago, in a room quiet for 7 s. -/
def pulledIn : State :=
  let s := withEntries active [{ entry 1 .waiting (aPost 3 .step) with
    owed := 0, lastPlayStart := some { seconds := 0, order := 0 } }]
  (s.setFloor { s.floor with quietAge := 7 }).setTimebase { s.timebase with seconds := 29 }

theorem witness_PullIn : pulledIn.agenda.isPlaying = false ∧ 60 / 2 ≤ 29 + 1 - 0 ∧
    pulledIn.settings.quietGap = 8 ∧
    ((after .tick1s pulledIn).agenda.entries.map fun e => (e.state, e.wait)) = [(.ready, 0)] ∧
    (after .tick1s (pulledIn.setTimebase { pulledIn.timebase with seconds := 28 })
      ).agenda.entries.map (·.state) = [.waiting] := by decide +kernel
theorem witness_IdleTimer : active.settings.lineOf .presence = none ∧
    (after .tick1s active).rest.idleTimer = some 0 ∧
    (after .tick1s (active.setRest { active.rest with idleTimer := some 119 })).rest.idleTimer =
      some 120 ∧
    (after .tick1s (withEntries (active.setRest { active.rest with idleTimer := some 5 }) [playing])
      ).rest.idleTimer = none := by decide +kernel
theorem witness_CreditIsRaised :
    (withEntries active [playing]).agenda.find 1 = some playing ∧ playing.cadence = some 0 ∧
    (withEntries active [playing]).agenda.isPlaying = true ∧
    ((after (.cadenceExpiry 1) (withEntries active [playing])).agenda.entries.map (·.owed)) = [2] ∧
    { playing with playKind := some .counted }.playKind = some .counted ∧
    { playing with playKind := some .pullIn, owed := 0 }.account.ahead = 1 ∧
    { playing with playKind := some .replay }.account.replay = false := by decide +kernel
theorem witness_ExpiryRetires :
    (withEntries active [ready]).agenda.find 1 = some ready ∧ ready.expiryTimer = some 0 ∧
    ready.state ≠ .playing ∧ (withEntries active [playing]).agenda.find 1 = some playing ∧
    playing.expiryTimer = some 0 ∧ playing.endRequest = .none ∧
    (after (.expired 1) (withEntries active [ready])).agenda.entries = [] ∧
    (after (.expired 1) (withEntries active [playing])).agenda.entries.map (·.endRequest) =
      [.retire .expired] ∧
    (after (.expired 1) (inPhase (withEntries active [playing]) .lead (play []))
      ).renderer.phase = .tail := by decide +kernel

/-- A DONE waits, the receiver is IDLE, and the back-off flag is set. -/
def waitingDone : State :=
  listening ((active.setSlot .done { frame := some .done, next := none, failures := 0 }).setLine
    { (active.setSlot .done { frame := some .done, next := none, failures := 0 }).line with
      backoff := true })

theorem witness_FrameStarts : waitingDone.rest.part = .active ∧ waitingDone.line.receiver = .idle ∧
    waitingDone.line.onLine = none ∧ waitingDone.line.doneSlot.frame.isSome = true ∧
    11 + waitingDone.timebase.station ≤ 15 ∧
    (after (.frameStart ⟨15, false⟩) waitingDone).line.onLine = some .done ∧
    (after (.frameStart ⟨15, true⟩) waitingDone).line.onLine = some .done ∧
    (after (.frameStart ⟨14, false⟩) waitingDone).line.onLine = none ∧
    (after (.frameStart ⟨14, true⟩) waitingDone).line.receiver = .frame ∧
    (after (.frameStart ⟨14, true⟩) waitingDone).line.onLine = none ∧
    (after (.frameStart ⟨0, false⟩) waitingDone).line.idleCount = 0 ∧
    (waitingDone.slotAt .done).frame = some .done ∧
    (LineFrame.done.chars waitingDone.timebase.station)[1]? =
      some (byteOf waitingDone.timebase.station) ∧
    (List.range 11).map (after (.frameStart ⟨15, false⟩) waitingDone).transmitOut =
      List.replicate 9 .dominant ++ [.recessive, .dominant] ∧
    (after (.frameStart ⟨15, false⟩) waitingDone).transmitOut 30 = .recessive ∧
    (after (.frameStart ⟨10, true⟩) active).line.receiver = .hunt ∧
    (after (.frameStart ⟨10, false⟩) active).line.idleCount = 10 ∧
    (after (.frameStart ⟨11, false⟩) active).line.receiver = .idle ∧
    (after (.frameStart ⟨11, true⟩) active).line.receiver = .frame ∧
    (after (.frameStart ⟨10, false⟩) (after (.frameStart ⟨11, true⟩) active)).line.receiver = .frame ∧
    (after (.frameStart ⟨11, false⟩) (after (.frameStart ⟨11, true⟩) active)).line.receiver = .idle ∧
    (after (.frameStart ⟨11, true⟩) (after (.frameStart ⟨11, true⟩) active)).line.receiver = .frame ∧
    (after (.frameStart ⟨11, false⟩) (waitingDone.setLine { waitingDone.line with backoff := false })
      ).line.onLine = some .done ∧
    (after (.frameStart ⟨10, false⟩) (waitingDone.setLine { waitingDone.line with backoff := false })
      ).line.onLine = none ∧
    (active.setSlot .beacon { frame := some .done, next := none, failures := 0 }
      ).line.talkSlot.frame = none ∧ State.reset.rest.part = .unset := by decide +kernel

/-- A CLAIM of key 200 on the line. -/
def sendingClaim : State := sending active .talk (.claim 200 0b0011) 6

theorem witness_LossAndFailure : sendingClaim.line.onLine = some .talk ∧
    (sendingClaim.slotAt .talk).frame = some (.claim 200 0b0011) ∧
    256 * 54 + 67 < numberOf (((LineFrame.claim 200 0b0011).chars 4).take 2) ∧
    (sendingClaim.slotAt .talk).failures < 7 ∧
    (after (.loss 54 67) sendingClaim).line.chars = [54, 67] ∧
    ((after .transmitFailure sendingClaim).slotAt .talk).failures = 7 := by decide +kernel

/-- A BEACON on the line, abandoned at its next failure after two abandonments. -/
def sendingBeacon : State :=
  let s := sending active .beacon (.beacon .washer .free 0 255) 7
  s.setLine { s.line with abandonRun := 2 }

theorem witness_EighthFailure : sendingBeacon.line.onLine = some .beacon ∧
    sendingBeacon.line.beaconSlot.frame = some (.beacon .washer .free 0 255) ∧
    7 ≤ sendingBeacon.line.beaconSlot.failures ∧
    (LineFrame.beacon .washer .free 0 255).kind = .beacon ∧ sendingBeacon.line.abandonRun = 2 ∧
    sendingBeacon.floor.isolated = false ∧
    (after .transmitFailure sendingBeacon).floor.isolated = true ∧
    (sending active .talk (.claim 200 3) 7).line.abandonRun < 3 ∧
    (after .transmitFailure (inCtx (sending active .talk (.claim 200 3) 7) (.pending bid))
      ).floor.ctx = .deferring 0 ∧
    (after .transmitFailure (inCtx (sending active .talk (.talk 200 3 32) 7) (.announcing bid))
      ).line.talkSlot = Slot.empty := by decide +kernel
/-- The TALK of a BIDDING entry is on the line. -/
def announced : State :=
  inCtx (sending (withEntries active [entry 1 .bidding (aPost 3 .step)]) .talk (.talk 200 3 32) 0)
    (.announcing bid)

/-- A BEACON is on the line while a READY tone entry waits. -/
def toneWaits : State :=
  sending (withEntries active [entry 1 .ready { aPost 3 .step with tokens := [.tone 1] }]) .beacon
    (.beacon .washer .free 0 255) 0

theorem witness_Transmission :
    (inCtx sendingClaim (.pending bid)).floor.ctx = .pending bid ∧
    (LineFrame.claim 200 0b0011).kind = .claim ∧
    (after .frameTransmitted (inCtx sendingClaim (.pending bid))).floor.ctx =
      .claiming bid 300 ∧
    announced.agenda.find bid.ticket = some (entry 1 .bidding (aPost 3 .step)) ∧
    (LineFrame.talk 200 3 32).kind = .talk ∧ announced.floor.ctx = .announcing bid ∧
    (after .frameTransmitted announced).renderer.phase = .lead ∧
    ((after .frameTransmitted announced).agenda.entries.map (·.state)) = [.playing] ∧
    ((sending active .done .done 0).setFloor { active.floor with isolated := true }
      ).floor.ctx = .idle ∧
    (toneWaits.agenda.localCandidate toneWaits.flash.store).isSome = true ∧
    toneWaits.agenda.isPlaying = false ∧ toneWaits.floorFree = true ∧
    ((after .frameTransmitted toneWaits).renderer.play.map (·.route)) = some .local := by
  decide +kernel

/-- Station 4 listens; a claim of station 5 and a holder are recorded. -/
def hearing : State :=
  (listening active).setFloor { active.floor with
    claims := [rival], holders := [{ rival with station := 9 }], isolated := true }

theorem witness_FloorFramesHeard : hearing.clocked = true ∧ hearing.line.receiver ≠ .hunt ∧
    5 ≠ hearing.timebase.station ∧ hearing.timebase.station < 32 ∧
    hearing.settings.hearMask &&& 0b0010 ≠ 0 ∧ hearing.settings.hearMask &&& 0b0100 = 0 ∧
    (after (.frameReceived (LineFrame.done.chars 5)) hearing).floor.claims = [] ∧
    (after (.frameReceived ((LineFrame.talk 255 2 255).chars 31)) hearing).floor.holders.map
      (·.left) = [0, 27500] := by decide +kernel

/-- The floor unit in a context hears a CLAIM or a TALK of station 5 with a key. -/
def hearsClaim (ctx : FloorCtx) (key : Nat) : State :=
  after (.frameReceived ((LineFrame.claim key 3).chars 5)) (inCtx (listening active) ctx)
def hearsTalk (ctx : FloorCtx) (key : Nat) : State :=
  after (.frameReceived ((LineFrame.talk key 3 10).chars 5)) (inCtx (listening active) ctx)

theorem witness_FreeFloorHears :
    (inCtx active .idle).agenda.answer active.flash.store = .noCandidate ∧
    (hearsClaim .idle 200).floor.ctx = .idle ∧
    (hearsClaim (.deferring 7) 200).floor.ctx = .deferring 7 ∧
    (after (.frameReceived ((LineFrame.claim 148 3).chars 5)) (listening
      (inCtx (withEntries active [entry 1 .ready (aPost 3 .action)]) (.deferring 7)))
      ).floor.ctx = .deferring 7 ∧
    (after (.frameReceived ((LineFrame.claim 148 3).chars 3)) (listening
      (inCtx (withEntries active [entry 1 .ready (aPost 3 .action)]) (.deferring 7)))
      ).floor.ctx = .deferring 0 ∧
    (after (.frameReceived (LineFrame.done.chars 5)) (inCtx hearing (.deferring 7))).floor.ctx =
      .deferring 0 := by decide +kernel

/-- A bid below the SAFETY class, and a hold of it with a yield mark. -/
def lowBid : Bid := { ticket := 1, key := 182, length := 32 }
def holdWith (mark : YieldMark) : FloorCtx := .holding lowBid { hold with yield := mark }

theorem witness_ContextsHear : (hearsClaim (.pending bid) 201).floor.ctx = .deferring 0 ∧
    (hearsClaim (.announcing bid) 200).floor.ctx = .announcing bid ∧
    (hearsClaim (.announcing bid) 201).floor.ctx = .deferring 0 ∧
    (hearsTalk (.pending bid) 10).floor.ctx = .deferring 0 ∧
    (hearsTalk (.claiming bid 7) 255).floor.ctx = .claiming bid 7 ∧
    (hearsClaim (holdWith .none) 192).floor.ctx = holdWith .atTokenEnd ∧
    (hearsClaim (holdWith .atOnce) 192).floor.ctx = holdWith .atOnce ∧
    (hearsClaim (holdWith .none) 191).line.talkSlot.frame = some (.talk 182 3 32) ∧
    (hearsTalk (holdWith .atTokenEnd) 183).floor.ctx = holdWith .atOnce ∧
    (hearsTalk (holdWith .none) 182).line.talkSlot.frame = some (.talk 182 3 32) ∧
    (hearsTalk (holdWith .none) 182).floor.ctx = holdWith .none := by decide +kernel
theorem witness_BeaconHeard : hearing.clocked = true ∧ hearing.line.receiver ≠ .hunt ∧
    (after (.frameReceived ((LineFrame.beacon .combo .running 3 255).chars 31))
      hearing).roster.records.map (fun r => (r.station, r.minutes, r.age)) = [(31, 255, 90)] := by
  decide +kernel
theorem witness_Duplicate : takeFrame (LineFrame.done.chars 4) =
      some { station := 4, frame := .done } ∧ hearing.timebase.station = 4 ∧
    hearing.line.onLine = none ∧ hearing.roster.duplicateTimer = none ∧
    (after (.frameReceived (LineFrame.done.chars 4)) hearing).roster.duplicateTimer = some 10 ∧
    (after (.frameReceived (LineFrame.done.chars 4)) hearing).roster.duplicateTimer ≠ none := by
  decide +kernel
theorem witness_ReceiverHunts : hearing.line.receiver ≠ .hunt ∧
    contentFault [0x01, 0x05] = true ∧ active.line.receiver = .hunt ∧
    (after (.receiveFault [] .gap) hearing).line.idleCount = 11 ∧
    (after .idleGap active).line.receiver = .idle ∧
    (after .idleGap (after (.frameStart ⟨11, true⟩) active)).line.receiver = .idle := by decide +kernel
/-- The line has been dominant for a number of ms. -/
def dominant (s : State) (ms : Nat) : State := s.setLine { s.line with stuckTimer := some ms }

theorem witness_StuckLine : (dominant active 1000).clocked = true ∧
    (dominant active 1000).line.stuckTimer = some 1000 ∧
    (dominant active 1000).line.stuckLatch = false ∧
    (dominant active 1000).floor.isolated = false ∧ (dominant hearing 1000).floor.isolated = true ∧
    after .lineStuck (dominant active 999) = dominant active 999 ∧
    (after .lineStuck (dominant active 1000)).line.stuckLatch = true ∧
    (after (.frameStart ⟨1, false⟩) (after .lineStuck (dominant active 1000))).line.stuckLatch =
      false ∧
    (after (.frameStart ⟨0, true⟩) (after .lineStuck (dominant active 1000))).line.stuckLatch =
      false ∧
    (after (.frameStart ⟨1, false⟩) (dominant active 400)).line.stuckTimer = none := by
  decide +kernel
theorem witness_RecordsRunOut : rival ∈ hearing.floor.claims ∧ rival.left = 0 ∧
    { rival with station := 9 } ∈ hearing.floor.holders ∧
    peer .free ∈ (active.setRoster { active.roster with records := [peer .free] }).roster.records ∧
    (peer .free).age = 0 ∧
    (active.setRoster { active.roster with duplicateTimer := some 0 }).roster.duplicateTimer =
      some 0 := by decide +kernel

/-- DEFERRING with a READY phrase entry of key 148 and a settle count. -/
def deferring (settle : Nat) : State :=
  inCtx (withEntries active [entry 1 .ready (aPost 3 .action)]) (.deferring settle)

theorem witness_Settle : (deferring 106).rest.part = .active ∧
    (deferring 106).floor.isolated = false ∧
    (deferring 106).agenda.answer (deferring 106).flash.store =
      .candidate (entry 1 .ready (aPost 3 .action)) ∧
    (deferring 106).agenda.localCandidate (deferring 106).flash.store = none ∧
    (after .settleTick (deferring 106)).floor.ctx = .deferring 107 ∧
    (withEntries (deferring 1) [playing, entry 2 .ready (aPost 4 .hint)]).agenda.answer
      (deferring 1).flash.store = .playing ∧
    (withEntries (deferring 1) [playing]).agenda.answer (deferring 1).flash.store =
      .noCandidate ∧
    (withEntries (deferring 1) []).agenda.answer (deferring 1).flash.store = .noCandidate ∧
    (after .settleTick (withEntries (deferring 1) [])).floor.ctx = .idle := by
  decide +kernel
theorem witness_SettleComplete : (entry 1 .ready (aPost 3 .action)).key = 148 ∧
    255 ≤ 107 + 148 ∧ (deferring 107).floor.holders = [] ∧ (deferring 107).floor.claims = [] ∧
    (deferring 107).line.talkSlot.frame = none ∧
    (after .settleComplete (deferring 107)).line.talkSlot.frame = some (.claim 148 0b0011) ∧
    after .settleComplete (deferring 106) = deferring 106 ∧
    (after .lineStuck (dominant (deferring 3) 1000)).renderer.phase = .lead ∧
    (after .settleComplete (deferring 107)).flash.estimate = [(4696, 5)] := by decide +kernel

/-- The entry and the records of the worked estimate of 06 6.8. -/
def workedPost : Post :=
  { aPost 70 .action with
    tokens := [.phrase 120, .number 45, .pause 3, .phrase 121, .minutes] }
def worked : State :=
  (State.setMachine { active with phraseStore := [(4696, 1), (4697, 0), (4698, 0), (4699, 0x2E),
    (4700, 0xE0), (4701, 2), (4702, 0), (4703, 0), (4704, 0x19), (4705, 0x00)] }
      { active.machine with minutes := 7 })

theorem test_estimate : worked.estimate workedPost = 32 ∧
    (worked.estimateProgram workedPost).requests worked.phraseStore = [(4696, 5), (4701, 5)] ∧
    { workedPost with tokens := [.phrase 9, .phrase 9, .refer .washer] }.estimatePhrases =
      [9, 1002, 1003, 1004] := by decide +kernel
theorem witness_WindowAndRenewal : (inCtx active (.claiming bid 0)).viewClear bid.key = true ∧
    (inCtx active (.claiming bid 0)).rest.part = .active ∧
    ((inCtx active (.claiming bid 0)).setFloor
      { active.floor with ctx := .claiming bid 0, holders := [rival] }).viewClear bid.key = false ∧
    (inCtx active (.holding bid hold)).floor.ctx = .holding bid hold ∧ hold.renewal = 0 ∧
    hold.yield = .none ∧ { hold with yield := .atOnce }.yield ≠ .none ∧
    (after .windowExpiry (inCtx active (.claiming bid 0))).floor.ctx = .announcing bid ∧
    (after .renewalExpiry (inCtx active (.holding bid hold))).line.talkSlot.frame =
      some (.talk 200 0b0011 32) := by decide +kernel
theorem witness_BeaconTimer :
    (active.setRoster { active.roster with beaconTimer := some 0 }).roster.beaconTimer = some 0 ∧
    active.rest.part ≠ .settling ∧
    (after .beaconTimerExpiry (active.setRoster { active.roster with beaconTimer := some 0 }
      )).line.beaconSlot.frame = some (.beacon .washer .outOfService 0 255) := by decide +kernel
theorem witness_Referral :
    (resolveReferral [peer .running, { peer .free with station := 7 }, { peer .free with
      station := 8, zone := 2 }] 2 .dryer).station = some 8 ∧
    (resolveReferral [peer .running, { peer .running with station := 6, minutes := 255 }] 2
      .dryer).outcome = .soon ∧ (peer .running).minutes ≠ 255 ∧
    (resolveReferral [peer .finished] 2 .dryer).outcome = .none ∧
    (resolveReferral [peer .free] 1 .washer).outcome = .none := by decide +kernel

/-- The directory bytes: the mark, two languages, 1 MiB, no slots, tables and pages of zeros, and the CRC. -/
def directoryBytes : List Byte :=
  let fields := [0x46, 0x4A, 0x02, 0x04] ++ List.replicate 31 (0x00 : Byte)
  fields ++ bytes2 (crc16 fields).toNat

/-- The directory is being read, or has been. -/
def scanning (data : Option (List Byte)) : State :=
  active.setFlash { State.reset.flash with scanWait := some 0, scanData := data }

theorem witness_Directory : (scanning none).flash.store = .scanning ∧
    (scanning none).flash.scanWait = some 0 ∧ (scanning none).flash.port = none ∧
    (scanning (some directoryBytes)).flash.scanData = some directoryBytes ∧
    directoryBytes.length = 37 ∧ directoryBytes.take 2 = [0x46, 0x4A] ∧
    (crc16 (directoryBytes.take 35)).toNat = numberOf ((directoryBytes.drop 35).take 2) ∧
    (after .directoryBad (scanning (some directoryBytes))).flash.store.isUsable = true ∧
    (after .directoryBad (scanning (some (List.replicate 37 0xFF)))).flash.store = .unusable ∧
    (scanning none).rest.warm = true ∧ State.reset.rest.warm = false := by decide +kernel

/-- A lookup of phrase 120 is under way in the lead. -/
def looking : State :=
  inPhase (withEntries active [playing]) .lead
    { play [.phrase 120] with ahead := .looking 0 0 [] }

/-- A phrase of 200 samples sounds next. -/
def filling : State :=
  inPhase active .lead { play [.phrase 120] with stream := [{ start := 0x10000, count := 200 }] }

/-- A compose waits for its first read: the page of an entry. -/
def composing : State :=
  active.setDisplay { active.display with
    compose := .composing { active.snapshot with owner := .entry 1, topicPage := some (3, 5) } [] }

theorem witness_FlashGrant : active.flash.store = .usable directory ∧ active.flash.port = none ∧
    (scanning none).flash.store.isUsable = false ∧ active.speechRequest = none ∧
    looking.speechRequest.isSome = true ∧ composing.composeRequest.isSome = true ∧
    120 < (directory.slot 0).phrases ∧ (directory.slot 0).table + 5 * 120 + 5 ≤ directory.size ∧
    (after .flashGrant looking).flash.port =
      some { purpose := .lookup, addr := 0x1000 + 600, len := 5, wanted := true } ∧
    (after .flashGrant filling).flash.port =
      some { purpose := .fill, addr := 0x10000, len := 128, wanted := true } ∧
    looking.flash.estimate = [] ∧
    (after .flashGrant (after .settleComplete (deferring 107))).flash.port =
      some { purpose := .estimate, addr := 4696, len := 5, wanted := true } := by decide +kernel

/-- A read of a purpose is on the port. -/
def reading (s : State) (purpose : ReadFor) (wanted : Bool) : State :=
  s.setFlash { s.flash with
    port := some { purpose := purpose, addr := 0x1000 + 600, len := 5, wanted := wanted } }

/-- The store has the record of phrase 120: 12000 samples from 0x10000. -/
def withRecord (s : State) : State :=
  { s with phraseStore := [(0x1258, 0x01), (0x1259, 0x00), (0x125A, 0x00), (0x125B, 0x2E),
    (0x125C, 0xE0)] }

theorem witness_FlashReadDone :
    (reading looking .lookup true).flash.port =
      some { purpose := .lookup, addr := 4696, len := 5, wanted := true } ∧
    Memory.wf (withRecord looking).phraseStore = true ∧
    numberOf ((readBytes (withRecord looking).phraseStore 4696 5).take 3) = 0x10000 ∧
    numberOf (((readBytes (withRecord looking).phraseStore 4696 5).drop 3).take 2) = 12000 ∧
    0x10000 + 12000 ≤ directory.size ∧
    ((after .flashReadDone (reading (withRecord looking) .lookup true)).renderer.play.map
      (·.stream)) = some [{ start := 0x10000, count := 12000 }] ∧
    32000 < numberOf (((readBytes looking.phraseStore 4696 5).drop 3).take 2) ∧
    looking.agenda.find 1 = some playing ∧ playing.phraseReported = false ∧
    { playing with phraseReported := true }.phraseReported = true ∧
    (after .flashReadDone (reading looking .lookup true)).events.queue =
      [.coldStart, .missingPhrase 3 120] ∧
    (reading filling .fill true).renderer.play.isSome = true ∧
    (reading composing .compose true).display.compose = .composing
      { active.snapshot with owner := .entry 1, topicPage := some (3, 5) } [] ∧
    (reading active .directory false).flash.port.isSome = true ∧
    (reading active .lookup true).flashSent = [0x03, 0x00, 0x12, 0x58] ∧
    (reading active .estimate true).flash.port.isSome = true := by decide +kernel
theorem witness_Write : (frame 6 []).length = 3 ∧ active.host.request = none ∧
    (asking active 6 []).host.request ≠ none ∧ active.rest.part ≠ .dormant ∧
    requestRow (frame 6 []) ≠ none ∧ active.executes = true ∧ requestRow (frame 9 [3]) = none ∧
    readRequest (frame 9 [3]) ≠ none ∧ requestRow [0x02] = none ∧ readRequest [0x02] = none ∧
    (after (.writeTransaction (0xA1 :: frame 6 [])) active).host.request = some (frame 6 []) ∧
    active.host.discard = false ∧ (active.setHost { active.host with discard := true }
      ).host.discard = true := by decide +kernel
theorem witness_Read : active.rest.part ≠ .dormant ∧ active.host.slot = none ∧
    (after .events (asking active 6 [])).host.slot.isSome = true ∧
    (after .events (asking active 6 [])).host.request = none ∧
    ((after (.readTransaction 12) (after .events (asking active 6 []))).host.slot) = none ∧
    ((after (.readTransaction 11) (after .events (asking active 6 []))).host.slot).isSome =
      true := by decide +kernel
theorem witness_Requests : (asking active 1 []).host.request = some (frame 1 []) ∧
    requestRow (frame 1 []) = some .setup ∧ readRequest (frame 1 []) = none ∧
    (asking State.reset 3 [5]).executes = true ∧ requestRow (frame 3 [5]) = some .withdraw ∧
    readRequest (frame 3 [5]) = some (3, [5]) ∧ State.reset.rest.part = .unset ∧
    lengthOfCode 3 [5] = 3 ∧ active.rest.warm = true := by decide +kernel

/-- A SETUP body with values out of range, two DOOR lines and a PRESENCE line. -/
def setupBody : List Nat :=
  [9, 0, 1, 0, 1, 1, 99, 99, 9, 99, 9, 0x80, 1, 2, 15, 1, 2, 3, 5, 6, 5, 0, 0, 0, 1, 0, 10, 31, 1,
    1]

theorem witness_SetupValues : (readSetup (setupBody.map byteOf)).isSome = true ∧
    (readSetup (setupBody.map byteOf)).map (fun c => (c.1.zone, c.1.beaconPeriod, c.1.roles)) =
      some (3, 1, [.repeatKey, .language, .acknowledge, .door, .presence, .unused, .unused,
        .unused]) ∧ (setupBody.map byteOf).length = 30 ∧
    (readSetup ((setupBody.set 22 7).map byteOf)).isNone = true ∧
    (readSetup ((setupBody.set 28 8).map byteOf)).isNone = true ∧
    (readSetup ((setupBody.set 28 7).map byteOf)).isSome = true := by decide +kernel
theorem witness_Setup : (asking State.reset 1 setupBody).asks .setup (setupBody.map byteOf) ∧
    State.reset.rest.part = .unset ∧ State.reset.rest.warm = false ∧
    (after .setup (asking State.reset 1 setupBody)).rest.part = .active :=
  ⟨asks_of (frame 1 setupBody) 1 (by decide +kernel), by decide +kernel⟩

/-- SETUP with a DOOR line on PL3 and a PRESENCE line on PL4, seen from the filtered levels of a LOW line each. -/
def configured (restLevels : Nat) : State :=
  after .setup (asking State.reset 1 (setupBody.set 23 restLevels))

theorem witness_SetupPanel : (configured 0).panel.door = .closed ∧
    (configured 0).panel.presence = .absent ∧ (configured 0).panel.keysAtRest = true ∧
    (configured 0).rest.idleTimer = some 0 ∧ (configured 24).panel.door = .opened ∧
    (configured 24).panel.presence = .present ∧ (configured 24).rest.idleTimer = none ∧
    (configured 1).panel.keysAtRest = false ∧
    (configured 0).display.compose = .composing (configured 0).snapshot [] := by decide +kernel

/-- A POST body: topic, class STEP, one phrase, interval 60, count 3. -/
def postBody (topic cls : Nat) : List Nat := [topic, cls, 255, 0, 0, 60, 3, 0, 0, 0, 1, 0x10, 120]

theorem witness_Post : (asking active 2 (postBody 3 3)).asks .post ((postBody 3 3).map byteOf) ∧
    readPost ((postBody 3 3).map byteOf) = some (aPost 3 .step) ∧
    active.agenda.findTopic 3 = none ∧ active.agenda.entries.length < 16 ∧
    (asking active 2 (postBody 0 3)).asks .post ((postBody 0 3).map byteOf) ∧
    readPost ((postBody 0 3).map byteOf) = none ∧
    (after .post (asking active 2 (postBody 3 3))).agenda.ids = [(1, aPost 3 .step, none)] :=
  ⟨asks_of (frame 2 (postBody 3 3)) 2 (by decide +kernel), by decide +kernel, by decide +kernel,
    by decide +kernel, asks_of (frame 2 (postBody 0 3)) 2 (by decide +kernel), by decide +kernel,
    by decide +kernel⟩
theorem witness_PostFields : (postBody 3 3).length = 11 + 2 * 1 ∧
    readPost ((postBody 3 5).map byteOf) ≠ none ∧ readPost ((postBody 3 6).map byteOf) = none ∧
    readPost (((postBody 3 3).set 9 4).map byteOf) = none ∧
    readPost (((postBody 3 3).set 11 0x13).map byteOf) ≠ none ∧
    readPost (((postBody 3 3).set 11 0x14).map byteOf) = none ∧
    readPost (((postBody 3 3).set 11 0x00).map byteOf) = none ∧
    readPost (((postBody 3 3).set 11 0x70).map byteOf) = none ∧
    readPost ((((postBody 3 3).set 11 0x40).set 12 3).map byteOf) = none ∧
    readPost ((((postBody 3 3).set 11 0x60).set 12 0).map byteOf) = none ∧
    readPost ((((postBody 3 3).set 11 0x60).set 12 9).map byteOf) = none ∧
    (readPost ((((postBody 3 3).set 11 0x50).set 12 21).map byteOf)).map (·.tokens) =
      some [.pause 20] ∧
    (readPost (((postBody 3 3).set 5 4).map byteOf)).map (·.interval) = some 5 ∧
    (readPost (((postBody 3 3).set 5 0).map byteOf)).map (·.count) = some (some 1) := by
  decide +kernel
theorem witness_PostReplaces :
    (asking (withEntries active [ready]) 2 (postBody 3 3)).asks .post
      ((postBody 3 3).map byteOf) ∧
    (withEntries active [ready]).agenda.findTopic 3 = some ready ∧ ready.state ≠ .playing ∧
    (withEntries active [playing]).agenda.findTopic 3 = some playing ∧
    (after .post (asking (withEntries active [playing]) 2 (postBody 3 3))).agenda.entries.map
      (fun e => (e.endRequest, e.successor.map (·.ticket))) = [(.retire .replaced, some 2)] :=
  ⟨asks_of (frame 2 (postBody 3 3)) 2 (by decide +kernel), by decide +kernel⟩

/-- Sixteen HINT entries, the last two with the lowest key. -/
def full : State :=
  withEntries active ((List.range 16).map fun k =>
    { entry (k + 1) .waiting (aPost (k + 10) .hint) with owed := if k < 14 then 2 else 1 })

theorem witness_FullAgenda : full.agenda.entries.length = 16 ∧
    full.agenda.findTopic 3 = none ∧
    full.agenda.entries = full.agenda.entries.take 15 ++ { entry 16 .waiting (aPost 25 .hint) with
      owed := 1 } :: [] ∧ urgencyKey .step 0 1 false = 84 ∧
    ({ entry 16 .waiting (aPost 25 .hint) with owed := 1 } : Entry).key = 52 ∧
    ((after .post (asking full 2 (postBody 3 3))).agenda.entries.map (·.post.topic)).getLast? =
      some 3 ∧
    (after .post (asking full 2 (postBody 3 5))).agenda.entries.map (·.ticket) =
      full.agenda.entries.map (·.ticket) := by decide +kernel
theorem witness_Withdraw :
    (asking (withEntries active [playing]) 3 [3]).asks .withdraw [3] ∧
    (asking active 3 [0]).asks .withdraw [0] ∧ active.rest.part ≠ .unset ∧
    (withEntries active [playing]).agenda.findTopic 3 = some playing ∧
    (withEntries active [ready]).agenda.findTopic 3 = some ready ∧
    (after .withdraw (asking (withEntries active [ready]) 3 [3])).agenda.entries = [] :=
  ⟨asks_of (frame 3 [3]) 3 (by decide +kernel), asks_of (frame 3 [0]) 3 (by decide +kernel),
    by decide +kernel⟩
theorem witness_MachineAndBasePage :
    (asking active 4 [1, 42, 128]).asks .machine [1, 42, 128] ∧
    (asking active 4 [4, 42, 128]).asks .machine [4, 42, 128] ∧
    (asking active 5 [255]).asks .basepage [255] ∧ availabilityOfCode 4 = none ∧
    availabilityOfCode 1 = some .running ∧ active.rest.part ≠ .unset ∧
    (after .machine (asking active 4 [1, 42, 128])).roster.beaconTimer = some 3 ∧
    (after .machine (asking active 4 [3, 255, 0])).roster.beaconTimer = none :=
  ⟨asks_of (frame 4 [1, 42, 128]) 4 (by decide +kernel),
    asks_of (frame 4 [4, 42, 128]) 4 (by decide +kernel),
    asks_of (frame 5 [255]) 5 (by decide +kernel), by decide +kernel⟩
theorem witness_Reports : (asking active 6 []).asks .events [] ∧
    (asking active 7 []).asks .status [] ∧ (asking active 8 []).asks .roster [] ∧
    (after .events (asking active 6 [])).events.queue = [] :=
  ⟨asks_of (frame 6 []) 6 (by decide +kernel), asks_of (frame 7 []) 7 (by decide +kernel),
    asks_of (frame 8 []) 8 (by decide +kernel), by decide +kernel⟩
theorem witness_Standby : (asking active 9 [1]).asks .restStandby [1] ∧
    (asking active 9 [0]).asks .restActive [0] ∧ active.agenda.entries = [] ∧
    active.settings.lineOf .presence = none ∧
    (active.setRest { active.rest with idleTimer := some 120 }).rest.idleTimer =
      some active.settings.idleTime ∧
    (after .restStandby (asking active 9 [1])).rest.part = .standby ∧
    (after .restStandby (asking (inCtx active (.deferring 9)) 9 [1])).floor.ctx = .idle ∧
    (inCtx active (.deferring 9)).floor.ctx.isHolding = false ∧
    (inCtx active (.holding bid hold)).floor.ctx.isHolding = true ∧
    (after .restActive (asking (after .restStandby (asking active 9 [1])) 9 [0])).rest.part =
      .active ∧ (withEntries active [ready]).agenda.entries ≠ [] :=
  ⟨asks_of (frame 9 [1]) 9 (by decide +kernel), asks_of (frame 9 [0]) 9 (by decide +kernel),
    by decide +kernel⟩
theorem witness_RestDormant : (asking (inCtx active (.holding bid hold)) 9 [2]).asks
      .restDormant [2] ∧ (inCtx active (.holding bid hold)).floor.isolated = false ∧
    (after .restDormant (asking (inCtx active (.holding bid hold)) 9 [2])
      ).line.doneSlot.frame = some .done ∧ active.floor.ctx.isHolding = false ∧
    (asking looking 9 [2]).renderer.play ≠ none ∧
    (after .restDormant (asking looking 9 [2])).renderer.phase = .fade :=
  ⟨asks_of (frame 9 [2]) 9 (by decide +kernel), by decide +kernel⟩

/-- A hold that no peer knows of, while ISOLATED is set. -/
def unheard : State :=
  (active.setFloor { active.floor with
    ctx := .holding bid { hold with announced := false }, isolated := true })

theorem witness_RestQuietly : unheard.floor.isolated = true ∧
    (after .restDormant (asking unheard 9 [2])).line.doneSlot.frame = none ∧
    after .restStandby (asking (active.setRest { active.rest with part := .standby }) 9 [1]) =
      (active.setRest { active.rest with part := .standby }).setHost
        ((asking active 9 [1]).answered .ok []) := by decide +kernel

/-- The user has left: a hold timer at 0, or a session timer at 120 s. -/
def leaving : State :=
  active.setPanel { active.panel with holdTimer := some 0, sessionTimer := some 120 }

theorem witness_Sessions : (asking active 10 []).asks .sessionEnd [] ∧
    leaving.panel.sessionTimer = some 120 ∧ leaving.panel.holdTimer = some 0 ∧
    leaving.panel.presence = .present ∧
    { active.settings with roles := [.presence] }.lineOf .presence = some 0 ∧
    (withEntries leaving [playing]).agenda.isPlaying = true ∧
    (after .presenceHoldExpiry (withEntries leaving [playing, { entry 2 .ready (aPost 4 .step) with
      wait := 9 }])).agenda.credits.map (fun c => (c.2.1, c.2.2.1)) =
      [(.playing, 0), (.waiting, 0)] :=
  ⟨asks_of (frame 10 []) 10 (by decide +kernel), by decide +kernel⟩
theorem witness_ItemsFollow :
    (inPhase active .lead (play [.phrase 120])).renderer.timer = 0 ∧
    ((play [.phrase 120]).items[0]?).map Item.kind = some .speech ∧
    (play [.tone 1]).items[0]? = some (.tone 1) ∧ (play [.pause 5]).items[0]? = some (.pause 5) ∧
    { play [] with ahead := .exhausted }.ahead = .exhausted ∧
    (after .gapExpiry (inPhase active .gap (play [.pause 20]))).renderer.timer = 16000 ∧
    (after .leadExpiry (inPhase active .lead { play [] with ahead := .exhausted }
      )).renderer.phase = .tail := by decide +kernel

/-- A tone part whose pattern has been played. -/
def toneOver : State :=
  (inPhase active .item (play [.tone 8, .phrase 120])).setLevel
    { active.level with tone := some { pattern := 8, segment := 1, sample := 0 } }

theorem witness_ItemsEnd : toneOver.renderer.phase = .item ∧
    toneOver.level.tone = some { pattern := 8, segment := 1, sample := 0 } ∧
    ToneCtx.value { pattern := 8, segment := 1, sample := 0 } = none ∧
    streamLength (play [.phrase 120]).stream ≤ (play [.phrase 120]).played ∧
    (play [.pause 1, .phrase 120]).isLooking = false ∧
    (play [.tone 8, .phrase 120]).items[0 + 1]? = some (.phrase 120) ∧
    (after .patternEnd toneOver).renderer.timer = 640 ∧
    (after .itemEnd (inPhase active .item (play [.phrase 120]))).renderer.phase = .tail ∧
    (after .itemEnd (inPhase active .item { play [.phrase 120, .tone 1] with stop := .cut }
      )).renderer.phase = .tail ∧
    (after .pauseExpiry (inPhase active .item { play [.pause 1, .tone 1] with
      ahead := .sounds 1 })).level.tone = some { pattern := 1, segment := 0, sample := 0 } ∧
    { play [.pause 1] with ahead := .exhausted }.isLooking = false := by decide +kernel

/-- A PLAYING entry at the end of its play in a hold. -/
def ending (request : EndRequest) : State :=
  inPhase (inCtx (withEntries active [{ playing with
    endRequest := request, playKind := some .counted, remaining := some 1 }]) (.holding bid hold))
    .tail (play [.phrase 120])

theorem witness_PlaysEnd : (ending .none).renderer.timer = 0 ∧
    (ending .none).agenda.find 1 = some { playing with
      endRequest := .none, playKind := some .counted, remaining := some 1 } ∧
    (after .tailExpiry (ending .none)).agenda.entries = [] ∧
    (after .tailExpiry (ending (.retire .withdrawn))).events.queue =
      [.coldStart, .retired 1 3 .withdrawn 0] ∧
    (after .tailExpiry (ending .interrupt)).agenda.ids = (ending .interrupt).agenda.ids ∧
    (after .tailExpiry (ending .none)).line.doneSlot.frame = some .done ∧
    (after .fadeExpiry (inPhase (active.setRest { active.rest with part := .settling }) .fade
      (play []))).renderer.dropTimer = some 80 ∧
    { playing with playKind := some .counted }.account.remaining ≠ some 0 ∧
    (after .tailExpiry (ending .interrupt)).agenda.entries.map (fun e =>
      (e.owed, e.interrupted, e.replay)) = [(1, true, false)] ∧
    (ending .none).agenda.owner ≠ .entry 1 ∧
    (after .tailExpiry (ending (.retire .withdrawn))).renderer.phase = .idle ∧
    (after .tailExpiry (ending .none)).renderer.report =
      some { ticket := 1, ending := .completed } ∧
    (after .tailExpiry (inPhase active .tail { play [] with stop := .cut })).renderer.report =
      some { ticket := 1, ending := .cut } ∧
    (after .fadeExpiry (inPhase active .fade (play []))).renderer.report =
      some { ticket := 1, ending := .faded } ∧
    (ending (.retire .withdrawn)).agenda.entries.map (·.endRequest) = [.retire .withdrawn] ∧
    ((active.setRenderer { active.renderer with dropTimer := some 0 }).renderer.dropTimer) =
      some 0 := by decide +kernel

/-- A speech item at full gain, with a sample of -128 in the buffer. -/
def speaking : State :=
  ((inPhase active .item { play [.phrase 120] with
      stream := [{ start := 0, count := 2 }], filled := 2 }).setLevel
    { active.level with gain := 63 }).setFlash
      { active.flash with buffer := 0x80 :: List.replicate 255 0 }

/-- A fade from code 3048 with its whole ramp to come. -/
def fading : State :=
  active.setRenderer { phase := .fade, timer := 160, play := some { play [] with fadeFrom := 3048 },
                       enable := true, dropTimer := none,
                       report := none }

theorem witness_SamplePeriod : speaking.clocked = true ∧ speaking.level.count < 4000 ∧
    (active.setRest { active.rest with part := .dormant }).clocked = false ∧
    (after (.samplePeriod 0x80) speaking).level.dac = 0 ∧
    (after (.samplePeriod 0x80) speaking).level.sum = 128 ∧
    fading.renderer.timer ≤ 160 ∧ (after (.samplePeriod 0) fading).level.dac = 3041 ∧
    (tonePattern 8)[0]? = some { period := 15, samples := 2000 } ∧
    (after (.samplePeriod 0) (toneOver.setLevel { toneOver.level with
      gain := 63, tone := some { pattern := 8, segment := 0, sample := 1999 } })).level.tone =
      some { pattern := 8, segment := 1, sample := 0 } ∧
    (after (.samplePeriod 0) active).level.dac = 2048 := by decide +kernel
theorem witness_AmbientWindows :
    (after .ambientWindowEnd (active.setLevel { active.level with
      count := 4000, sum := 160000 })).level.amb = 32 ∧
    (active.setLevel { active.level with count := 4000 }).level.count = 4000 ∧
    gainCode { active.settings with baseLevel := 63, slope := 4 } 42 .safety false = 63 ∧
    gainCode active.settings 0 .step true = 28 ∧ active.settings.gainFloor ≤ 63 := by
  decide +kernel

/-- A compose of the built-in field has drawn all; the store is UNUSABLE. -/
def drawn : State :=
  (active.setFlash { active.flash with store := .unusable }).setDisplay
    { active.display with compose := .composing active.snapshot [], frameCount := 41 }

theorem witness_Frames : (match composeProgress drawn.flash.store active.snapshot [] with
      | some (.done _) => true
      | _ => false) = true ∧
    (after .composeEnd drawn).display.compose = .swapPending ∧
    (after .frameBoundary (after .composeEnd drawn)).display.compose = .idle ∧
    (after .frameBoundary drawn).display.blinkOn = false ∧ drawn.rest.part = .active ∧
    drawn.settings.palette[0]? = some { level := 0, blink := false } ∧
    (after .frameBoundary drawn).frameStream.length = 4096 ∧
    (after .frameBoundary drawn).displayPins 0 = { clock := true, data := false, frameStart := true } ∧
    (after .frameBoundary drawn).displayPins 1 = { clock := true, data := false, frameStart := false } ∧
    (after .frameBoundary drawn).displayPins 16383 =
      { clock := true, data := false, frameStart := false } ∧
    (after .frameBoundary drawn).displayPins 16384 =
      { clock := false, data := false, frameStart := false } ∧
    State.reset.rest.part ≠ .active := by decide +kernel
theorem witness_ItemsPaint : (builtInPicture active.snapshot).pixel 127 31 = 0 ∧
    (builtInPicture { active.snapshot with minutes := 255 }).pixel 61 15 = 3 := by decide +kernel

/-- A line one sample short of a change, the others at rest. -/
def oneShort (s : State) : State :=
  s.setPanel { s.panel with
    filters := { level := .low, count := 3, primed := true } ::
      List.replicate 7 { level := .low, count := 0, primed := true } }

/-- The key of a role is pressed while an entry is the display owner. -/
def pressing (role : Role) (e : Entry) : State :=
  let s := withEntries (active.setSettings { active.settings with roles := [role] }) [e]
  after (.panelSample 1) (oneShort (s.setAgenda { s.agenda with owner := .entry e.ticket }))

/-- An entry that the ACKNOWLEDGE key retires. -/
def acked (e : Entry) : Entry := { e with post := { e.post with retireOn := .ackKey } }

theorem witness_Panel : (oneShort active).doorSteady 1 = true ∧
    (oneShort active).presenceSteady 1 = true ∧ (oneShort active).clocked = true ∧
    ((oneShort active).filtersStepped 1).panel.keyDown active.settings = some 0 ∧
    ((oneShort active).filtersStepped 0).panel.keyDown active.settings = none ∧
    (oneShort active).panel.keysAtRest = true ∧
    (after (.panelSample 1) (oneShort active)).events.queue =
      [.coldStart, .key 0 .repeatKey] ∧
    (after (.panelSample 1) (oneShort (active.setRest { active.rest with part := .standby }))
      ).events.queue = [.coldStart, .standbyOff, .key 0 .repeatKey] ∧
    (after (.panelSample 1) (oneShort (withEntries active [{ entry 1 .waiting (aPost 3 .step) with
      lastPlayStart := some { seconds := 0, order := 0 } }]))).agenda.entries.map (fun e =>
        (e.state, e.replay)) = [(.ready, true)] ∧
    (pressing .language playing).agenda.entries.map (·.endRequest) = [.interrupt] ∧
    (pressing .language playing).panel.language ≠ active.panel.language ∧
    (pressing .acknowledge (acked playing)).agenda.entries.map (·.endRequest) =
      [.retire .acknowledged] ∧
    (pressing .acknowledge (acked ready)).agenda.entries.map (·.ticket) = [] ∧
    (pressing .acknowledge ready).agenda.entries.map (·.ticket) = [1] ∧
    ((oneShort active).setPanel { (oneShort active).panel with keysAtRest := false }
      ).panel.keysAtRest = false := by decide +kernel

/-- A key, the DOOR and the PRESENCE: the line of one level is one sample short of a change. -/
def furnished (presence : Presence) (roles : List Role) : State :=
  let s := oneShort (active.setSettings { active.settings with roles := roles })
  s.setPanel { s.panel with presence := presence }

theorem witness_PanelTogether :
    let press := furnished .absent [.keyOther, .door, .presence]
    let edge := furnished .absent [.door, .keyOther, .presence]
    let arrival := furnished .absent [.presence, .door, .keyOther]
    press.doorSteady 1 = true ∧ press.presenceSteady 1 = true ∧
    press.settings.lineOf .door = some 1 ∧ press.settings.lineOf .presence = some 2 ∧
    (after (.panelSample 1) press).events.queue = [.coldStart, .key 0 .keyOther] ∧
    edge.presenceSteady 1 = true ∧ edge.noPress 1 = true ∧
    (after (.panelSample 1) edge).events.queue = [.coldStart, .door 0 .opened] ∧
    arrival.doorSteady 1 = true ∧ arrival.noPress 1 = true ∧
    (after (.panelSample 1) arrival).events.queue = [.coldStart, .presence 0 true] := by
  decide +kernel

/-- The only line is a DOOR line. -/
def atDoor : State :=
  oneShort (withEntries (active.setSettings { active.settings with roles := [.door] })
    [entry 1 .ready { aPost 3 .step with retireOn := .doorOpens },
      entry 2 .waiting { aPost 4 .step with retireOn := .doorCloses }])

theorem witness_DoorEdge : atDoor.settings.lineOf .door = some 0 ∧
    atDoor.presenceSteady 1 = true ∧ atDoor.noPress 1 = true ∧
    (atDoor.filtersStepped 1).panel.atRest atDoor.settings 0 = false ∧
    atDoor.panel.door ≠ .opened ∧
    (after (.panelSample 1) (withEntries (atDoor.setRest { atDoor.rest with part := .standby }) [])
      ).events.queue = [.coldStart, .standbyOff, .door 0 .opened] ∧
    (after (.panelSample 1) (withEntries atDoor [entry 1 .playing { aPost 3 .step with
      retireOn := .doorOpens }])).agenda.entries.map (·.endRequest) = [.retire .satisfied] ∧
    (after (.panelSample 1) atDoor).agenda.entries.map (·.ticket) = [2] ∧
    (after (.panelSample 1) (oneShort ((atDoor.setSettings { atDoor.settings with
      wakeSources := { host := false, door := true, presence := false } }).setRest
        { atDoor.rest with part := .dormant }))).rest.wakeReport = some .door := by decide +kernel

/-- The only line is a PRESENCE line, and the user is away. -/
def away : State :=
  let s := oneShort (active.setSettings { active.settings with roles := [.presence] })
  s.setPanel { s.panel with presence := .absent, sessionTimer := some 7 }

theorem witness_Presence : away.doorSteady 1 = true ∧
    away.settings.lineOf .presence = some 0 ∧ away.noPress 1 = true ∧
    away.panel.atRest away.settings 0 = true ∧
    (away.filtersStepped 1).panel.atRest away.settings 0 = false ∧
    (after (.panelSample 1) away).events.queue = [.coldStart, .presence 0 true] ∧
    (after (.panelSample 1) (away.setRest { away.rest with part := .standby })).events.queue =
      [.coldStart, .standbyOff, .presence 0 true] ∧
    (after (.panelSample 1) (away.setPanel { away.panel with
      presence := .present, holdTimer := some 4 })).panel.holdTimer = none ∧
    (after (.panelSample 0) (away.setPanel { away.panel with
      presence := .present, filters := [{ level := .high, count := 3, primed := true }] })
      ).panel.holdTimer = some 100 := by decide +kernel

theorem witness_SatisfiedInOrder :
    (after (.panelSample 1) (withEntries atDoor
      [entry 7 .ready { aPost 3 .step with retireOn := .doorOpens }, entry 2 .waiting (aPost 4 .step),
        entry 1 .waiting { aPost 5 .hint with retireOn := .doorOpens }])).events.queue =
      [.coldStart, .door 0 .opened, .retired 7 3 .satisfied 0, .retired 1 5 .satisfied 0] := by
  decide +kernel
theorem witness_ArrivalOpensTheGate : (withEntries away [playing]).agenda.isPlaying = true ∧
    ((after (.panelSample 1) (withEntries away [playing, entry 2 .waiting (aPost 4 .hint)])
      ).agenda.entries.map (·.state)) = [.playing, .ready] := by decide +kernel

/-- SETTLING with the speaker at rest. -/
def settling : State := active.setRest { active.rest with
  part := .settling, settlingLimit := some 0 }

theorem witness_DormantEntry : settling.line.doneSlot.frame = none ∧
    settling.renderer.phase = .idle ∧ settling.renderer.enable = false ∧
    settling.rest.settlingLimit = some 0 ∧
    (sending settling .done .done 0).line.doneSlot.frame ≠ none ∧
    (after .dormantEntry settling).rest.part = .dormant ∧
    (after .dormantEntry (reading settling .compose false)).flash.port = none ∧
    (reading settling .compose false).flash.store ≠ .scanning ∧
    State.reset.flash.store = .scanning ∧
    (after .dormantEntry (settling.setRenderer { settling.renderer with
      report := some { ticket := 1, ending := .faded } })).renderer.report =
        some { ticket := 1, ending := .faded } ∧
    (after .settlingLimit (sending settling .done .done 0)).events.queue =
      [.coldStart, .lineAbandoned .done] := by decide +kernel

/-- DORMANT with the host as wake source. -/
def dormant : State :=
  (active.setSettings { active.settings with
    wakeSources := { host := true, door := false, presence := false } }).setRest
      { active.rest with part := .dormant, wakeReport := some .door }

/-- WAKING with its 5 ms passed. -/
def waking : State :=
  (active.setRest { active.rest with part := .waking }).setTimebase
    { active.timebase with wakeSettle := some 0 }

/-- The part wakes with a DOOR and a PRESENCE line, of which the presence is a wake source. -/
def wokenWith (levels : BitVec 8) : State :=
  after (.wakingEnd levels) (waking.setSettings { waking.settings with
    roles := [.repeatKey, .door, .presence], wakeSources :=
      { host := true, door := false, presence := true } })

theorem witness_WakePanel : (wokenWith 0).panel.door = .closed ∧
    (wokenWith 7).panel.door = .opened ∧ (wokenWith 7).panel.keysAtRest = false ∧
    (wokenWith 6).panel.keysAtRest = true ∧ (wokenWith 7).panel.presence = .present ∧
    (wokenWith 7).panel.filters.map (·.primed) =
      [true, true, false, true, true, true, true, true] ∧
    (wokenWith 0).panel.sessionTimer = none ∧
    (wokenWith 0).display.compose = .composing (wokenWith 0).snapshot [] ∧
    requestRow (frame 9 [7]) = none ∧
    (after (.wakingEnd 0) (asking waking 9 [7])).host.slot =
      some (responseFrame .malformed false []) := by decide +kernel

/-- DORMANT with no edge marked. -/
def asleep : State := dormant.setRest { dormant.rest with wakeReport := none }

theorem witness_Wake : dormant.settings.wakeSources.host = true ∧
    dormant.rest.wakeReport = some .door ∧ Level.high ≠ dormant.settings.qualifier ∧
    (after (.wake (.hostSelect .low)) dormant).events.queue = [.coldStart, .woke .door] ∧
    (after (.wake (.hostSelect .low)) dormant).host.discard = false ∧
    asleep.rest.wakeReport = none ∧ asleep.settings.qualifier = .low ∧
    (after (.wake (.hostSelect .low)) asleep).rest.part = .waking ∧
    (after (.writeTransaction (0xA1 :: frame 7 [])) (after (.wake (.hostSelect .low)) asleep)
      ).host.request = none ∧
    (after (.wake (.hostSelect .high)) asleep).rest.part = .dormant ∧
    waking.timebase.wakeSettle = some 0 ∧ waking.host.request = none ∧
    requestRow (frame 7 []) = some .status ∧ readRequest (frame 7 []) = some (7, []) ∧
    (after (.wakingEnd 0) (asking waking 7 [])).host.slot.isSome = true ∧
    (after (.wakingEnd 0) waking).rest.part = .active := by decide +kernel
theorem witness_Laws : State.reset.events.queue.length ≤ 16 ∧
    (State.reset.rest.warm = true ↔ State.reset.rest.part ≠ .unset) ∧
    State.reset.timebase.station < 32 ∧ active.agenda.tickets = [] ∧
    State.reset.agenda.isPlaying = false ∧ playing.owed ≤ 8 ∧ playing.ahead ≤ 8 ∧
    [playing, ready].filter Entry.busy = [playing] ∧
    stationsFrom 4 0 [3, 5, 31] = true ∧ stationsFrom 4 0 [4] = false ∧
    (inCtx looking (.holding bid hold)).floor.ctx.isHolding = true ∧
    (looking.renderer.play.map (·.route)) = some .floor := by decide +kernel

end Sys2Proof.Tests
end

/-! ## The urgency key (02 R28)

Stage 3 of R28 and stages 1, 2 and 4 are one equation of `urgencyKey` each. The rows of the manual's table of
classes (02 2.1) are the values of `bandLow`, `bandHigh` and `ageingRate`, so the equations settle every row. -/

namespace Sys2Proof.Machine

/-- Escalation (02 R28, stage 3). -/
theorem urgencyKey_of_escalated {cls : PromptClass} {wait owed : Nat} {replay : Bool}
    (h : owed = 8 ∨ replay = true) : urgencyKey cls wait owed replay = bandHigh cls :=
  if_pos h

/-- Base, bonus and owed plays, clamped to the band (02 R28, stages 1, 2 and 4). -/
theorem urgencyKey_of_not_escalated {cls : PromptClass} {wait owed : Nat} {replay : Bool}
    (h : ¬ (owed = 8 ∨ replay = true)) :
    urgencyKey cls wait owed replay =
      max (bandLow cls) (min (bandLow cls + wait * ageingRate cls / 4 + 4 * owed) (bandHigh cls)) :=
  if_neg h

/-- The row of a class in the table of 02 2.1: the class, its band low, its band high and its ageing rate. -/
def classRow (cls : PromptClass) : PromptClass × Nat × Nat × Nat :=
  (cls, bandLow cls, bandHigh cls, ageingRate cls)

/-- The six rows of 02 2.1, as the manual prints them, are the rows of the model's six classes. -/
theorem map_classRow_classes :
    [PromptClass.safety, .action, .ending, .step, .hint, .idle].map classRow =
      [(.safety, 192, 255, 16), (.action, 144, 191, 8), (.ending, 112, 143, 4), (.step, 80, 111, 2),
        (.hint, 48, 79, 1), (.idle, 16, 47, 0)] :=
  rfl

/-- Settles O5: each row of the table is the row of a class, and the key of a class follows from the two
equations of `urgencyKey`, by whether the entry is escalated. -/
theorem urgencyKeyOfClassWaitAndOwed : Obligations.UrgencyKeyOfClassWaitAndOwed := by
  intro row hrow wait owed replay
  rw [← map_classRow_classes] at hrow
  obtain ⟨cls, -, rfl⟩ := List.mem_map.mp hrow
  by_cases hesc : owed = 8 ∨ replay = true
  · rw [if_pos hesc]
    exact urgencyKey_of_escalated hesc
  · rw [if_neg hesc]
    exact urgencyKey_of_not_escalated hesc

end Sys2Proof.Machine

/-! ## The level of a window's mean (07 R126)

A mean of 2 or more is a power of two, its highest bit, and a remainder below that power. `levelOfMean_two_pow_add`
gives its level in these terms; the law of doubling and the range follow from it without the model's own
definition. -/

namespace Sys2Proof.Machine

/-- The fine part of a level, by the two bits below the highest bit of the mean (07 R126). -/
def fineLevel (f : Nat) : Nat :=
  if f = 0 then 0 else if f = 1 then 2 else if f = 2 then 4 else 5

theorem fineLevel_le (f : Nat) : fineLevel f ≤ 5 := by
  unfold fineLevel
  repeat' split
  all_goals omega

theorem highestBit_two_pow_add {h low : Nat} (hlow : low < 2 ^ h) : highestBit (2 ^ h + low) = h := by
  have hpos : 0 < 2 ^ h := Nat.two_pow_pos h
  refine (Nat.log2_eq_iff (by omega)).mpr ⟨by omega, ?_⟩
  rw [Nat.pow_succ]
  omega

/-- The highest bit of a mean of 2 or more, and what lies below it. -/
theorem exists_two_pow_add {mean : Nat} (hmean : 2 ≤ mean) :
    ∃ h low, 1 ≤ h ∧ low < 2 ^ h ∧ mean = 2 ^ h + low := by
  obtain ⟨hle, hlt⟩ := (Nat.log2_eq_iff (n := mean) (by omega)).mp rfl
  refine ⟨mean.log2, mean - 2 ^ mean.log2, (Nat.le_log2 (by omega)).mpr hmean, ?_, by omega⟩
  rw [Nat.pow_succ] at hlt
  omega

/-- The two bits that `levelOfMean` reads below the highest bit are the top two bits of the remainder. -/
theorem two_bits_below_highest {h low : Nat} (hlow : low < 2 ^ h) :
    (2 ^ h + low) * 4 / 2 ^ h % 4 = low * 4 / 2 ^ h := by
  have hpos : 0 < 2 ^ h := Nat.two_pow_pos h
  have hlt : low * 4 / 2 ^ h < 4 := (Nat.div_lt_iff_lt_mul hpos).mpr (by omega)
  calc (2 ^ h + low) * 4 / 2 ^ h % 4
      = (low * 4 + 2 ^ h * 4) / 2 ^ h % 4 := by rw [Nat.add_mul, Nat.add_comm]
    _ = (low * 4 / 2 ^ h + 4) % 4 := by rw [Nat.add_mul_div_left _ _ hpos]
    _ = low * 4 / 2 ^ h := by rw [Nat.add_mod_right, Nat.mod_eq_of_lt hlt]

theorem levelOfMean_of_le_one {mean : Nat} (hmean : mean ≤ 1) : levelOfMean mean = 0 :=
  if_pos (by omega)

/-- `levelOfMean` of a mean of 2 or more, its fine part named. -/
theorem levelOfMean_of_two_le {mean : Nat} (hmean : 2 ≤ mean) :
    levelOfMean mean =
      6 * highestBit mean + fineLevel (mean * 4 / 2 ^ highestBit mean % 4) := by
  have hnot : ¬ mean < 2 := by omega
  simp only [levelOfMean, if_neg hnot]
  generalize mean * 4 / 2 ^ highestBit mean % 4 = f
  congr 1
  match f with
  | 0 | 1 | 2 | _ + 3 => rfl

/-- A = 6 × h + fine (07 R126). -/
theorem levelOfMean_two_pow_add {h low : Nat} (hh : 1 ≤ h) (hlow : low < 2 ^ h) :
    levelOfMean (2 ^ h + low) = 6 * h + fineLevel (low * 4 / 2 ^ h) := by
  have htwo : 2 ^ 1 ≤ 2 ^ h := Nat.pow_le_pow_right (by omega) hh
  rw [levelOfMean_of_two_le (by omega), highestBit_two_pow_add hlow, two_bits_below_highest hlow]

/-- Each doubling of the mean raises the level by 6 (07 R126): the highest bit moves up by one and the two bits
below it stay. -/
theorem levelOfMean_two_mul {mean : Nat} (hmean : 1 ≤ mean) :
    levelOfMean (2 * mean) = levelOfMean mean + 6 := by
  obtain rfl | htwo : mean = 1 ∨ 2 ≤ mean := by omega
  · decide
  · obtain ⟨h, low, hh, hlow, rfl⟩ := exists_two_pow_add htwo
    have hdouble : 2 * (2 ^ h + low) = 2 ^ (h + 1) + 2 * low := by rw [Nat.pow_succ]; omega
    have hlow' : 2 * low < 2 ^ (h + 1) := by rw [Nat.pow_succ]; omega
    have hbits : 2 * low * 4 / 2 ^ (h + 1) = low * 4 / 2 ^ h := by
      rw [Nat.pow_succ', Nat.mul_assoc, Nat.mul_div_mul_left _ _ (by omega)]
    rw [hdouble, levelOfMean_two_pow_add (by omega) hlow', hbits, levelOfMean_two_pow_add hh hlow]
    omega

/-- The level of 128, whose bits below the highest are all 0. -/
theorem levelOfMean_128 : levelOfMean 128 = 42 :=
  levelOfMean_two_pow_add (h := 7) (low := 0) (by omega) (by omega)

/-- The levels end at 42 (07 R126): below 128 the highest bit is at most bit 6, and the fine part at most 5. -/
theorem levelOfMean_le {mean : Nat} (hmean : mean ≤ 128) : levelOfMean mean ≤ 42 := by
  obtain hone | rfl | ⟨htwo, hlt⟩ : mean ≤ 1 ∨ mean = 128 ∨ 2 ≤ mean ∧ mean < 2 ^ 7 := by omega
  · rw [levelOfMean_of_le_one hone]
    omega
  · exact levelOfMean_128.le
  · obtain ⟨h, low, hh, hlow, rfl⟩ := exists_two_pow_add htwo
    have hpow : 2 ^ h < 2 ^ 7 := (Nat.le_add_right _ low).trans_lt hlt
    have hseven : h < 7 := (Nat.pow_lt_pow_iff_right (by omega)).mp hpow
    have hfine := fineLevel_le (low * 4 / 2 ^ h)
    rw [levelOfMean_two_pow_add hh hlow]
    omega

/-- Settles O46: the two cases of R126 by the highest bit of the mean, then doubling and the range, which follow
from the second case. -/
theorem levelOfAMean : Obligations.LevelOfAMean :=
  ⟨fun _ => levelOfMean_of_le_one, fun _ _ => levelOfMean_two_pow_add, fun _ => levelOfMean_two_mul,
    levelOfMean_128, fun _ => levelOfMean_le⟩

end Sys2Proof.Machine

/-! ## The gain code of a play (07 R129) -/

namespace Sys2Proof.Machine

/-- Step 1 of R129: the room compensation, its quotient rounded down. -/
def compensation (cfg : Settings) (amb : Nat) : Int :=
  max 0 (min 12 ((((amb : Int) - cfg.aref) * cfg.slope).fdiv 4))

/-- Steps 1 to 4 of R129 before the clamp: V + C + S − Iso. -/
def gainSum (cfg : Settings) (amb : Nat) (cls : PromptClass) (isolated : Bool) : Int :=
  cfg.baseLevel + compensation cfg amb + (if cls = .safety then 6 else 0) -
    (if isolated = true then 12 else 0)

/-- The gain code is the clamped sum. The model divides by `/`, which for the divisor 4 rounds down as R129's floor
does, and its `toNat` loses nothing, the lower end of the clamp being a natural number. -/
theorem coe_gainCode (cfg : Settings) (amb : Nat) (cls : PromptClass) (isolated : Bool) :
    (gainCode cfg amb cls isolated : Int) =
      max (cfg.gainFloor : Int) (min 63 (gainSum cfg amb cls isolated)) := by
  have hfloor (n : Int) : n.fdiv 4 = n / 4 := Int.fdiv_eq_ediv_of_nonneg n (by decide)
  unfold gainSum compensation
  rw [hfloor]
  exact Int.toNat_of_nonneg ((Int.natCast_nonneg _).trans (le_max_left _ _))

theorem gainFloor_le_gainCode (cfg : Settings) (amb : Nat) (cls : PromptClass) (isolated : Bool) :
    cfg.gainFloor ≤ gainCode cfg amb cls isolated := by
  have hcode := coe_gainCode cfg amb cls isolated
  omega

theorem gainCode_le (cfg : Settings) (amb : Nat) (cls : PromptClass) (isolated : Bool)
    (hfloor : cfg.gainFloor ≤ 63) : gainCode cfg amb cls isolated ≤ 63 := by
  have hcode := coe_gainCode cfg amb cls isolated
  omega

/-- Settles O48: the code is the clamped sum of R129's four steps, and the clamp gives the range. -/
theorem gainCodeOfAPlay : Obligations.GainCodeOfAPlay := by
  intro cfg amb cls isolated hfloor
  exact ⟨coe_gainCode cfg amb cls isolated, gainFloor_le_gainCode cfg amb cls isolated,
    gainCode_le cfg amb cls isolated hfloor⟩

end Sys2Proof.Machine

/-! ## What each command does

The dispatch (Machine/Dispatch.lean) read once: each command answers one next state. -/

namespace Sys2Proof.Machine

@[simp] theorem exec_coldReset (s : State) (stn : BitVec 5) (xsel : BitVec 2) :
    exec (.coldReset stn xsel) s = .next (s.coldStarted stn xsel) := rfl
@[simp] theorem exec_directoryScan (s : State) : exec .directoryScan s = .next s.scanStarted := rfl
@[simp] theorem exec_directoryBad (s : State) :
    exec .directoryBad s = .next s.directoryJudged := rfl
@[simp] theorem exec_flashGrant (s : State) : exec .flashGrant s = .next s.granted := rfl
@[simp] theorem exec_flashReadDone (s : State) : exec .flashReadDone s = .next s.readDone := rfl
@[simp] theorem exec_writeTransaction (s : State) (bytes : List Byte) :
    exec (.writeTransaction bytes) s = .next (s.written bytes) := rfl
@[simp] theorem exec_readTransaction (s : State) (clocked : Nat) :
    exec (.readTransaction clocked) s = .next (s.read clocked) := rfl
@[simp] theorem exec_setup (s : State) :
    exec .setup s = .next (s.runRequest .setup State.setupEffect) := rfl
@[simp] theorem exec_post (s : State) :
    exec .post s = .next (s.runRequest .post State.postEffect) := rfl
@[simp] theorem exec_withdraw (s : State) :
    exec .withdraw s = .next (s.runRequest .withdraw State.withdrawEffect) := rfl
@[simp] theorem exec_machine (s : State) :
    exec .machine s = .next (s.runRequest .machine State.machineEffect) := rfl
@[simp] theorem exec_basepage (s : State) :
    exec .basepage s = .next (s.runRequest .basepage State.basepageEffect) := rfl
@[simp] theorem exec_events (s : State) :
    exec .events s = .next (s.runRequest .events State.eventsEffect) := rfl
@[simp] theorem exec_status (s : State) :
    exec .status s = .next (s.runRequest .status State.statusEffect) := rfl
@[simp] theorem exec_roster (s : State) :
    exec .roster s = .next (s.runRequest .roster State.rosterEffect) := rfl
@[simp] theorem exec_restStandby (s : State) :
    exec .restStandby s = .next (s.runRequest .restStandby State.restStandbyEffect) := rfl
@[simp] theorem exec_restDormant (s : State) :
    exec .restDormant s = .next (s.runRequest .restDormant State.restDormantEffect) := rfl
@[simp] theorem exec_restActive (s : State) :
    exec .restActive s = .next (s.runRequest .restActive State.restActiveEffect) := rfl
@[simp] theorem exec_sessionEnd (s : State) :
    exec .sessionEnd s = .next (s.runRequest .sessionEnd State.sessionEndEffect) := rfl
@[simp] theorem exec_frameStart (s : State) (boundary : Boundary) :
    exec (.frameStart boundary) s = .next (s.frameStarted boundary.idle boundary.edge) := rfl
@[simp] theorem exec_loss (s : State) (first second : Byte) :
    exec (.loss first second) s = .next (s.lossTaken first second) := rfl
@[simp] theorem exec_transmitFailure (s : State) :
    exec .transmitFailure s = .next s.transmitFailed := rfl
@[simp] theorem exec_frameTransmitted (s : State) :
    exec .frameTransmitted s = .next s.frameSent := rfl
@[simp] theorem exec_frameReceived (s : State) (chars : List Byte) :
    exec (.frameReceived chars) s = .next (s.frameHeard chars) := rfl
@[simp] theorem exec_lineStuck (s : State) : exec .lineStuck s = .next s.lineHeld := rfl
@[simp] theorem exec_duplicateTimerExpiry (s : State) :
    exec .duplicateTimerExpiry s = .next s.duplicateExpired := rfl
@[simp] theorem exec_claimAgeExpiry (s : State) (station : Nat) :
    exec (.claimAgeExpiry station) s = .next (s.claimAged station) := rfl
@[simp] theorem exec_holdTimerExpiry (s : State) (station : Nat) :
    exec (.holdTimerExpiry station) s = .next (s.holdAged station) := rfl
@[simp] theorem exec_settleComplete (s : State) :
    exec .settleComplete s = .next s.settleCompleted := rfl
@[simp] theorem exec_windowExpiry (s : State) : exec .windowExpiry s = .next s.windowExpired := rfl
@[simp] theorem exec_renewalExpiry (s : State) :
    exec .renewalExpiry s = .next s.renewalExpired := rfl
@[simp] theorem exec_tick1s (s : State) : exec .tick1s s = .next s.secondTicked := rfl
@[simp] theorem exec_cadenceExpiry (s : State) (ticket : Nat) :
    exec (.cadenceExpiry ticket) s = .next (s.cadenceExpired ticket) := rfl
@[simp] theorem exec_expired (s : State) (ticket : Nat) :
    exec (.expired ticket) s = .next (s.expiryTaken ticket) := rfl
@[simp] theorem exec_samplePeriod (s : State) (adc : BitVec 8) :
    exec (.samplePeriod adc) s = .next (s.sampleTaken adc) := rfl
@[simp] theorem exec_leadExpiry (s : State) : exec .leadExpiry s = .next s.leadExpired := rfl
@[simp] theorem exec_itemEnd (s : State) : exec .itemEnd s = .next s.speechItemEnded := rfl
@[simp] theorem exec_patternEnd (s : State) : exec .patternEnd s = .next s.patternEnded := rfl
@[simp] theorem exec_gapExpiry (s : State) : exec .gapExpiry s = .next s.gapExpired := rfl
@[simp] theorem exec_pauseExpiry (s : State) : exec .pauseExpiry s = .next s.pauseExpired := rfl
@[simp] theorem exec_tailExpiry (s : State) : exec .tailExpiry s = .next s.tailExpired := rfl
@[simp] theorem exec_fadeExpiry (s : State) : exec .fadeExpiry s = .next s.fadeExpired := rfl
@[simp] theorem exec_enableDrop (s : State) : exec .enableDrop s = .next s.enableDropped := rfl
@[simp] theorem exec_ambientWindowEnd (s : State) :
    exec .ambientWindowEnd s = .next s.windowEnded := rfl
@[simp] theorem exec_composeEnd (s : State) : exec .composeEnd s = .next s.composeEnded := rfl
@[simp] theorem exec_frameBoundary (s : State) : exec .frameBoundary s = .next s.frameBegun := rfl
@[simp] theorem exec_panelSample (s : State) (levels : BitVec 8) :
    exec (.panelSample levels) s = .next (s.panelSampled levels) := rfl
@[simp] theorem exec_presenceHoldExpiry (s : State) :
    exec .presenceHoldExpiry s = .next s.presenceHoldExpired := rfl
@[simp] theorem exec_sessionTimeout (s : State) :
    exec .sessionTimeout s = .next s.sessionTimedOut := rfl
@[simp] theorem exec_beaconTimerExpiry (s : State) :
    exec .beaconTimerExpiry s = .next s.beaconExpired := rfl
@[simp] theorem exec_rosterAgeExpiry (s : State) (station : Nat) :
    exec (.rosterAgeExpiry station) s = .next (s.peerAged station) := rfl
@[simp] theorem exec_idleTimerExpiry (s : State) :
    exec .idleTimerExpiry s = .next s.idleExpired := rfl
@[simp] theorem exec_settlingLimit (s : State) :
    exec .settlingLimit s = .next s.settlingRanOut := rfl
@[simp] theorem exec_dormantEntry (s : State) : exec .dormantEntry s = .next s.dormantTaken := rfl
@[simp] theorem exec_wake (s : State) (event : WakeEvent) :
    exec (.wake event) s = .next (s.wakeTaken event) := rfl
@[simp] theorem exec_wakingEnd (s : State) (levels : BitVec 8) :
    exec (.wakingEnd levels) s = .next (s.wakingEnded levels) := rfl
@[simp] theorem exec_idleGap (s : State) : exec .idleGap s = .next s.gapReached := rfl
@[simp] theorem exec_receiveFault (s : State) (chars : List Byte) (ending : RxEnd) :
    exec (.receiveFault chars ending) s = .next (s.faultReceived chars ending) := rfl
@[simp] theorem exec_settleTick (s : State) : exec .settleTick s = .next s.settleTicked := rfl

/-- A step is one millisecond on an empty queue, and otherwise the command at the front (log 2). -/
theorem step_of_pending_nil {s : State} (h : s.pending = []) : step s = .next s.idled := by
  simp only [step, h]

theorem step_of_pending_cons {s : State} {c : Instr} {rest : List Instr}
    (h : s.pending = c :: rest) : step s = exec c (s.setPending rest) := by
  simp only [step, h]

/-- Every command answers a next state. -/
theorem exists_exec_eq_next (c : Instr) (s : State) : ∃ t, exec c s = .next t := by
  cases c <;> exact ⟨_, rfl⟩

/-- What a step can do: one millisecond, or the command at the front. -/
theorem step_eq_next {s t : State} (h : step s = .next t) :
    t = s.idled ∨ ∃ c rest, exec c (s.setPending rest) = .next t := by
  cases hq : s.pending with
  | nil =>
      rw [step_of_pending_nil hq] at h
      exact .inl (Host.Outcome.next.inj h).symm
  | cons c rest => exact .inr ⟨c, rest, step_of_pending_cons hq ▸ h⟩

/-! ### The frame of an operation -/

/-- The frame, written out block by block. -/
theorem State.changedIn_iff {t s : State} {blocks : List Block} :
    t.changedIn s blocks ↔ t.phraseStore = s.phraseStore ∧ t.pending = s.pending ∧
      (.timebase ∉ blocks → t.timebase = s.timebase) ∧ (.host ∉ blocks → t.host = s.host) ∧
      (.machine ∉ blocks → t.machine = s.machine) ∧ (.settings ∉ blocks → t.settings = s.settings) ∧
      (.agenda ∉ blocks → t.agenda = s.agenda) ∧ (.floor ∉ blocks → t.floor = s.floor) ∧
      (.line ∉ blocks → t.line = s.line) ∧ (.roster ∉ blocks → t.roster = s.roster) ∧
      (.flash ∉ blocks → t.flash = s.flash) ∧ (.renderer ∉ blocks → t.renderer = s.renderer) ∧
      (.level ∉ blocks → t.level = s.level) ∧ (.display ∉ blocks → t.display = s.display) ∧
      (.panel ∉ blocks → t.panel = s.panel) ∧ (.events ∉ blocks → t.events = s.events) ∧
      (.rest ∉ blocks → t.rest = s.rest) := by
  unfold State.changedIn
  refine and_congr Iff.rfl (and_congr Iff.rfl ⟨fun h => ?_, fun h b => ?_⟩)
  · exact ⟨h .timebase, h .host, h .machine, h .settings, h .agenda, h .floor, h .line, h .roster,
      h .flash, h .renderer, h .level, h .display, h .panel, h .events, h .rest⟩
  · obtain ⟨h1, h2, h3, h4, h5, h6, h7, h8, h9, h10, h11, h12, h13, h14, h15⟩ := h
    cases b <;> assumption

/-- Frames compose. -/
theorem State.changedIn_trans {u t s : State} {blocks : List Block} (h : u.changedIn t blocks)
    (g : t.changedIn s blocks) : u.changedIn s blocks := by
  refine ⟨h.1.trans g.1, h.2.1.trans g.2.1, fun b hb => ?_⟩
  have hut := h.2.2 b hb
  have hts := g.2.2 b hb
  cases b <;> exact Eq.trans hut hts

/-- A frame holds for any larger set of blocks. -/
theorem State.changedIn_mono {t s : State} {blocks more : List Block} (h : t.changedIn s blocks)
    (sub : blocks ⊆ more) : t.changedIn s more :=
  ⟨h.1, h.2.1, fun b hb => h.2.2 b fun hmem => hb (sub hmem)⟩

@[simp] theorem State.changedIn_refl (s : State) (blocks : List Block) : s.changedIn s blocks :=
  ⟨rfl, rfl, fun b _ => by cases b <;> rfl⟩

/-- Settles O1. -/
theorem stepTakesTheFront : Obligations.StepTakesTheFront := fun _ _ _ => step_of_pending_cons

/-- Settles O55: by the front of the queue. -/
theorem everyStepHasANextState : Obligations.EveryStepHasANextState := by
  intro s
  cases hq : s.pending with
  | nil => exact ⟨_, step_of_pending_nil hq⟩
  | cons c rest => exact step_of_pending_cons hq ▸ exists_exec_eq_next c _

/-! ### Cold reset (11 R178) -/

/-- Settles O3: the fields of `State.afterReset`, and COLD_START raises ATTN under the initial mask. -/
theorem resetLeavesThePartCold : Obligations.ResetLeavesThePartCold := by
  repeat' constructor

/-- Settles O4. -/
theorem coldResetStartsThePartAfresh : Obligations.ColdResetStartsThePartAfresh := by
  intro stn xsel s
  refine ⟨_, exec_coldReset s stn xsel, ?_⟩
  repeat' constructor

/-- The laws hold in every state that a cold reset can leave: the lists, the roster and the agenda are empty, and no
play runs. -/
theorem State.afterReset_laws (station : Nat) (crystal : BitVec 2) (buffer : List Byte)
    (store : List Host.Cell) (pending : List Instr) (hstrap : station < 32) :
    let s := State.afterReset station crystal buffer store pending
    s.events.bounded ∧ s.warmLawful ∧ s.strapLawful ∧ s.listsLawful ∧ s.rosterLawful ∧
      s.agenda.lawful ∧ s.turnLawful ∧ s.agenda.creditLawful ∧ s.speechLawful := by
  simp [State.afterReset, EventQueue.bounded, State.warmLawful, State.strapLawful, hstrap,
    State.listsLawful, State.rosterLawful, stationsFrom, Agenda.lawful, Agenda.tickets,
    State.turnLawful, FloorCtx.bidding, Agenda.creditLawful, State.speechLawful]

/-- Settles O60: both states are ones that a cold reset leaves. -/
theorem resetHasTheLaws : Obligations.ResetHasTheLaws := by
  intro s hs
  obtain rfl | ⟨stn, xsel, s', h⟩ := hs
  · obtain ⟨h1, h2, h3, h4, h5, h6, h7, h8, h9⟩ :=
      State.afterReset_laws 0 0 (List.replicate 256 0) [] [] (by decide)
    exact ⟨h1, h2, h3, h4, h5, h6, h7, h8, h9, fun _ => ⟨rfl, rfl⟩⟩
  · rw [exec_coldReset] at h
    obtain rfl := Host.Outcome.next.inj h
    obtain ⟨h1, h2, h3, h4, h5, h6, h7, h8, h9⟩ :=
      State.afterReset_laws stn.toNat xsel s'.flash.buffer s'.phraseStore s'.pending stn.isLt
    refine ⟨h1, h2, h3, h4, h5, h6, h7, h8, h9, fun hreset => ?_⟩
    rw [hreset]
    exact ⟨rfl, rfl⟩

/-! ### Number phrases (06 R114) -/

/-- Settles O9: the model's cases are R114's, 0 to 19 being below 20. -/
theorem numberPhrasesOfAValue : Obligations.NumberPhrasesOfAValue := by
  intro v _ unitsFirst
  simp only [numberPhrases, Nat.lt_succ_iff (n := 19)]

/-! ### The ambient window (07 R125 to R127) -/

/-- Settles O47: the window is full, and its test of the marks and the part state is R127's. -/
theorem ambientWindowsEnd : Obligations.AmbientWindowsEnd := by
  intro s hfull
  have hcounts : s.windowCounts = true ↔ s.level.soundingSeen = false ∧ s.level.holderSeen = false ∧
      (s.rest.part = .unset ∨ s.rest.part = .active) := by
    simp [State.windowCounts, and_assoc]
  rw [exec_ambientWindowEnd, State.windowEnded, if_pos hfull]
  simp only [hcounts, Config.windowSamples]

end Sys2Proof.Machine

/-! ## Requests, part states, and the law of O56

A held request is a refusal, a response or the row's own steps (10 R168); the part state changes only where chapter 11
says so, and never back to UNSET. -/

namespace Sys2Proof.Machine

/-! ### What the execution of a request can do (10 R168) -/

/-- A request of a row runs its own steps when its frame is good and the part state does not refuse it. -/
def State.runs (s : State) (row : RequestRow) (body : List Byte) : Prop :=
  s.asks row body ∧ s.stateRefusal row = none

/-- What a row's command does: nothing, a response that refuses it, or its own steps. -/
theorem State.runRequest_cases (s : State) (row : RequestRow)
    (effect : State → List Byte → State) :
    s.runRequest row effect = s ∨ (∃ result, s.runRequest row effect = s.respond result []) ∨
      ∃ body, s.runs row body ∧ s.runRequest row effect = effect s body := by
  unfold State.runRequest
  split
  · exact .inl rfl
  next buffer hheld =>
    obtain ⟨hexec, hbuf, hrow⟩ : s.executes = true ∧ s.host.request = some buffer ∧
        requestRow buffer = some row := by
      simpa [State.held, Option.filter_eq_some_iff] using hheld
    split
    · exact .inr (.inl ⟨_, rfl⟩)
    next body hread =>
      split
      · exact .inr (.inl ⟨_, rfl⟩)
      next hfree => exact .inr (.inr ⟨body, ⟨⟨hexec, buffer, _, hbuf, hrow, hread⟩, hfree⟩, rfl⟩)

/-- A request that is asked for and not refused runs its own steps. -/
theorem State.runRequest_of_runs {s : State} {row : RequestRow} {body : List Byte}
    (h : s.runs row body) (effect : State → List Byte → State) :
    s.runRequest row effect = effect s body := by
  obtain ⟨⟨hexec, buffer, code, hbuf, hrow, hread⟩, hfree⟩ := h
  have hheld : s.held row = some buffer := by
    simp [State.held, hexec, hbuf, hrow, Option.filter]
  simp only [State.runRequest, hheld, hread, hfree]

/-- A request that runs is not one that UNSET refuses (10 R168). -/
theorem State.runs_part {s : State} {row : RequestRow} {body : List Byte} (h : s.runs row body) :
    s.executes = true ∧ (row = .setup ∧ s.rest.warm = false ∨ row = .status ∨ row = .roster ∨
      row = .events ∨ s.rest.part ≠ .unset) := by
  obtain ⟨⟨hexec, -⟩, hfree⟩ := h
  refine ⟨hexec, ?_⟩
  cases row <;> simp_all [State.stateRefusal]

/-- A property that responses and the row's own steps keep is kept by the row's command. -/
theorem State.runRequest_keeps {P : State → Prop} {s : State} (row : RequestRow)
    (effect : State → List Byte → State) (hs : P s) (hrespond : ∀ result, P (s.respond result []))
    (heffect : ∀ body, s.runs row body → P (effect s body)) : P (s.runRequest row effect) := by
  obtain h | ⟨result, h⟩ | ⟨body, hruns, h⟩ := s.runRequest_cases row effect <;> rw [h]
  exacts [hs, hrespond result, heffect body hruns]

/-- The same for the request held over a wake (10 R169). -/
theorem State.executeHeld_keeps {P : State → Prop} {s : State} (hs : P s)
    (hrespond : ∀ result, P (s.respond result []))
    (heffect : ∀ row body, s.runs row body → P (requestEffect row s body)) : P s.executeHeld := by
  unfold State.executeHeld
  split
  · exact hs
  split
  next row _ => exact runRequest_keeps row _ hs hrespond (heffect row)
  split
  · unfold State.answerUnnamed
    (repeat' split) <;> exact hrespond _
  · exact hs

/-! ### The part state after the operations that change it (11) -/

/-- The part state once an event has brought the part back from STANDBY (11 R184). -/
def PartState.returned (p : PartState) : PartState := if p = .standby then .active else p

@[simp] theorem PartState.returned_eq_unset (p : PartState) : p.returned = .unset ↔ p = .unset := by
  cases p <;> simp [returned]

namespace State

@[simp] theorem enterActive_part (s : State) : s.enterActive.rest.part = .active := by
  simp [enterActive]

@[simp] theorem returnActive_part (s : State) :
    s.returnActive.rest.part = s.rest.part.returned := by
  unfold returnActive PartState.returned; split <;> simp

@[simp] theorem pressed_part (s : State) (line : Nat) :
    (s.pressed line).rest.part = s.rest.part.returned := by
  simp [pressed]

@[simp] theorem doorEdge_part (s : State) (line : Nat) (door : Door) :
    (s.doorEdge line door).rest.part = s.rest.part.returned := by
  simp [doorEdge]

@[simp] theorem arrived_part (s : State) (line : Nat) :
    (s.arrived line).rest.part = s.rest.part.returned := by
  simp [arrived]

@[simp] theorem enterStandby_part (s : State) : s.enterStandby.rest.part = .standby := by
  simp [enterStandby]

@[simp] theorem enterSettling_part (s : State) : s.enterSettling.rest.part = .settling := by
  simp [enterSettling]

@[simp] theorem enterDormant_part (s : State) : s.enterDormant.rest.part = .dormant := by
  simp [enterDormant]

@[simp] theorem wokenBy_part (s : State) (source : WakeSource) :
    (s.wokenBy source).rest.part = .waking := by
  simp [wokenBy]

@[simp] theorem setUp_rest (s : State) (cfg : Settings) (kind : MachineKind) :
    (s.setUp cfg kind).rest.part = .active ∧ (s.setUp cfg kind).rest.warm = true := by
  simp [setUp]

end State

/-! ### The event queue, the warm flag and the phrase store (O56) -/

/-- A queue that has grown keeps the bounds. -/
theorem EventQueue.bounded_of_grewFrom {q' q : EventQueue} (h : q'.grewFrom q) (hq : q.bounded) :
    q'.bounded :=
  (h.2 hq).1

/-- Each row's own steps only join records to the queue, but for EVENTS, which takes records away (10 R175). -/
theorem State.requestEffect_bounded {s : State} (hs : s.events.bounded) (row : RequestRow)
    (body : List Byte) : (requestEffect row s body).events.bounded := by
  have hgrew := EventQueue.grewFrom_refl s.events
  cases row with
  | events =>
    refine ⟨?_, Nat.zero_le _⟩
    simpa [requestEffect, eventsEffect] using Nat.le_add_right_of_le hs.1
  | _ => exact EventQueue.bounded_of_grewFrom (by simp [requestEffect, hgrew]) hs

theorem State.runRequest_bounded {s : State} (hs : s.events.bounded) (row : RequestRow) :
    (s.runRequest row (requestEffect row)).events.bounded :=
  runRequest_keeps (P := fun u => u.events.bounded) row _ hs (fun _ => by simpa using hs)
    fun body _ => requestEffect_bounded hs row body

theorem State.executeHeld_bounded {s : State} (hs : s.events.bounded) :
    s.executeHeld.events.bounded :=
  executeHeld_keeps (P := fun u => u.events.bounded) hs (fun _ => by simpa using hs)
    fun row body _ => requestEffect_bounded hs row body

theorem State.wakingEnded_bounded {s : State} (hs : s.events.bounded) (levels : BitVec 8) :
    (s.wakingEnded levels).events.bounded := by
  unfold wakingEnded
  split
  · exact executeHeld_bounded (EventQueue.bounded_of_grewFrom
      (by simp [EventQueue.grewFrom_refl]) hs)
  · exact hs

/-- Every command keeps the bounds of the event queue (10 R174). -/
theorem exec_bounded {c : Instr} {s t : State} (h : exec c s = .next t) (hs : s.events.bounded) :
    t.events.bounded := by
  have hgrew := EventQueue.grewFrom_refl s.events
  cases c with
  | coldReset =>
    obtain rfl := Host.Outcome.next.inj h
    simp [EventQueue.bounded, State.coldStarted, State.afterReset]
  | setup | post | withdraw | machine | basepage | events | status | roster | restStandby
  | restDormant | restActive | sessionEnd =>
    obtain rfl := Host.Outcome.next.inj h
    exact State.runRequest_bounded hs _
  | wakingEnd levels =>
    obtain rfl := Host.Outcome.next.inj h
    exact State.wakingEnded_bounded hs levels
  | _ =>
    obtain rfl := Host.Outcome.next.inj h
    exact EventQueue.bounded_of_grewFrom (by simp [hgrew]) hs

/-! #### The warm flag (11 R188) -/

/-- The warm law depends on the warm flag and on whether the part is UNSET. -/
theorem State.warmLawful_congr {t s : State} (hwarm : t.rest.warm = s.rest.warm)
    (hunset : t.rest.part = .unset ↔ s.rest.part = .unset) (hs : s.warmLawful) : t.warmLawful := by
  unfold warmLawful at *
  rw [hwarm, hs, ne_eq, ne_eq, hunset]

/-- In a part state that is not UNSET the law is that the warm flag is set. -/
theorem State.warm_of_lawful {s : State} (hs : s.warmLawful) (hpart : s.rest.part ≠ .unset) :
    s.rest.warm = true :=
  hs.mpr hpart

theorem State.warmLawful_of_warm {s : State} (hwarm : s.rest.warm = true)
    (hpart : s.rest.part ≠ .unset) : s.warmLawful :=
  iff_of_true hwarm hpart

theorem State.requestEffect_warm {s : State} {row : RequestRow} {body : List Byte}
    (hs : s.warmLawful) (h : s.runs row body) : (requestEffect row s body).warmLawful := by
  obtain ⟨-, hpart⟩ := runs_part h
  cases row with
  | setup =>
    simp only [requestEffect, setupEffect]
    split
    · exact warmLawful_of_warm (by simp) (by simp)
    · exact warmLawful_congr (by simp) (by simp) hs
  | post =>
    simp only [requestEffect, postEffect]
    split <;> exact warmLawful_congr (by simp) (by simp) hs
  | restStandby =>
    have hset := warm_of_lawful hs (by simpa using hpart)
    simp only [requestEffect, restStandbyEffect]
    (repeat' split) <;> exact warmLawful_of_warm (by simpa) (by simp_all)
  | restDormant =>
    have hset := warm_of_lawful hs (by simpa using hpart)
    exact warmLawful_of_warm (by simpa [requestEffect, restDormantEffect])
      (by simp [requestEffect, restDormantEffect])
  | restActive =>
    exact warmLawful_congr (by simp [requestEffect])
      (by simp [requestEffect, restActiveEffect]) hs
  | _ => exact warmLawful_congr (by simp [requestEffect]) (by simp [requestEffect]) hs

theorem State.runRequest_warm {s : State} (hs : s.warmLawful) (row : RequestRow) :
    (s.runRequest row (requestEffect row)).warmLawful :=
  runRequest_keeps (P := warmLawful) row _ hs
    (fun _ => warmLawful_congr (by simp) (by simp) hs) fun _ h => requestEffect_warm hs h

theorem State.executeHeld_warm {s : State} (hs : s.warmLawful) : s.executeHeld.warmLawful :=
  executeHeld_keeps (P := warmLawful) hs
    (fun _ => warmLawful_congr (by simp) (by simp) hs) fun _ _ h => requestEffect_warm hs h

theorem State.wakingEnded_warm {s : State} (hs : s.warmLawful) (levels : BitVec 8) :
    (s.wakingEnded levels).warmLawful := by
  unfold wakingEnded
  split
  next hwaking =>
    have hset := warm_of_lawful hs (by simp [hwaking.1])
    exact executeHeld_warm (warmLawful_of_warm (by simpa) (by simp))
  · exact hs

/-- A sample changes the part state to ACTIVE from STANDBY alone (11 R184). -/
theorem State.keysJudged_unset (s : State) :
    s.keysJudged.rest.part = .unset ↔ s.rest.part = .unset := by
  unfold keysJudged
  (repeat' split) <;> simp

theorem State.doorJudged_unset (s : State) :
    s.doorJudged.rest.part = .unset ↔ s.rest.part = .unset := by
  unfold doorJudged
  (repeat' split) <;> simp

theorem State.presenceJudged_unset (s : State) (line : Nat) (wasAtRest : Bool) :
    (s.presenceJudged line wasAtRest).rest.part = .unset ↔ s.rest.part = .unset := by
  unfold presenceJudged presenceLeavesRest
  (repeat' split) <;> simp

theorem State.panelSampled_unset (s : State) (levels : BitVec 8) :
    (s.panelSampled levels).rest.part = .unset ↔ s.rest.part = .unset := by
  unfold panelSampled panelJudged
  dsimp only
  split <;> simp [presenceJudged_unset, doorJudged_unset, keysJudged_unset]

/-- Every command keeps the law of the warm flag (11 R188). -/
theorem exec_warm {c : Instr} {s t : State} (h : exec c s = .next t) (hs : s.warmLawful) :
    t.warmLawful := by
  cases c with
  | coldReset =>
    obtain rfl := Host.Outcome.next.inj h
    exact iff_of_false (by simp [State.coldStarted, State.afterReset])
      (by simp [State.coldStarted, State.afterReset])
  | setup | post | withdraw | machine | basepage | events | status | roster | restStandby
  | restDormant | restActive | sessionEnd =>
    obtain rfl := Host.Outcome.next.inj h
    exact State.runRequest_warm hs _
  | wakingEnd levels =>
    obtain rfl := Host.Outcome.next.inj h
    exact State.wakingEnded_warm hs levels
  | panelSample levels =>
    obtain rfl := Host.Outcome.next.inj h
    exact State.warmLawful_congr (by simp) (s.panelSampled_unset levels) hs
  | idleTimerExpiry =>
    obtain rfl := Host.Outcome.next.inj h
    refine State.warmLawful_congr (by simp) ?_ hs
    unfold State.idleExpired
    split <;> simp_all
  | dormantEntry =>
    obtain rfl := Host.Outcome.next.inj h
    refine State.warmLawful_congr (by simp) ?_ hs
    unfold State.dormantTaken
    split <;> simp_all
  | settlingLimit =>
    obtain rfl := Host.Outcome.next.inj h
    refine State.warmLawful_congr (by simp) ?_ hs
    unfold State.settlingRanOut
    split <;> simp_all
  | wake event =>
    obtain rfl := Host.Outcome.next.inj h
    refine State.warmLawful_congr (by simp) ?_ hs
    unfold State.wakeTaken State.selectFell
    (repeat' split) <;> simp_all [State.selectDiscarded]
  | _ =>
    obtain rfl := Host.Outcome.next.inj h
    exact State.warmLawful_congr (by simp) (by simp) hs

/-! #### The phrase store (06 R105) -/

/-- The request held over a wake writes neither the phrase store nor the queue of commands. -/
theorem State.requestEffect_store (s : State) (row : RequestRow) (body : List Byte) :
    (requestEffect row s body).phraseStore = s.phraseStore ∧
      (requestEffect row s body).pending = s.pending := by
  cases row <;> simp [requestEffect]

theorem State.executeHeld_store (s : State) :
    s.executeHeld.phraseStore = s.phraseStore ∧ s.executeHeld.pending = s.pending :=
  executeHeld_keeps (P := fun u => u.phraseStore = s.phraseStore ∧ u.pending = s.pending)
    ⟨rfl, rfl⟩ (fun _ => by simp) fun row body _ => requestEffect_store s row body

theorem State.runRequest_store (s : State) (row : RequestRow) :
    (s.runRequest row (requestEffect row)).phraseStore = s.phraseStore :=
  runRequest_keeps (P := fun u => u.phraseStore = s.phraseStore) row _ rfl (fun _ => by simp)
    fun body _ => (requestEffect_store s row body).1

/-- No command writes the phrase store. -/
theorem exec_phraseStore {c : Instr} {s t : State} (h : exec c s = .next t) :
    t.phraseStore = s.phraseStore := by
  cases c with
  | setup | post | withdraw | machine | basepage | events | status | roster | restStandby
  | restDormant | restActive | sessionEnd =>
    obtain rfl := Host.Outcome.next.inj h
    exact s.runRequest_store _
  | wakingEnd levels =>
    obtain rfl := Host.Outcome.next.inj h
    unfold State.wakingEnded
    split
    · simp [State.awoken, State.executeHeld_store]
    · rfl
  | _ =>
    obtain rfl := Host.Outcome.next.inj h
    simp

/-- Settles O56: each of the three laws holds of one millisecond and of every command. -/
theorem stepsKeepQueueWarmFlagAndStore : Obligations.StepsKeepQueueWarmFlagAndStore := by
  intro s t h
  have hstore : t.phraseStore = s.phraseStore := by
    obtain rfl | ⟨c, rest, hexec⟩ := step_eq_next h
    · simp
    · simpa using exec_phraseStore hexec
  refine ⟨fun hs => ?_, fun hs => ?_, hstore, fun hs => hstore ▸ hs⟩
  · obtain rfl | ⟨c, rest, hexec⟩ := step_eq_next h
    · simpa using hs
    · exact exec_bounded hexec hs
  · obtain rfl | ⟨c, rest, hexec⟩ := step_eq_next h
    · exact State.warmLawful_congr (by simp) (by simp) hs
    · exact exec_warm hexec hs

end Sys2Proof.Machine

/-! ## One millisecond with no command (log 2), and O2 -/

namespace Sys2Proof.Machine

namespace State

/-! ### The two ticks, block by block -/

theorem msCounted_blocks (s : State) :
    s.msCounted.timebase = { s.timebase with ms := s.timebase.ms + 1 } ∧
      s.msCounted.floor = s.floor.msTick ∧
      s.msCounted.line = { s.line with stuckTimer := countUp Config.stuckLimit s.line.stuckTimer } ∧
      s.msCounted.rest = { s.rest with settlingLimit := countDown s.rest.settlingLimit } ∧
      s.msCounted.flash = { s.flash with scanWait := countDown s.flash.scanWait } :=
  ⟨rfl, rfl, rfl, rfl, rfl⟩

/-- The 100 ms tick touches the agenda, the roster and the panel alone. -/
theorem tenthCounted_blocks (s : State) :
    s.tenthCounted.agenda = { s.agenda with entries := s.agenda.entries.map Entry.tenthTick } ∧
      s.tenthCounted.roster =
        { s.roster with records := s.roster.records.map PeerRecord.tenthTick } ∧
      s.tenthCounted.panel = { s.panel with holdTimer := countDown s.panel.holdTimer } :=
  ⟨rfl, rfl, rfl⟩

@[simp] theorem msTicked_timebase (s : State) :
    s.msTicked.timebase = { s.timebase with ms := s.timebase.ms + 1 } := by
  simp only [msTicked]; split <;> simp [msCounted_blocks]

@[simp] theorem msTicked_floor (s : State) : s.msTicked.floor = s.floor.msTick := by
  simp only [msTicked]; split <;> simp [msCounted_blocks]

@[simp] theorem msTicked_line (s : State) :
    s.msTicked.line = { s.line with stuckTimer := countUp Config.stuckLimit s.line.stuckTimer } := by
  simp only [msTicked]; split <;> simp [msCounted_blocks]

@[simp] theorem msTicked_rest (s : State) :
    s.msTicked.rest = { s.rest with settlingLimit := countDown s.rest.settlingLimit } := by
  simp only [msTicked]; split <;> simp [msCounted_blocks]

@[simp] theorem msTicked_flash (s : State) :
    s.msTicked.flash = { s.flash with scanWait := countDown s.flash.scanWait } := by
  simp only [msTicked]; split <;> simp [msCounted_blocks]

/-- Each hundredth millisecond is a tenth of a second too. -/
theorem msTicked_of_tenth {s : State} (h : (s.timebase.ms + 1) % 100 = 0) :
    s.msTicked.agenda = { s.agenda with entries := s.agenda.entries.map Entry.tenthTick } ∧
      s.msTicked.roster = { s.roster with records := s.roster.records.map PeerRecord.tenthTick } ∧
      s.msTicked.panel = { s.panel with holdTimer := countDown s.panel.holdTimer } := by
  simp [msTicked, msCounted_blocks, h, tenthCounted_blocks]

theorem msTicked_of_not_tenth {s : State} (h : (s.timebase.ms + 1) % 100 ≠ 0) :
    s.msTicked.agenda = s.agenda ∧ s.msTicked.roster = s.roster ∧ s.msTicked.panel = s.panel := by
  simp [msTicked, msCounted_blocks, h]

/-- The clock runs in the part states but DORMANT and WAKING (11 R186, R187). -/
theorem idled_of_clocked {s : State} (h : s.clocked = true) : s.idled = s.msTicked := by
  unfold idled
  cases hp : s.rest.part <;> simp_all [clocked]

theorem clocked_iff {s : State} :
    s.clocked = true ↔ s.rest.part ≠ .dormant ∧ s.rest.part ≠ .waking := by
  cases h : s.rest.part <;> simp [clocked, h]

/-- The entries after one millisecond differ in their expiry timers alone. -/
theorem idled_entries (s : State) : s.idled.agenda = s.agenda ∨
    s.idled.agenda = { s.agenda with entries := s.agenda.entries.map Entry.tenthTick } := by
  by_cases hc : s.clocked = true
  · rw [idled_of_clocked hc]
    by_cases h : (s.timebase.ms + 1) % 100 = 0
    · exact .inr (msTicked_of_tenth h).1
    · exact .inl (msTicked_of_not_tenth h).1
  · unfold idled
    cases hp : s.rest.part <;> simp_all [clocked]

/-- The floor unit's timers count with the clock. -/
theorem idled_floor (s : State) : s.idled.floor = if s.clocked then s.floor.msTick else s.floor := by
  split
  next hc => rw [idled_of_clocked hc, msTicked_floor]
  next hc =>
    unfold idled
    cases hp : s.rest.part <;> simp_all [clocked]

end State

/-- Settles O2: a step on the empty queue is `State.idled`, by part state; the clocked one is the 1 ms tick. -/
theorem anIdleStepIsOneMillisecond : Obligations.AnIdleStepIsOneMillisecond := by
  intro s hempty
  rw [step_of_pending_nil hempty]
  refine ⟨fun h => ?_, fun h => ?_, fun hclock => ⟨s.msTicked, ?_, ?_⟩⟩
  · simp [State.idled, h]
  · simp only [State.idled, h]
    rfl
  · rw [State.idled_of_clocked hclock]
  · refine ⟨by simp, by simp [Floor.msTick, Rival.msTick], by simp [Floor.msTick, Rival.msTick],
      by simp [Floor.msTick], by simp, fun bid window h => by simp [Floor.msTick, FloorCtx.msTick, h],
      fun bid hold h => by simp [Floor.msTick, FloorCtx.msTick, h], by simp [countUp], by simp [countDown],
      by simp [countDown], by simp [State.changedIn_iff], fun h => ?_, fun h => ?_⟩
    · simp [State.changedIn_iff, State.msTicked_of_not_tenth h]
    · exact State.msTicked_of_tenth h

end Sys2Proof.Machine

/-! ## The lists of other stations (04 R67, 05 R91), and the law of O57 -/

namespace Sys2Proof.Machine

/-! ### Lists in ascending station order -/

/-- The law of a list of stations in words: they rise, they are station numbers, and none is the own. -/
theorem stationsFrom_iff {own low : Nat} {ks : List Nat} :
    stationsFrom own low ks = true ↔
      ks.Pairwise (· < ·) ∧ ∀ k ∈ ks, low ≤ k ∧ k < 32 ∧ k ≠ own := by
  induction ks generalizing low with
  | nil => simp [stationsFrom]
  | cons k ks ih =>
    simp only [stationsFrom, Bool.and_eq_true, decide_eq_true_eq, bne_iff_ne, ih,
      List.pairwise_cons, List.mem_cons, forall_eq_or_imp]
    constructor
    · rintro ⟨⟨⟨hlow, hlt⟩, hown⟩, hpair, hks⟩
      exact ⟨⟨fun j hj => (hks j hj).1, hpair⟩, ⟨hlow, hlt, hown⟩,
        fun j hj => ⟨by have := (hks j hj).1; omega, (hks j hj).2⟩⟩
    · rintro ⟨⟨hhead, hpair⟩, ⟨hlow, hlt, hown⟩, hks⟩
      exact ⟨⟨⟨hlow, hlt⟩, hown⟩, hpair, fun j hj => ⟨hhead j hj, (hks j hj).2⟩⟩

/-- Records that leave a lawful list leave it lawful. -/
theorem stationsFrom_sublist {own low : Nat} {ks js : List Nat} (h : stationsFrom own low ks = true)
    (sub : js.Sublist ks) : stationsFrom own low js = true := by
  rw [stationsFrom_iff] at *
  exact ⟨h.1.sublist sub, fun k hk => h.2 k (sub.subset hk)⟩

/-- Where a station's record stands in a list in ascending order. -/
def putStation (k : Nat) : List Nat → List Nat
  | [] => [k]
  | j :: js => if k < j then k :: j :: js else if k = j then k :: js else j :: putStation k js

theorem mem_putStation {k j : Nat} {js : List Nat} (h : j ∈ putStation k js) : j = k ∨ j ∈ js := by
  induction js with
  | nil => simpa [putStation] using h
  | cons i is ih =>
    unfold putStation at h
    split at h
    · simpa using h
    split at h
    · simp only [List.mem_cons] at *
      tauto
    · simp only [List.mem_cons] at *
      tauto

theorem putStation_pairwise {k : Nat} {js : List Nat} (h : js.Pairwise (· < ·)) :
    (putStation k js).Pairwise (· < ·) := by
  induction js with
  | nil => simp [putStation]
  | cons i is ih =>
    obtain ⟨hi, his⟩ := List.pairwise_cons.mp h
    unfold putStation
    split
    next hlt =>
      refine List.pairwise_cons.mpr ⟨fun j hj => ?_, h⟩
      obtain rfl | hj := List.mem_cons.mp hj
      · exact hlt
      · exact hlt.trans (hi j hj)
    split
    next heq => exact heq ▸ h
    next hle hne =>
      refine List.pairwise_cons.mpr ⟨fun j hj => ?_, ih his⟩
      obtain rfl | hj := mem_putStation hj
      · omega
      · exact hi j hj

/-- A record of a foreign station keeps the law. -/
theorem stationsFrom_putStation {own k : Nat} {js : List Nat} (h : stationsFrom own 0 js = true)
    (hk : k < 32) (hown : k ≠ own) : stationsFrom own 0 (putStation k js) = true := by
  rw [stationsFrom_iff] at *
  refine ⟨putStation_pairwise h.1, fun j hj => ?_⟩
  obtain rfl | hj := mem_putStation hj
  · exact ⟨Nat.zero_le _, hk, hown⟩
  · exact h.2 j hj

/-! ### Records joining and leaving -/

theorem map_station_putRival (r : Rival) (rs : List Rival) :
    (putRival r rs).map (·.station) = putStation r.station (rs.map (·.station)) := by
  induction rs with
  | nil => rfl
  | cons q qs ih =>
    simp only [putRival, putStation, List.map_cons]
    split
    · rfl
    · split <;> simp [ih]

theorem map_station_putPeer (r : PeerRecord) (rs : List PeerRecord) :
    (putPeer r rs).map (·.station) = putStation r.station (rs.map (·.station)) := by
  induction rs with
  | nil => rfl
  | cons q qs ih =>
    simp only [putPeer, putStation, List.map_cons]
    split
    · rfl
    · split <;> simp [ih]

/-- The record put in is in the list, and no record of another station is touched. -/
theorem mem_putRival_self (r : Rival) (rs : List Rival) : r ∈ putRival r rs := by
  induction rs with
  | nil => simp [putRival]
  | cons q qs ih => unfold putRival; (repeat' split) <;> simp [ih]

theorem mem_putRival_iff {r q : Rival} (h : q.station ≠ r.station) (rs : List Rival) :
    q ∈ putRival r rs ↔ q ∈ rs := by
  have hne : q ≠ r := fun e => h (e ▸ rfl)
  induction rs with
  | nil => simp [putRival, hne]
  | cons p ps ih =>
    unfold putRival
    split
    · simp [hne]
    split
    next heq =>
      have hp : q ≠ p := fun e => h (e ▸ heq.symm)
      simp [hne, hp]
    · simp [ih]

theorem mem_putPeer_self (r : PeerRecord) (rs : List PeerRecord) : r ∈ putPeer r rs := by
  induction rs with
  | nil => simp [putPeer]
  | cons q qs ih => unfold putPeer; (repeat' split) <;> simp [ih]

theorem mem_putPeer_iff {r q : PeerRecord} (h : q.station ≠ r.station) (rs : List PeerRecord) :
    q ∈ putPeer r rs ↔ q ∈ rs := by
  have hne : q ≠ r := fun e => h (e ▸ rfl)
  induction rs with
  | nil => simp [putPeer, hne]
  | cons p ps ih =>
    unfold putPeer
    split
    · simp [hne]
    split
    next heq =>
      have hp : q ≠ p := fun e => h (e ▸ heq.symm)
      simp [hne, hp]
    · simp [ih]

/-- The stations of a list put together: the new one, and those there before. -/
theorem station_of_mem_putRival {r q : Rival} {rs : List Rival} (h : q ∈ putRival r rs) :
    q.station = r.station ∨ q ∈ rs := by
  by_cases hq : q.station = r.station
  · exact .inl hq
  · exact .inr ((mem_putRival_iff hq rs).mp h)

/-- The law of O57 of the two lists, for lists that are not yet in a state. -/
def ListsLawful (own : Nat) (claims holders : List Rival) : Prop :=
  stationsFrom own 0 (claims.map (·.station)) = true ∧
    stationsFrom own 0 (holders.map (·.station)) = true ∧
    ∀ r ∈ claims, ∀ q ∈ holders, r.station ≠ q.station

theorem State.listsLawful_iff (s : State) :
    s.listsLawful ↔ ListsLawful s.timebase.station s.floor.claims s.floor.holders := Iff.rfl

namespace ListsLawful

variable {own : Nat} {claims holders : List Rival}

theorem nil (own : Nat) : ListsLawful own [] [] := by simp [ListsLawful, stationsFrom]

theorem filter (h : ListsLawful own claims holders) (p q : Rival → Bool) :
    ListsLawful own (claims.filter p) (holders.filter q) :=
  ⟨stationsFrom_sublist h.1 (List.filter_sublist.map _),
    stationsFrom_sublist h.2.1 (List.filter_sublist.map _),
    fun r hr q hq => h.2.2 r (List.mem_filter.mp hr).1 q (List.mem_filter.mp hq).1⟩

theorem map (h : ListsLawful own claims holders) {f : Rival → Rival}
    (hf : ∀ r, (f r).station = r.station) : ListsLawful own (claims.map f) (holders.map f) := by
  refine ⟨by simpa [Function.comp_def, hf] using h.1, by simpa [Function.comp_def, hf] using h.2.1,
    fun r hr q hq => ?_⟩
  obtain ⟨r', hr', rfl⟩ := List.mem_map.mp hr
  obtain ⟨q', hq', rfl⟩ := List.mem_map.mp hq
  simpa [hf] using h.2.2 r' hr' q' hq'

/-- A record joins one list as its station leaves the other (04 R68, R69). -/
theorem put (h : ListsLawful own claims holders) {r : Rival} (hr : r.station < 32)
    (hown : r.station ≠ own) :
    ListsLawful own (putRival r claims) (dropRival r.station holders) := by
  refine ⟨?_, stationsFrom_sublist h.2.1 (List.filter_sublist.map _), fun p hp q hq => ?_⟩
  · rw [map_station_putRival]
    exact stationsFrom_putStation h.1 hr hown
  · obtain ⟨hq, hne⟩ : q ∈ holders ∧ q.station ≠ r.station := by
      simpa [dropRival] using hq
    obtain heq | hp := station_of_mem_putRival hp
    · exact fun e => hne (e ▸ heq)
    · exact h.2.2 p hp q hq

/-- The law does not tell the two lists apart. -/
theorem swap (h : ListsLawful own claims holders) : ListsLawful own holders claims :=
  ⟨h.2.1, h.1, fun r hr q hq => (h.2.2 q hq r hr).symm⟩

end ListsLawful

/-! ### What the floor unit does with the lists (04 R65 to R70, R87) -/

namespace State

/-- A CLAIM heard changes the lists as it conflicts or not (04 R68). -/
theorem hearClaim_lists (s : State) (station key : Nat) (mask : BitVec 4) :
    (s.hearClaim station key mask).floor.claims =
        (if conflicts s.settings.hearMask mask then
          putRival { station := station, key := key, mask := mask,
                     left := 50 * s.settings.window + 50 } s.floor.claims
        else dropRival station s.floor.claims) ∧
      (s.hearClaim station key mask).floor.holders = dropRival station s.floor.holders := by
  unfold hearClaim
  (repeat' split) <;> simp [recordClaim, forget, *]

/-- A TALK heard changes the lists as it conflicts or not (04 R69). -/
theorem hearTalk_lists (s : State) (station key : Nat) (mask : BitVec 4) (length : Nat) :
    (s.hearTalk station key mask length).floor.claims = dropRival station s.floor.claims ∧
      (s.hearTalk station key mask length).floor.holders =
        (if conflicts s.settings.hearMask mask then
          putRival { station := station, key := key, mask := mask,
                     left := 100 * length + 2000 } s.floor.holders
        else dropRival station s.floor.holders) := by
  unfold hearTalk
  (repeat' split) <;> simp [recordHolder, forget, *]

/-- A DONE heard removes the station's records (04 R70). -/
theorem hearDone_lists (s : State) (station : Nat) :
    (s.hearDone station).floor.claims = dropRival station s.floor.claims ∧
      (s.hearDone station).floor.holders = dropRival station s.floor.holders := by
  simp [hearDone, forget]

/-- The frame that is handed on keeps the law of the lists, if its sender is another station. -/
theorem handOn_lists {s : State} {h : Heard} (hs : s.listsLawful) (hstation : h.station < 32)
    (hown : h.station ≠ s.timebase.station) : (s.handOn h).listsLawful := by
  rw [listsLawful_iff, (s.handOn_keeps h).1]
  unfold handOn
  split
  next key mask _ =>
    obtain ⟨hclaims, hholders⟩ := s.hearClaim_lists h.station key mask
    rw [hclaims, hholders]
    split
    · exact ListsLawful.put (r := ⟨_, _, _, _⟩) hs hstation hown
    · exact ListsLawful.filter hs _ _
  next key mask length _ =>
    obtain ⟨hclaims, hholders⟩ := s.hearTalk_lists h.station key mask length
    rw [hclaims, hholders]
    split
    · exact (ListsLawful.put (r := ⟨_, _, _, _⟩) (ListsLawful.swap hs) hstation hown).swap
    · exact ListsLawful.filter hs _ _
  next =>
    obtain ⟨hclaims, hholders⟩ := s.hearDone_lists h.station
    rw [hclaims, hholders]
    exact ListsLawful.filter hs _ _
  next => simpa [hearBeacon] using s.listsLawful_iff.mp hs

/-- An isolate report empties the lists, or leaves them (04 R87). -/
theorem isolateReport_lists {s : State} (hs : s.listsLawful) : s.isolateReport.listsLawful := by
  by_cases h : s.floor.isolated = true
  · rwa [isolateReport_of_isolated s h]
  · obtain ⟨-, hclaims, hholders, -⟩ := isolateReport_effect s (by simpa using h)
    rw [listsLawful_iff, hclaims, hholders]
    exact ListsLawful.nil _

/-- A BEACON of another station keeps the law of the roster (05 R92). -/
theorem handOn_roster {s : State} {h : Heard} (hs : s.rosterLawful) (hstation : h.station < 32)
    (hown : h.station ≠ s.timebase.station) : (s.handOn h).rosterLawful := by
  unfold rosterLawful at *
  rw [(s.handOn_keeps h).1]
  unfold handOn
  split
  case h_4 =>
    simp only [hearBeacon, setRoster_roster, map_station_putPeer]
    exact stationsFrom_putStation hs hstation hown
  all_goals simpa using hs

end State

/-- The station field of a frame that is taken is a station number (03 R47). -/
theorem station_of_takeFrame {chars : List Byte} {h : Heard} (hf : takeFrame chars = some h) :
    h.station < 32 := by
  unfold takeFrame at hf
  split at hf
  · split at hf
    · obtain ⟨f, -, rfl⟩ := Option.map_eq_some_iff.mp hf
      exact Nat.mod_lt _ (by decide)
    · exact absurd hf (by simp)
  · exact absurd hf (by simp)

/-! ### The law of the lists and the roster (O57) -/

namespace State

variable {s t : State}

/-- The laws read the strap, the two lists and the records alone. -/
theorem listsLawful_congr (hstation : t.timebase.station = s.timebase.station)
    (hclaims : t.floor.claims = s.floor.claims) (hholders : t.floor.holders = s.floor.holders)
    (hs : s.listsLawful) : t.listsLawful := by
  rw [listsLawful_iff] at *
  rwa [hstation, hclaims, hholders]

theorem rosterLawful_congr (hstation : t.timebase.station = s.timebase.station)
    (hrecords : t.roster.records = s.roster.records) (hs : s.rosterLawful) : t.rosterLawful := by
  unfold rosterLawful at *
  rwa [hstation, hrecords]

theorem takeHeard_lists {h : Heard} {own : Bool} (hs : s.listsLawful) (hstation : h.station < 32) :
    (s.takeHeard h own).listsLawful := by
  unfold takeHeard
  split
  · exact hs
  split
  · exact listsLawful_congr (by simp) (by simp) (by simp) hs
  next hown =>
    have hgood : s.lineGood.listsLawful := listsLawful_congr (by simp) (by simp) (by simp) hs
    exact listsLawful_congr (by simp) (by simp) (by simp)
      (handOn_lists hgood hstation (by simpa using hown))

theorem takeHeard_roster {h : Heard} {own : Bool} (hs : s.rosterLawful)
    (hstation : h.station < 32) : (s.takeHeard h own).rosterLawful := by
  unfold takeHeard
  split
  · exact hs
  split
  · exact rosterLawful_congr (by simp) (by simp) hs
  next hown =>
    have hgood : s.lineGood.rosterLawful := rosterLawful_congr (by simp) (by simp) hs
    exact rosterLawful_congr (by simp) (by simp)
      (handOn_roster hgood hstation (by simpa using hown))

theorem frameHeard_lists (hs : s.listsLawful) (chars : List Byte) :
    (s.frameHeard chars).listsLawful := by
  have hhunt (n : Nat) : (s.toHunt n).listsLawful :=
    listsLawful_congr (by simp) (by simp) (by simp) hs
  unfold frameHeard
  (repeat' split)
  · exact hhunt 0
  · exact takeHeard_lists (hhunt 0) (station_of_takeFrame ‹_›)
  · exact hhunt 0
  · exact takeHeard_lists (hhunt 0) (station_of_takeFrame ‹_›)
  · exact hhunt 0
  · exact hs

theorem frameHeard_roster (hs : s.rosterLawful) (chars : List Byte) :
    (s.frameHeard chars).rosterLawful := by
  have hhunt (n : Nat) : (s.toHunt n).rosterLawful :=
    rosterLawful_congr (by simp) (by simp) hs
  unfold frameHeard
  (repeat' split)
  · exact hhunt 0
  · exact takeHeard_roster (hhunt 0) (station_of_takeFrame ‹_›)
  · exact hhunt 0
  · exact takeHeard_roster (hhunt 0) (station_of_takeFrame ‹_›)
  · exact hhunt 0
  · exact hs

theorem followUp_lists (hs : s.listsLawful) : s.followUp.listsLawful :=
  listsLawful_congr (by simp) (by simp) (by simp) hs

/-- An abandoned frame may make an isolate report (03 R59, R62). -/
theorem abandonFrame_lists (hs : s.listsLawful) (name : SlotName) (kind : FrameKind) :
    (s.abandonFrame name kind).listsLawful := by
  unfold abandonFrame countAbandon
  dsimp only
  (repeat' split)
  · exact isolateReport_lists (listsLawful_congr (by simp) (by simp) (by simp) hs)
  all_goals exact listsLawful_congr (by simp) (by simp) (by simp) hs

theorem transmitFailed_lists (hs : s.listsLawful) : s.transmitFailed.listsLawful := by
  have hbroken (l : Line) : (s.breakFrame.setLine l).listsLawful :=
    listsLawful_congr (by simp) (by simp) (by simp) hs
  unfold transmitFailed
  split
  · exact hs
  dsimp only
  (repeat' split)
  · exact hbroken _
  · exact followUp_lists (abandonFrame_lists (hbroken _) _ _)
  · exact listsLawful_congr (by simp) (by simp) (by simp) hs

theorem lineHeld_lists (hs : s.listsLawful) : s.lineHeld.listsLawful := by
  unfold lineHeld
  split
  · have hspell (l : Line) : ((s.setLine l).offer .lineStuck).listsLawful :=
      listsLawful_congr (by simp) (by simp) (by simp) hs
    exact followUp_lists (isolateReport_lists (hspell _))
  · exact hs

theorem claimAged_lists (hs : s.listsLawful) (station : Nat) :
    (s.claimAged station).listsLawful := by
  unfold claimAged
  split
  · rw [listsLawful_iff]
    simpa [dropRival] using ListsLawful.filter hs (·.station != station) fun _ => true
  · exact hs

theorem holdAged_lists (hs : s.listsLawful) (station : Nat) :
    (s.holdAged station).listsLawful := by
  unfold holdAged
  split
  · rw [listsLawful_iff]
    simpa [dropRival] using ListsLawful.filter hs (fun _ => true) (·.station != station)
  · exact hs

theorem peerAged_roster (hs : s.rosterLawful) (station : Nat) :
    (s.peerAged station).rosterLawful := by
  unfold peerAged
  split
  · exact stationsFrom_sublist hs (List.filter_sublist.map _)
  · exact hs

/-- SETUP drops the records that no longer conflict (04 R65). -/
theorem setUp_lists (hs : s.listsLawful) (cfg : Settings) (kind : MachineKind) :
    (s.setUp cfg kind).listsLawful := by
  rw [listsLawful_iff]
  simpa [setUp, hearMaskTaken] using ListsLawful.filter hs
    (fun r => conflicts cfg.hearMask r.mask) fun r => conflicts cfg.hearMask r.mask

theorem enterDormant_lists (s : State) : s.enterDormant.listsLawful ∧ s.enterDormant.rosterLawful := by
  simp [listsLawful, rosterLawful, enterDormant, listsRested, stationsFrom]

theorem requestEffect_lists (hs : s.listsLawful) (row : RequestRow) (body : List Byte) :
    (requestEffect row s body).listsLawful := by
  cases row with
  | setup =>
    simp only [requestEffect, setupEffect]
    split
    · exact setUp_lists hs _ _
    · exact listsLawful_congr (by simp) (by simp) (by simp) hs
  | _ => exact listsLawful_congr (by simp [requestEffect]) (by simp [requestEffect])
          (by simp [requestEffect]) hs

theorem requestEffect_roster (hs : s.rosterLawful) (row : RequestRow) (body : List Byte) :
    (requestEffect row s body).rosterLawful := by
  cases row <;> exact rosterLawful_congr (by simp [requestEffect]) (by simp [requestEffect]) hs

theorem runRequest_lists (hs : s.listsLawful) (row : RequestRow) :
    (s.runRequest row (requestEffect row)).listsLawful :=
  runRequest_keeps row _ hs (fun _ => listsLawful_congr (by simp) (by simp) (by simp) hs)
    fun body _ => requestEffect_lists hs row body

theorem runRequest_roster (hs : s.rosterLawful) (row : RequestRow) :
    (s.runRequest row (requestEffect row)).rosterLawful :=
  runRequest_keeps row _ hs (fun _ => rosterLawful_congr (by simp) (by simp) hs)
    fun body _ => requestEffect_roster hs row body

theorem wakingEnded_lists (hs : s.listsLawful) (levels : BitVec 8) :
    (s.wakingEnded levels).listsLawful := by
  unfold wakingEnded
  split
  · have hawake (u : State) (hu : u.listsLawful) : u.executeHeld.listsLawful :=
      executeHeld_keeps hu (fun _ => listsLawful_congr (by simp) (by simp) (by simp) hu)
        fun row body _ => requestEffect_lists hu row body
    exact hawake _ (listsLawful_congr (by simp) (by simp) (by simp) hs)
  · exact hs

theorem wakingEnded_roster (hs : s.rosterLawful) (levels : BitVec 8) :
    (s.wakingEnded levels).rosterLawful := by
  unfold wakingEnded
  split
  · have hawake (u : State) (hu : u.rosterLawful) : u.executeHeld.rosterLawful :=
      executeHeld_keeps hu (fun _ => rosterLawful_congr (by simp) (by simp) hu)
        fun row body _ => requestEffect_roster hu row body
    exact hawake _ (rosterLawful_congr (by simp) (by simp) hs)
  · exact hs

/-- One millisecond takes time from the records and moves none (04 R67, 05 R93). -/
theorem idled_lists (hs : s.listsLawful) : s.idled.listsLawful := by
  rw [listsLawful_iff, idled_floor, (s.idled_keeps).1]
  split
  · exact ListsLawful.map hs (f := Rival.msTick) fun _ => rfl
  · exact hs

theorem idled_roster (hs : s.rosterLawful) : s.idled.rosterLawful := by
  have hmap : s.idled.roster.records.map (·.station) = s.roster.records.map (·.station) := by
    by_cases hc : s.clocked = true
    · rw [idled_of_clocked hc]
      by_cases h : (s.timebase.ms + 1) % 100 = 0
      · simp [(msTicked_of_tenth h).2.1, PeerRecord.tenthTick, Function.comp_def]
      · rw [(msTicked_of_not_tenth h).2.1]
    · unfold idled
      cases hp : s.rest.part <;> simp_all [clocked]
  unfold rosterLawful at *
  rwa [hmap, (s.idled_keeps).1]

end State

/-- Every command keeps the law of the two lists. -/
theorem exec_lists {c : Instr} {s t : State} (h : exec c s = .next t) (hs : s.listsLawful) :
    t.listsLawful := by
  cases c with
  | coldReset =>
    obtain rfl := Host.Outcome.next.inj h
    exact ListsLawful.nil _
  | setup | post | withdraw | machine | basepage | events | status | roster | restStandby
  | restDormant | restActive | sessionEnd =>
    obtain rfl := Host.Outcome.next.inj h
    exact State.runRequest_lists hs _
  | frameReceived chars => exact Host.Outcome.next.inj h ▸ State.frameHeard_lists hs chars
  | transmitFailure => exact Host.Outcome.next.inj h ▸ State.transmitFailed_lists hs
  | lineStuck => exact Host.Outcome.next.inj h ▸ State.lineHeld_lists hs
  | claimAgeExpiry station => exact Host.Outcome.next.inj h ▸ State.claimAged_lists hs station
  | holdTimerExpiry station => exact Host.Outcome.next.inj h ▸ State.holdAged_lists hs station
  | wakingEnd levels => exact Host.Outcome.next.inj h ▸ State.wakingEnded_lists hs levels
  | dormantEntry =>
    obtain rfl := Host.Outcome.next.inj h
    unfold State.dormantTaken
    split
    exacts [(State.enterDormant_lists _).1, hs]
  | settlingLimit =>
    obtain rfl := Host.Outcome.next.inj h
    unfold State.settlingRanOut
    split
    exacts [(State.enterDormant_lists _).1, hs]
  | _ =>
    obtain rfl := Host.Outcome.next.inj h
    exact State.listsLawful_congr (by simp) (by simp) (by simp) hs

/-- Every command keeps the law of the roster. -/
theorem exec_roster_lawful {c : Instr} {s t : State} (h : exec c s = .next t)
    (hs : s.rosterLawful) : t.rosterLawful := by
  cases c with
  | coldReset =>
    obtain rfl := Host.Outcome.next.inj h
    rfl
  | setup | post | withdraw | machine | basepage | events | status | roster | restStandby
  | restDormant | restActive | sessionEnd =>
    obtain rfl := Host.Outcome.next.inj h
    exact State.runRequest_roster hs _
  | frameReceived chars => exact Host.Outcome.next.inj h ▸ State.frameHeard_roster hs chars
  | rosterAgeExpiry station => exact Host.Outcome.next.inj h ▸ State.peerAged_roster hs station
  | wakingEnd levels => exact Host.Outcome.next.inj h ▸ State.wakingEnded_roster hs levels
  | dormantEntry =>
    obtain rfl := Host.Outcome.next.inj h
    unfold State.dormantTaken
    split
    exacts [(State.enterDormant_lists _).2, hs]
  | settlingLimit =>
    obtain rfl := Host.Outcome.next.inj h
    unfold State.settlingRanOut
    split
    exacts [(State.enterDormant_lists _).2, hs]
  | _ =>
    obtain rfl := Host.Outcome.next.inj h
    exact State.rosterLawful_congr (by simp) (by simp) hs

theorem State.strapLawful_congr {s t : State} (h : t.timebase.station = s.timebase.station)
    (hs : s.strapLawful) : t.strapLawful := by
  unfold State.strapLawful at *
  rwa [h]

theorem State.requestEffect_strap {s : State} (hs : s.strapLawful) (row : RequestRow)
    (body : List Byte) : (requestEffect row s body).strapLawful := by
  cases row <;> exact strapLawful_congr (by simp [requestEffect]) hs

theorem State.runRequest_strap {s : State} (hs : s.strapLawful) (row : RequestRow) :
    (s.runRequest row (requestEffect row)).strapLawful :=
  runRequest_keeps row _ hs (fun _ => strapLawful_congr (by simp) hs)
    fun body _ => requestEffect_strap hs row body

theorem State.executeHeld_strap {s : State} (hs : s.strapLawful) : s.executeHeld.strapLawful :=
  executeHeld_keeps hs (fun _ => strapLawful_congr (by simp) hs)
    fun row body _ => requestEffect_strap hs row body

/-- No command but the cold reset sets the station number, and its straps are five bits. -/
theorem exec_strap {c : Instr} {s t : State} (h : exec c s = .next t) (hs : s.strapLawful) :
    t.strapLawful := by
  cases c with
  | coldReset stn =>
    obtain rfl := Host.Outcome.next.inj h
    exact stn.isLt
  | setup | post | withdraw | machine | basepage | events | status | roster | restStandby
  | restDormant | restActive | sessionEnd =>
    obtain rfl := Host.Outcome.next.inj h
    exact State.runRequest_strap hs _
  | wakingEnd levels =>
    obtain rfl := Host.Outcome.next.inj h
    unfold State.wakingEnded
    split
    · exact State.executeHeld_strap (State.strapLawful_congr (by simp) hs)
    · exact hs
  | _ =>
    obtain rfl := Host.Outcome.next.inj h
    exact State.strapLawful_congr (by simp) hs

/-- Settles O57: each of the three laws holds of one millisecond and of every command. -/
theorem stepsKeepTheListsLawful : Obligations.StepsKeepTheListsLawful := by
  intro s t h
  obtain rfl | ⟨c, rest, hexec⟩ := step_eq_next h
  · exact ⟨fun hs => by simpa [State.strapLawful] using hs, fun _ => State.idled_lists,
      fun _ => State.idled_roster⟩
  · exact ⟨fun hs => exec_strap hexec hs, fun _ hs => exec_lists hexec hs,
      fun _ hs => exec_roster_lawful hexec hs⟩

end Sys2Proof.Machine

/-! ## The entries but for their report marks

Composes and lookups mark an entry whose page or phrase they report missing (08 R143, 06 R110), and change nothing else
of it. What the agenda's laws and the commands say of entries is said of the bare ones. -/

namespace Sys2Proof.Machine

/-- An entry with its report marks clear. -/
def Entry.bare (e : Entry) : Entry := { e with pageReported := false, phraseReported := false }

/-- The bare entries, in admission order. -/
def Agenda.bare (a : Agenda) : List Entry := a.entries.map Entry.bare

namespace Entry

variable (e : Entry)

@[simp] theorem bare_ticket : e.bare.ticket = e.ticket := rfl
@[simp] theorem bare_post : e.bare.post = e.post := rfl
@[simp] theorem bare_state : e.bare.state = e.state := rfl
@[simp] theorem bare_wait : e.bare.wait = e.wait := rfl
@[simp] theorem bare_owed : e.bare.owed = e.owed := rfl
@[simp] theorem bare_ahead : e.bare.ahead = e.ahead := rfl
@[simp] theorem bare_remaining : e.bare.remaining = e.remaining := rfl
@[simp] theorem bare_plays : e.bare.plays = e.plays := rfl
@[simp] theorem bare_playKind : e.bare.playKind = e.playKind := rfl
@[simp] theorem bare_endRequest : e.bare.endRequest = e.endRequest := rfl
@[simp] theorem bare_cadence : e.bare.cadence = e.cadence := rfl
@[simp] theorem bare_expiryTimer : e.bare.expiryTimer = e.expiryTimer := rfl
@[simp] theorem bare_lastPlayStart : e.bare.lastPlayStart = e.lastPlayStart := rfl
@[simp] theorem bare_interrupted : e.bare.interrupted = e.interrupted := rfl
@[simp] theorem bare_replay : e.bare.replay = e.replay := rfl
@[simp] theorem bare_binding : e.bare.binding = e.binding := rfl
@[simp] theorem bare_successor : e.bare.successor = e.successor := rfl
@[simp] theorem bare_bare : e.bare.bare = e.bare := rfl
@[simp] theorem bare_id : e.bare.id = e.id := rfl
@[simp] theorem bare_credit : e.bare.credit = e.credit := rfl
@[simp] theorem bare_due : e.bare.due = e.due := rfl
@[simp] theorem bare_key : e.bare.key = e.key := rfl
@[simp] theorem bare_busy : e.bare.busy = e.busy := rfl
@[simp] theorem bare_byFloor (store : Store) : e.bare.byFloor store = e.byFloor store := rfl
@[simp] theorem bare_byLocal (store : Store) : e.bare.byLocal store = e.byLocal store := rfl
@[simp] theorem bare_hasPage : e.bare.hasPage = e.hasPage := rfl
@[simp] theorem bare_eligible (presence : Presence) (q a n : Nat) (p : Bool) :
    e.bare.eligible presence q a n p = e.eligible presence q a n p := rfl
@[simp] theorem bare_creditLawful : e.bare.creditLawful ↔ e.creditLawful := Iff.rfl

end Entry

/-! ### What is read of an agenda is read of the bare entries -/

namespace Agenda

variable (a : Agenda)

@[simp] theorem bare_mk (n : Nat) (b : Option Nat) (o : Owner) :
    Agenda.bare { entries := a.entries, nextTicket := n, basePage := b, owner := o } = a.bare := rfl

theorem ids_eq_bare : a.ids = a.bare.map Entry.id := by
  simp [ids, bare, Function.comp_def]

theorem credits_eq_bare : a.credits = a.bare.map Entry.credit := by
  simp [credits, bare, Function.comp_def]

theorem dues_eq_bare : a.dues = a.bare.map Entry.due := by
  simp [dues, bare, Function.comp_def]

theorem isPlaying_eq_bare : a.isPlaying = a.bare.any fun e => e.state == .playing := by
  simp [isPlaying, bare, List.any_map, Function.comp_def]

theorem find_bare (ticket : Nat) :
    (a.find ticket).map Entry.bare = a.bare.find? fun e => e.ticket == ticket := by
  simp [find, bare, List.find?_map, Function.comp_def]

theorem creditLawful_iff_bare : a.creditLawful ↔ ∀ e ∈ a.bare, e.creditLawful := by
  simp [creditLawful, bare]

theorem entries_eq_nil_iff_bare : a.entries = [] ↔ a.bare = [] := by
  simp [bare]

variable {a} {b : Agenda}

/-- An entry is found in an agenda with the same bare entries. -/
theorem find_of_bare_eq (h : b.bare = a.bare) {ticket : Nat} {e : Entry}
    (hf : a.find ticket = some e) : ∃ q, b.find ticket = some q ∧ q.bare = e.bare := by
  have hmap : (b.find ticket).map Entry.bare = some e.bare := by
    rw [find_bare, h, ← find_bare, hf]
    rfl
  exact Option.map_eq_some_iff.mp hmap

theorem mem_of_bare_eq (h : b.bare = a.bare) {e : Entry} (he : e ∈ a.entries) :
    ∃ q ∈ b.entries, q.bare = e.bare := by
  have hmem : e.bare ∈ b.bare := h ▸ List.mem_map_of_mem he
  exact List.mem_map.mp hmem

/-- An update that does not see the marks updates the bare entries. -/
theorem bare_modify (ticket : Nat) {f : Entry → Entry} (hf : ∀ e, (f e).bare = (f e.bare).bare) :
    (a.modify ticket f).bare =
      a.bare.map fun e => if e.ticket = ticket then (f e).bare else e := by
  simp only [bare, modify, List.map_map]
  refine List.map_congr_left fun e _ => ?_
  by_cases h : e.ticket = ticket
  · simpa [h] using hf e
  · simp [h]

/-- An update of the marks alone keeps the bare entries. -/
theorem bare_modify_of_marks (ticket : Nat) {f : Entry → Entry} (hf : ∀ e, (f e).bare = e.bare) :
    (a.modify ticket f).bare = a.bare := by
  simp only [bare, modify, List.map_map]
  refine List.map_congr_left fun e _ => ?_
  simp only [Function.comp_def]
  split
  · exact hf e
  · rfl

end Agenda

/-! ### Operations that keep the bare entries -/

namespace State

@[simp] theorem ticketUsed_bare (s : State) (ticket : Nat) :
    (s.ticketUsed ticket).agenda.bare = s.agenda.bare := rfl

@[simp] theorem reportPage_bare (s : State) (snap : Snapshot) :
    (s.reportPage snap).agenda.bare = s.agenda.bare := by
  have hmark (ticket : Nat) : (s.agenda.modify ticket fun e =>
      { e with pageReported := true }).bare = s.agenda.bare :=
    Agenda.bare_modify_of_marks ticket fun _ => rfl
  unfold reportPage
  (repeat' split) <;> simp [hmark]

@[simp] theorem drawSoFar_bare (s : State) (snap : Snapshot) (drawn : Drawn) :
    (s.drawSoFar snap drawn).agenda.bare = s.agenda.bare := by
  unfold drawSoFar
  dsimp only
  split <;> simp

@[simp] theorem advanceCompose_bare (s : State) :
    s.advanceCompose.agenda.bare = s.agenda.bare := by
  unfold advanceCompose
  (repeat' split) <;> simp

@[simp] theorem startCompose_bare (s : State) : s.startCompose.agenda.bare = s.agenda.bare := by
  simp [startCompose]

@[simp] theorem cause_bare (s : State) : s.cause.agenda.bare = s.agenda.bare := by
  unfold cause
  (repeat' split) <;> simp

@[simp] theorem selectOwner_bare (s : State) : s.selectOwner.agenda.bare = s.agenda.bare := by
  unfold selectOwner
  split
  · rfl
  · rw [cause_bare]
    rfl

@[simp] theorem bindingCause_bare (s : State) (ticket : Nat) :
    (s.bindingCause ticket).agenda.bare = s.agenda.bare := by
  unfold bindingCause
  split <;> simp

@[simp] theorem reportPhrase_bare (s : State) (ticket phrase : Nat) :
    (s.reportPhrase ticket phrase).agenda.bare = s.agenda.bare := by
  have hmark : (s.agenda.modify ticket fun e =>
      { e with phraseReported := true }).bare = s.agenda.bare :=
    Agenda.bare_modify_of_marks ticket fun _ => rfl
  unfold reportPhrase
  (repeat' split) <;> simp [hmark]

@[simp] theorem reportMissing_bare (s : State) (ticket : Nat) (missing : LookupNote) :
    (s.reportMissing ticket missing).agenda.bare = s.agenda.bare := by
  unfold reportMissing
  split <;> simp

@[simp] theorem advanceLookup_bare (s : State) : s.advanceLookup.agenda.bare = s.agenda.bare := by
  unfold advanceLookup
  (repeat' split) <;> simp

@[simp] theorem startLookup_bare (s : State) (p : Play) (index : Nat) :
    (s.startLookup p index).agenda.bare = s.agenda.bare := by
  simp [startLookup]

@[simp] theorem sessionReset_bare (s : State) : s.sessionReset.agenda.bare = s.agenda.bare := by
  simp only [sessionReset]
  split <;> simp

@[simp] theorem enterActive_bare (s : State) : s.enterActive.agenda.bare = s.agenda.bare := by
  simp [enterActive]

@[simp] theorem returnActive_bare (s : State) : s.returnActive.agenda.bare = s.agenda.bare := by
  unfold returnActive
  split <;> simp

@[simp] theorem lookupData_bare (s : State) (data : List Byte) :
    (s.lookupData data).agenda.bare = s.agenda.bare := by
  unfold lookupData
  (repeat' split) <;> simp

@[simp] theorem composeData_bare (s : State) (data : List Byte) :
    (s.composeData data).agenda.bare = s.agenda.bare := by
  unfold composeData
  split <;> simp

@[simp] theorem deliver_bare (s : State) (purpose : ReadFor) (data : List Byte) :
    (s.deliver purpose data).agenda.bare = s.agenda.bare := by
  unfold deliver
  split <;> simp

@[simp] theorem readDone_bare (s : State) : s.readDone.agenda.bare = s.agenda.bare := by
  unfold readDone
  split
  · rfl
  · dsimp only
    split <;> simp

@[simp] theorem beginItem_bare (s : State) (p : Play) (index : Nat) :
    (s.beginItem p index).agenda.bare = s.agenda.bare := by
  unfold beginItem
  dsimp only
  split <;> simp

@[simp] theorem enterGap_bare (s : State) (p : Play) :
    (s.enterGap p).agenda.bare = s.agenda.bare := by
  simp [enterGap]

@[simp] theorem endItem_bare (s : State) (p : Play) (kind : ItemKind) :
    (s.endItem p kind).agenda.bare = s.agenda.bare := by
  unfold endItem
  dsimp only
  (repeat' split) <;> simp

@[simp] theorem leadExpired_bare (s : State) : s.leadExpired.agenda.bare = s.agenda.bare := by
  unfold leadExpired
  (repeat' split) <;> simp

@[simp] theorem gapExpired_bare (s : State) : s.gapExpired.agenda.bare = s.agenda.bare := by
  unfold gapExpired
  (repeat' split) <;> simp

@[simp] theorem itemEnded_bare (s : State) (kind : ItemKind) :
    (s.itemEnded kind).agenda.bare = s.agenda.bare := by
  unfold itemEnded
  (repeat' split) <;> simp

@[simp] theorem speechItemEnded_bare (s : State) :
    s.speechItemEnded.agenda.bare = s.agenda.bare := s.itemEnded_bare _

@[simp] theorem patternEnded_bare (s : State) :
    s.patternEnded.agenda.bare = s.agenda.bare := s.itemEnded_bare _

@[simp] theorem pauseExpired_bare (s : State) :
    s.pauseExpired.agenda.bare = s.agenda.bare := s.itemEnded_bare _

@[simp] theorem swapped_bare (s : State) : s.swapped.agenda.bare = s.agenda.bare := by
  unfold swapped
  dsimp only
  (repeat' split) <;> simp

@[simp] theorem frameBegun_bare (s : State) : s.frameBegun.agenda.bare = s.agenda.bare := by
  unfold frameBegun
  split <;> simp

@[simp] theorem sessionTimedOut_bare (s : State) :
    s.sessionTimedOut.agenda.bare = s.agenda.bare := by
  unfold sessionTimedOut
  split <;> simp

@[simp] theorem machineEffect_bare (s : State) (body : List Byte) :
    (s.machineEffect body).agenda.bare = s.agenda.bare := by
  unfold machineEffect machineWritten
  dsimp only
  (repeat' split) <;> simp

@[simp] theorem basepageEffect_bare (s : State) (body : List Byte) :
    (s.basepageEffect body).agenda.bare = s.agenda.bare := by
  unfold basepageEffect
  dsimp only
  split <;> simp

@[simp] theorem sessionEndEffect_bare (s : State) (body : List Byte) :
    (s.sessionEndEffect body).agenda.bare = s.agenda.bare := by
  simp [sessionEndEffect]

/-! ### Operations that update the bare entries -/

@[simp] theorem mapEntries_entries (s : State) (f : Entry → Entry) :
    (s.mapEntries f).agenda.entries = s.agenda.entries.map f := rfl

theorem mapEntries_bare (s : State) {f : Entry → Entry} (hf : ∀ e, (f e).bare = (f e.bare).bare) :
    (s.mapEntries f).agenda.bare = s.agenda.bare.map fun e => (f e).bare := by
  simp only [Agenda.bare, mapEntries_entries, List.map_map]
  exact List.map_congr_left fun e _ => hf e

end State

end Sys2Proof.Machine

/-! ## The laws of the agenda (01 R3, R5, R11, 02 R33), on lists of ids and of entries -/

namespace Sys2Proof.Machine

/-! ### The law of size, topics and tickets -/

/-- The tickets of an id: the entry's and its staged successor's. -/
def idTickets (i : Nat × Post × Option Successor) : List Nat :=
  i.1 :: (i.2.2.map (·.ticket)).toList

/-- The agenda's law, of its ids. -/
structure IdsLaw (ids : List (Nat × Post × Option Successor)) : Prop where
  size : ids.length ≤ 16
  tickets : (ids.flatMap idTickets).Nodup
  topics : (ids.map (·.2.1.topic)).Nodup
  successors : ∀ i ∈ ids, ∀ q, i.2.2 = some q → q.post.topic = i.2.1.topic

theorem Agenda.tickets_eq_ids (a : Agenda) : a.tickets = a.ids.flatMap idTickets := by
  simp [Agenda.tickets, Agenda.ids, List.flatMap_map, Entry.id, idTickets]

theorem Agenda.lawful_iff_ids (a : Agenda) : a.lawful ↔ IdsLaw a.ids := by
  have htopics : a.entries.map (·.post.topic) = a.ids.map (·.2.1.topic) := by
    simp [Agenda.ids, Entry.id, Function.comp_def]
  have hsuccessors : (∀ e ∈ a.entries, ∀ q, e.successor = some q → q.post.topic = e.post.topic) ↔
      ∀ i ∈ a.ids, ∀ q, i.2.2 = some q → q.post.topic = i.2.1.topic := by
    simp [Agenda.ids, Entry.id]
  have hsize : a.entries.length = a.ids.length := by simp [Agenda.ids]
  unfold Agenda.lawful
  rw [tickets_eq_ids, htopics, hsuccessors, hsize]
  exact ⟨fun ⟨h1, h2, h3, h4⟩ => ⟨h1, h2, h3, h4⟩, fun ⟨h1, h2, h3, h4⟩ => ⟨h1, h2, h3, h4⟩⟩

theorem Agenda.lawful_congr {a b : Agenda} (h : b.ids = a.ids) (ha : a.lawful) : b.lawful := by
  rw [lawful_iff_ids] at *
  rwa [h]

namespace IdsLaw

variable {ids : List (Nat × Post × Option Successor)}

theorem nil : IdsLaw [] := ⟨by simp, by simp, by simp, by simp⟩

/-- Entries that leave keep the law. -/
theorem sublist (h : IdsLaw ids) {js : List (Nat × Post × Option Successor)}
    (sub : js.Sublist ids) : IdsLaw js :=
  ⟨sub.length_le.trans h.size, h.tickets.sublist (sub.flatMap _), h.topics.sublist (sub.map _),
    fun i hi => h.successors i (sub.subset hi)⟩

theorem filter (h : IdsLaw ids) (p : Nat × Post × Option Successor → Bool) :
    IdsLaw (ids.filter p) :=
  h.sublist List.filter_sublist

/-- The tickets of the entries themselves are distinct. -/
theorem nodup_fst (h : IdsLaw ids) : (ids.map (·.1)).Nodup := by
  refine h.tickets.sublist ?_
  rw [List.map_eq_flatMap]
  exact List.Sublist.flatMap_right ids fun i _ => by simp [idTickets]

/-- An entry under a fresh ticket and a new topic joins (01 R11). -/
theorem append (h : IdsLaw ids) {ticket : Nat} {p : Post} (hroom : ids.length < 16)
    (hticket : ticket ∉ ids.flatMap idTickets) (htopic : p.topic ∉ ids.map (·.2.1.topic)) :
    IdsLaw (ids ++ [(ticket, p, none)]) := by
  refine ⟨by simpa using hroom, ?_, ?_, ?_⟩
  · rw [List.flatMap_append]
    refine h.tickets.append (by simp [idTickets]) ?_
    simpa [idTickets, List.disjoint_singleton] using hticket
  · rw [List.map_append]
    refine h.topics.append (by simp) ?_
    simpa [List.disjoint_singleton] using htopic
  · intro i hi q hq
    obtain hi | rfl : i ∈ ids ∨ i = (ticket, p, none) := by simpa using hi
    · exact h.successors i hi q hq
    · exact absurd hq (by simp)

/-- Two entries share no ticket, and neither do their successors. -/
theorem disjoint (h : IdsLaw ids) {i j : Nat × Post × Option Successor} (hi : i ∈ ids)
    (hj : j ∈ ids) (hne : i ≠ j) : List.Disjoint (idTickets i) (idTickets j) :=
  have _hsymm : Std.Symm (Function.onFun List.Disjoint idTickets) := ⟨fun _ _ hd => hd.symm⟩
  (List.nodup_flatMap.mp h.tickets).2.forall hi hj hne

theorem eq_of_fst_eq (h : IdsLaw ids) {i j : Nat × Post × Option Successor} (hi : i ∈ ids)
    (hj : j ∈ ids) (he : i.1 = j.1) : i = j :=
  List.inj_on_of_nodup_map h.nodup_fst hi hj he

/-- No other entry has the topic of an entry. -/
theorem topic_notMem_filter (h : IdsLaw ids) {i : Nat × Post × Option Successor} (hi : i ∈ ids) :
    i.2.1.topic ∉ (ids.filter (·.1 != i.1)).map (·.2.1.topic) := by
  intro hmem
  obtain ⟨j, hj, htopic⟩ := List.mem_map.mp hmem
  obtain ⟨hj, hne⟩ : j ∈ ids ∧ j.1 ≠ i.1 := by simpa using hj
  exact hne (congrArg Prod.fst (List.inj_on_of_nodup_map h.topics hj hi htopic))

/-- Room for one more once an entry has left. -/
theorem length_filter_lt (h : IdsLaw ids) {i : Nat × Post × Option Successor} (hi : i ∈ ids) :
    (ids.filter (·.1 != i.1)).length < 16 := by
  have hlt : (ids.filter (·.1 != i.1)).length < ids.length :=
    List.length_filter_lt_length_iff_exists.mpr ⟨i, hi, by simp⟩
  have := h.size
  omega

/-- A staged successor that is given up (01 R20, R22). -/
theorem unstage (h : IdsLaw ids) (ticket : Nat) :
    IdsLaw (ids.map fun i => if i.1 = ticket then (i.1, i.2.1, none) else i) := by
  refine ⟨by simpa using h.size, ?_, ?_, ?_⟩
  · rw [List.flatMap_map]
    refine h.tickets.sublist (List.Sublist.flatMap_right ids fun i _ => ?_)
    split <;> simp [idTickets]
  · have htopic : (ids.map fun i => if i.1 = ticket then (i.1, i.2.1, none) else i).map
        (·.2.1.topic) = ids.map (·.2.1.topic) := by
      rw [List.map_map]
      exact List.map_congr_left fun i _ => by
        simp only [Function.comp_def]
        split <;> rfl
    exact htopic ▸ h.topics
  · simp only [List.mem_map]
    rintro _ ⟨i, hi, rfl⟩ q hq
    split at hq
    · exact absurd hq (by simp)
    next hne => simpa [hne] using h.successors i hi q hq

/-- A successor staged under a fresh ticket and its entry's topic (01 R14). -/
theorem stage (h : IdsLaw ids) {ticket fresh : Nat} {p : Post}
    (hfresh : fresh ∉ ids.flatMap idTickets)
    (htopic : ∀ i ∈ ids, i.1 = ticket → p.topic = i.2.1.topic) :
    IdsLaw (ids.map fun i =>
      if i.1 = ticket then (i.1, i.2.1, some { post := p, ticket := fresh }) else i) := by
  have hout (i) (hi : i ∈ ids) : fresh ∉ idTickets i := fun hmem =>
    hfresh (List.mem_flatMap.mpr ⟨i, hi, hmem⟩)
  refine ⟨by simpa using h.size, ?_, ?_, ?_⟩
  · obtain ⟨hown, hpair⟩ := List.nodup_flatMap.mp h.tickets
    rw [List.flatMap_map, List.nodup_flatMap]
    refine ⟨fun i hi => ?_, ?_⟩
    · have hi' := hout i hi
      split
      · simpa [idTickets] using fun e => hi' (by simp [idTickets, e])
      · exact hown i hi
    · refine List.Pairwise.imp_of_mem (fun {i j} hi hj hd => ?_) hpair
      have hne : i.1 ≠ j.1 := fun e =>
        hd (a := i.1) (by simp [idTickets]) (by simp [idTickets, e])
      have hi' := hout i hi
      have hj' := hout j hj
      simp only [Function.onFun] at hd ⊢
      split
      · rw [if_neg (by omega)]
        simp only [idTickets, List.disjoint_cons_left] at hd ⊢
        simpa [hd.1, idTickets] using hj'
      split
      · simp only [idTickets, List.disjoint_cons_right] at hd ⊢
        simpa [hd.1, idTickets] using hi'
      · exact hd
  · have htopics : (ids.map fun i =>
        if i.1 = ticket then (i.1, i.2.1, some { post := p, ticket := fresh }) else i).map
        (·.2.1.topic) = ids.map (·.2.1.topic) := by
      rw [List.map_map]
      exact List.map_congr_left fun i _ => by
        simp only [Function.comp_def]
        split <;> rfl
    exact htopics ▸ h.topics
  · simp only [List.mem_map]
    rintro _ ⟨i, hi, rfl⟩ q hq
    split at hq
    next heq =>
      obtain rfl := Option.some.inj hq
      simpa [heq] using htopic i hi heq
    next hne => simpa [hne] using h.successors i hi q hq

/-- A staged successor takes the place of its entry, at the end (01 R15). -/
theorem promote (h : IdsLaw ids) {i : Nat × Post × Option Successor} {q : Successor} (hi : i ∈ ids)
    (hq : i.2.2 = some q) :
    IdsLaw (ids.filter (·.1 != i.1) ++ [(q.ticket, q.post, none)]) := by
  refine (h.filter _).append (h.length_filter_lt hi) ?_ ?_
  · intro hmem
    obtain ⟨j, hj, hticket⟩ := List.mem_flatMap.mp hmem
    obtain ⟨hj, hne⟩ : j ∈ ids ∧ j.1 ≠ i.1 := by simpa using hj
    exact h.disjoint hi hj (fun e => hne (e ▸ rfl)) (by simp [idTickets, hq]) hticket
  · rw [h.successors i hi q hq]
    exact h.topic_notMem_filter hi

end IdsLaw

/-- The ticket issued to an agenda of at most 16 entries is fresh (01 R3). -/
theorem Agenda.issue_notMem {a : Agenda} (h : a.entries.length ≤ 16) :
    a.issue ∉ a.ids.flatMap idTickets := by
  rw [← a.tickets_eq_ids]
  have hlen := a.tickets_length
  exact a.issue_fresh (by omega)

theorem Agenda.length_ids (a : Agenda) : a.ids.length = a.entries.length := by simp [Agenda.ids]

/-- The tickets of a lawful agenda's entries are distinct. -/
theorem Agenda.nodup_tickets {a : Agenda} (h : a.lawful) : (a.entries.map (·.ticket)).Nodup := by
  have hids := (a.lawful_iff_ids.mp h).nodup_fst
  simpa [Agenda.ids, Entry.id, Function.comp_def] using hids

/-! ### The law of turns (01 R5) -/

theorem Entry.busy_iff {e : Entry} : e.busy = true ↔ e.state = .bidding ∨ e.state = .playing := by
  simp [Entry.busy]

/-- The law of turns, of the entries, the bid of the floor unit and the part state. -/
structure TurnLaw (es : List Entry) (bid : Option Bid) (part : PartState) : Prop where
  busy : (es.filter Entry.busy).length ≤ 1
  bidding : ∀ e ∈ es, e.state = .bidding → ∃ b, bid = some b ∧ b.ticket = e.ticket
  playing : ∀ b, bid = some b → ∀ e ∈ es, e.state ≠ .playing
  active : part ≠ .active → es = []

theorem State.turnLawful_iff (s : State) :
    s.turnLawful ↔ TurnLaw s.agenda.bare s.floor.ctx.bidding s.rest.part := by
  have hbusy : (s.agenda.bare.filter Entry.busy).length =
      (s.agenda.entries.filter Entry.busy).length := by
    simp [Agenda.bare, List.filter_map, Function.comp_def]
  have hbidding : (∀ e ∈ s.agenda.bare, e.state = .bidding →
      ∃ b, s.floor.ctx.bidding = some b ∧ b.ticket = e.ticket) ↔
      ∀ e ∈ s.agenda.entries, e.state = .bidding →
        ∃ b, s.floor.ctx.bidding = some b ∧ b.ticket = e.ticket := by
    simp [Agenda.bare]
  have hplaying : s.agenda.isPlaying = false ↔ ∀ e ∈ s.agenda.bare, e.state ≠ .playing := by
    simp [Agenda.isPlaying, Agenda.bare]
  unfold State.turnLawful
  rw [hplaying, Agenda.entries_eq_nil_iff_bare, ← hbidding, ← hbusy]
  exact ⟨fun ⟨h1, h2, h3, h4⟩ => ⟨h1, h2, h3, h4⟩, fun ⟨h1, h2, h3, h4⟩ => ⟨h1, h2, h3, h4⟩⟩

/-- At most one entry of a list with distinct tickets has a given ticket. -/
theorem length_filter_le_one {es : List Entry} {p : Entry → Bool} {ticket : Nat}
    (hnodup : (es.map (·.ticket)).Nodup) (hp : ∀ e ∈ es, p e = true → e.ticket = ticket) :
    (es.filter p).length ≤ 1 := by
  have hsub : ((es.filter p).map (·.ticket)).Nodup := hnodup.sublist (List.filter_sublist.map _)
  have hall : ∀ n ∈ (es.filter p).map (·.ticket), n = ticket := by
    intro n hn
    obtain ⟨e, he, rfl⟩ := List.mem_map.mp hn
    exact hp e (List.mem_filter.mp he).1 (List.mem_filter.mp he).2
  have hrep : (es.filter p).map (·.ticket) = List.replicate (es.filter p).length ticket :=
    List.eq_replicate_iff.mpr ⟨by simp, hall⟩
  rw [hrep] at hsub
  exact List.nodup_replicate.mp hsub

namespace TurnLaw

variable {es : List Entry} {bid : Option Bid} {part : PartState}

theorem nil (bid : Option Bid) (part : PartState) : TurnLaw [] bid part := by
  constructor <;> simp

/-- Entries that leave, and the entry into ACTIVE, keep the law. -/
theorem sublist (h : TurnLaw es bid part) {es' : List Entry} (sub : es'.Sublist es)
    {part' : PartState} (hpart : part' = part ∨ part' = .active) : TurnLaw es' bid part' where
  busy := (sub.filter _).length_le.trans h.busy
  bidding e he := h.bidding e (sub.subset he)
  playing b hb e he := h.playing b hb e (sub.subset he)
  active hne := by
    obtain rfl | rfl := hpart
    · exact List.sublist_nil.mp (h.active hne ▸ sub)
    · exact absurd rfl hne

/-- Entries that change without becoming busy keep the law, with the same bid or, if none is BIDDING any more, with
none. -/
theorem map (h : TurnLaw es bid part) {f : Entry → Entry} {bid' : Option Bid}
    (hf : ∀ e ∈ es, (f e).ticket = e.ticket ∧ ((f e).busy = true → e.busy = true) ∧
      ((f e).state = .bidding → e.state = .bidding ∧ bid' = bid))
    (hbid : ∀ b, bid' = some b → bid = some b ∧
      ∀ e ∈ es, (f e).state = .playing → e.state = .playing) :
    TurnLaw (es.map f) bid' part where
  busy := by
    refine le_trans ?_ h.busy
    rw [List.filter_map, List.length_map, ← List.countP_eq_length_filter,
      ← List.countP_eq_length_filter]
    exact List.countP_mono_left fun e he hb => (hf e he).2.1 hb
  bidding e' he' hstate := by
    obtain ⟨e, he, rfl⟩ := List.mem_map.mp he'
    obtain ⟨hticket, -, hb⟩ := hf e he
    obtain ⟨hwas, hsame⟩ := hb hstate
    rw [hsame, hticket]
    exact h.bidding e he hwas
  playing b hb e' he' hstate := by
    obtain ⟨e, he, rfl⟩ := List.mem_map.mp he'
    obtain ⟨hwas, hp⟩ := hbid b hb
    exact h.playing b hwas e he (hp e he hstate)
  active hne := by rw [h.active hne, List.map_nil]

/-- An entry that is not busy joins in ACTIVE (01 R2). -/
theorem append (h : TurnLaw es bid part) {e : Entry} (he : e.busy = false)
    (hpart : part = .active) : TurnLaw (es ++ [e]) bid part where
  busy := by simpa [List.filter_append, he] using h.busy
  bidding q hq hstate := by
    obtain hq | rfl : q ∈ es ∨ q = e := by simpa using hq
    · exact h.bidding q hq hstate
    · simp [Entry.busy, hstate] at he
  playing b hb q hq hstate := by
    obtain hq | rfl : q ∈ es ∨ q = e := by simpa using hq
    · exact h.playing b hb q hq hstate
    · simp [Entry.busy, hstate] at he
  active hne := absurd hpart hne

/-- With no other entry busy, the entry of one ticket takes its turn: it plays with no bid, or bids as the
candidate. -/
theorem start {ticket : Nat} (hbusy : ∀ e ∈ es, e.busy = true → e.ticket = ticket)
    (hnodup : (es.map (·.ticket)).Nodup) (hactive : part ≠ .active → es = []) {f : Entry → Entry}
    (hticket : ∀ e, (f e).ticket = e.ticket) {bid' : Option Bid}
    (hbidding : ∀ e, (f e).state = .bidding → ∃ b, bid' = some b ∧ b.ticket = ticket)
    (hplaying : ∀ b, bid' = some b → ∀ e, (f e).state ≠ .playing) :
    TurnLaw (es.map fun e => if e.ticket = ticket then f e else e) bid' part where
  busy := by
    refine length_filter_le_one (ticket := ticket) ?_ fun e' he' hb => ?_
    · have hsame : (es.map fun e => if e.ticket = ticket then f e else e).map (·.ticket) =
          es.map (·.ticket) := by
        rw [List.map_map]
        refine List.map_congr_left fun e _ => ?_
        simp only [Function.comp_def]
        split
        exacts [hticket e, rfl]
      rwa [hsame]
    · obtain ⟨e, he, rfl⟩ := List.mem_map.mp he'
      by_cases h : e.ticket = ticket
      · simp [h, hticket]
      · exact absurd (hbusy e he (by simpa [h] using hb)) h
  bidding e' he' hstate := by
    obtain ⟨e, he, rfl⟩ := List.mem_map.mp he'
    by_cases h : e.ticket = ticket
    · obtain ⟨b, hb, hb'⟩ := hbidding e (by simpa [h] using hstate)
      exact ⟨b, hb, by simp [h, hticket, hb']⟩
    · exact absurd (hbusy e he (by simp_all [Entry.busy])) h
  playing b hb e' he' hstate := by
    obtain ⟨e, he, rfl⟩ := List.mem_map.mp he'
    by_cases h : e.ticket = ticket
    · exact hplaying b hb e (by simpa [h] using hstate)
    · exact absurd (hbusy e he (by simp_all [Entry.busy])) h
  active hne := by rw [hactive hne, List.map_nil]

/-- With no bid and no entry PLAYING, no entry is busy. -/
theorem not_busy (h : TurnLaw es none part) (hplay : ∀ e ∈ es, e.state ≠ .playing) :
    ∀ e ∈ es, e.busy = false := by
  intro e he
  by_contra hb
  obtain hbid | hp := Entry.busy_iff.mp (by simpa using hb)
  · obtain ⟨b, hb, -⟩ := h.bidding e he hbid
    exact absurd hb (by simp)
  · exact hplay e he hp

/-- Beside a bid, a busy entry is its candidate. -/
theorem busy_ticket {b : Bid} (h : TurnLaw es (some b) part) {e : Entry} (he : e ∈ es)
    (hbusy : e.busy = true) : e.ticket = b.ticket := by
  obtain hbid | hp := Entry.busy_iff.mp hbusy
  · obtain ⟨c, hc, hticket⟩ := h.bidding e he hbid
    obtain rfl := Option.some.inj hc
    exact hticket.symm
  · exact absurd hp (h.playing b rfl e he)

end TurnLaw

end Sys2Proof.Machine

/-! ## The bare entries after the operations that change entries (01, 02, 04) -/

namespace Sys2Proof.Machine

namespace Entry

/-- A candidate while it bids (01 R6). -/
def asBidder (e : Entry) : Entry := { e with state := .bidding }

/-- An entry after a bid is deferred: READY again, and tested at the gate (01 R6, 02 R39). -/
def deferred (presence : Presence) (e : Entry) : Entry := e.unbid.gateTest presence

/-- A WAITING entry that meets the eligibility conditions is READY (02 R37). -/
def tested (s : State) (e : Entry) : Entry :=
  if e.state = .waiting ∧ s.eligible e = true then { e with state := .ready, wait := 0 } else e

/-- An entry with another staged successor (01 R14). -/
def staged (successor : Option Successor) (e : Entry) : Entry := { e with successor := successor }

/-- An entry whose play gives up its referral binding (05 R101). -/
def unbound (e : Entry) : Entry := { e with binding := none }

/-- An entry back from an interrupted play (01 R10). -/
def interruptedBack (e : Entry) : Entry := { e.back with replay := false, interrupted := true }

/-! ### The marks pass through the changes -/

theorem request_bare (e : Entry) (r : EndRequest) : (e.request r).bare = e.bare.request r := by
  unfold request
  simp only [bare_endRequest]
  split <;> rfl

theorem gateTest_bare (e : Entry) (presence : Presence) :
    (e.gateTest presence).bare = e.bare.gateTest presence := by
  unfold gateTest
  exact apply_ite bare _ _ _

theorem unbid_bare (e : Entry) : e.unbid.bare = e.bare.unbid := by
  unfold unbid
  exact apply_ite bare _ _ _

theorem deferred_bare (e : Entry) (presence : Presence) :
    (e.deferred presence).bare = e.bare.deferred presence := by
  rw [deferred, gateTest_bare, unbid_bare, deferred]

theorem eligible_bare (s : State) (e : Entry) : s.eligible e.bare = s.eligible e := rfl

theorem tested_bare (s : State) (e : Entry) : (e.tested s).bare = e.bare.tested s := by
  unfold tested
  exact apply_ite bare _ _ _

theorem cadenceStep_bare (e : Entry) : e.cadenceStep.bare = e.bare.cadenceStep := by
  by_cases hahead : 0 < e.ahead
  · simp [cadenceStep, hahead, bare]
  · by_cases howed : e.owed < 8 <;> simp [cadenceStep, hahead, howed, bare]

theorem replayPressed_bare (e : Entry) : e.replayPressed.bare = e.bare.replayPressed := by
  unfold replayPressed
  rw [bare_state]
  split <;> rfl

theorem account_bare (e : Entry) : e.account.bare = e.bare.account := by
  rcases hkind : e.playKind with _ | (_ | _ | _)
  case some.pullIn => by_cases howed : e.owed = 0 <;> simp [account, hkind, howed, bare]
  all_goals simp [account, hkind, bare]

end Entry

namespace State

/-! ### The changes of the model, on the bare entries -/

theorem modify_bare (s : State) (ticket : Nat) {f : Entry → Entry}
    (hf : ∀ e, (f e).bare = f e.bare) :
    (s.agenda.modify ticket f).bare =
      s.agenda.bare.map fun e => if e.ticket = ticket then f e else e := by
  rw [Agenda.bare_modify ticket fun e => by rw [hf, hf, Entry.bare_bare]]
  refine List.map_congr_left fun e he => ?_
  obtain ⟨q, -, rfl⟩ := List.mem_map.mp he
  rw [hf, Entry.bare_bare]

theorem mapEntries_bare_of (s : State) {f : Entry → Entry} (hf : ∀ e, (f e).bare = f e.bare) :
    (s.mapEntries f).agenda.bare = s.agenda.bare.map f := by
  simp only [Agenda.bare, mapEntries_entries, List.map_map]
  exact List.map_congr_left fun e _ => hf e

theorem stopEntry_bare (s : State) (ticket : Nat) (r : EndRequest) (how : StopKind) :
    (s.stopEntry ticket r how).agenda.bare =
      s.agenda.bare.map fun e => if e.ticket = ticket then e.request r else e := by
  rw [← s.modify_bare ticket (f := (·.request r)) fun e => e.request_bare r]
  unfold stopEntry
  cases how <;> simp

theorem startPlay_bare (s : State) (e : Entry) (route : Route) :
    (s.startPlay e route).agenda.bare =
      s.agenda.bare.map fun q => if q.ticket = e.ticket then s.playing q else q := by
  rw [← s.modify_bare e.ticket (f := s.playing) fun _ => rfl]
  unfold startPlay
  dsimp only
  split <;> simp

theorem isolatedStart_bare (s : State) (e : Entry) :
    (s.isolatedStart e).agenda.bare =
      s.agenda.bare.map fun q => if q.ticket = e.ticket then s.playing q else q := by
  unfold isolatedStart
  rw [startPlay_bare]
  simp [requestEstimate, setCtx, playing, bindingFor, setFlash, setFloor]

theorem claimFor_bare (s : State) (e : Entry) :
    (s.claimFor e).agenda.bare =
      s.agenda.bare.map fun q => if q.ticket = e.ticket then q.asBidder else q := by
  rw [← s.modify_bare e.ticket (f := Entry.asBidder) fun _ => rfl]
  simp [claimFor, requestEstimate, setFlash]
  rfl

theorem closeGate_bare (s : State) :
    s.closeGate.agenda.bare = s.agenda.bare.map (Entry.gateTest s.panel.presence) :=
  s.mapEntries_bare_of fun e => e.gateTest_bare _

theorem deferBid_bare (s : State) :
    s.deferBid.agenda.bare = s.agenda.bare.map (Entry.deferred s.panel.presence) := by
  simp only [deferBid, setCtx_keeps, closeGate_bare, mapEntries_keeps]
  rw [s.mapEntries_bare_of fun e => e.unbid_bare, List.map_map]
  rfl

theorem testEligible_bare (s : State) :
    s.testEligible.agenda.bare = s.agenda.bare.map (Entry.tested s) :=
  s.mapEntries_bare_of fun e => e.tested_bare s

theorem leaveEntry_bare (s : State) (e : Entry) (outcome : Retirement) :
    (s.leaveEntry e outcome).agenda.bare = s.agenda.bare.filter fun q => q.ticket != e.ticket := by
  simp [leaveEntry, Agenda.bare, setAgenda, List.filter_map, Function.comp_def]

theorem dropEntry_bare (s : State) (e : Entry) (outcome : Retirement) :
    (s.dropEntry e outcome).agenda.bare = s.agenda.bare.filter fun q => q.ticket != e.ticket := by
  simp [dropEntry, leaveEntry_bare]

theorem admission_bare (s : State) (p : Post) (ticket : Nat) :
    (s.admission p ticket).agenda.bare = s.agenda.bare ++ [s.newEntry p ticket] := by
  simp only [admission, selectOwner_bare, idleTest_keeps]
  exact List.map_append

theorem secondCounted_bare (s : State) :
    s.secondCounted.agenda.bare = s.agenda.bare.map Entry.second :=
  s.mapEntries_bare_of fun _ => rfl

theorem tenthCounted_bare (s : State) :
    s.tenthCounted.agenda.bare = s.agenda.bare.map Entry.tenthTick :=
  s.mapEntries_bare_of fun _ => rfl

end State

end Sys2Proof.Machine

/-! ## What the shared operations keep of the agenda's laws (01 R3, R5, 02 R33) -/

namespace Sys2Proof.Machine

/-! ### Entries that get no turn -/

/-- Two entries with the same counts have the law of credit together, when the later gets no pull-in and no place in
line that the earlier has not. -/
theorem Entry.creditLawful_of {q e : Entry} (h : e.creditLawful) (howed : q.owed = e.owed)
    (hahead : q.ahead = e.ahead) (hkind : e.playKind ≠ some .pullIn → q.playKind ≠ some .pullIn)
    (hready : (e.state = .ready ∨ e.state = .bidding → e.replay = true) →
      q.state = .ready ∨ q.state = .bidding → q.replay = true) : q.creditLawful := by
  obtain ⟨ho, ha, hone, hpull⟩ := h
  rw [← howed] at ho hone
  rw [← hahead] at ha hone hpull
  exact ⟨ho, ha, hone, fun h8 => ⟨hkind (hpull h8).1, hready (hpull h8).2⟩⟩

/-- `q` is the entry `e` after a change that gives it no turn: a BIDDING or PLAYING entry was in that state before. -/
structure Entry.NoTurn (q e : Entry) : Prop where
  ticket : q.ticket = e.ticket
  state : q.busy = true → q.state = e.state
  credit : e.creditLawful → q.creditLawful

namespace Entry

theorem NoTurn.refl (e : Entry) : e.NoTurn e := ⟨rfl, fun _ => rfl, fun h => h⟩

theorem NoTurn.trans {r q e : Entry} (h : r.NoTurn q) (h' : q.NoTurn e) : r.NoTurn e where
  ticket := h.ticket.trans h'.ticket
  state hb := by
    have hq : q.busy = true := by
      have := h.state hb
      rw [busy_iff] at hb ⊢
      rwa [this] at hb
    rw [h.state hb, h'.state hq]
  credit hc := h.credit (h'.credit hc)

theorem NoTurn.ite {q e : Entry} (h : q.NoTurn e) (c : Prop) [Decidable c] :
    (if c then q else e).NoTurn e := by
  split
  exacts [h, .refl e]

/-- A change that leaves state, counts, kind and replay flag. -/
theorem NoTurn.of_eq {q e : Entry} (hticket : q.ticket = e.ticket) (hstate : q.state = e.state)
    (howed : q.owed = e.owed) (hahead : q.ahead = e.ahead) (hkind : q.playKind = e.playKind)
    (hreplay : q.replay = e.replay) : q.NoTurn e where
  ticket := hticket
  state _ := hstate
  credit h := creditLawful_of h howed hahead (by rw [hkind]; exact fun hk => hk)
    (by rw [hstate, hreplay]; exact fun hr => hr)

theorem request_noTurn (e : Entry) (r : EndRequest) : (e.request r).NoTurn e := by
  unfold request
  split <;> exact .of_eq rfl rfl rfl rfl rfl rfl

theorem second_noTurn (e : Entry) : e.second.NoTurn e := .of_eq rfl rfl rfl rfl rfl rfl

theorem tenthTick_noTurn (e : Entry) : e.tenthTick.NoTurn e := .of_eq rfl rfl rfl rfl rfl rfl

theorem unbound_noTurn (e : Entry) : e.unbound.NoTurn e := .of_eq rfl rfl rfl rfl rfl rfl

theorem unbid_noTurn (e : Entry) : e.unbid.NoTurn e := by
  unfold unbid
  split
  next hbid =>
    exact ⟨rfl, by simp [busy_iff], fun h => creditLawful_of h rfl rfl (fun hk => hk) fun hr _ => hr (.inr hbid)⟩
  · exact .refl e

theorem gateTest_noTurn (e : Entry) (presence : Presence) : (e.gateTest presence).NoTurn e := by
  unfold gateTest
  split
  · exact ⟨rfl, by simp [busy_iff], fun h => creditLawful_of h rfl rfl (fun hk => hk) (by simp)⟩
  · exact .refl e

theorem deferred_noTurn (e : Entry) (presence : Presence) : (e.deferred presence).NoTurn e :=
  (e.unbid.gateTest_noTurn presence).trans e.unbid_noTurn

theorem replayPressed_noTurn (e : Entry) : e.replayPressed.NoTurn e := by
  unfold replayPressed
  split
  next h => exact ⟨rfl, fun _ => rfl, fun hc => creditLawful_of hc rfl rfl (fun hk => hk) (by simp)⟩
  next h => exact ⟨rfl, fun _ => rfl, fun hc => creditLawful_of hc rfl rfl (fun hk => hk) (by simp)⟩
  · exact .refl e
  · exact .refl e

/-- An entry with ahead at 8 is not eligible but by its replay flag: it owes nothing, and may not be pulled in (02
R37, R38). -/
theorem replay_of_eligible {s : State} {e : Entry} (h : e.creditLawful) (h8 : e.ahead = 8)
    (hel : s.eligible e = true) : e.replay = true := by
  obtain ⟨-, -, hone, -⟩ := h
  have howed : e.owed = 0 := by omega
  have hreplay : e.post.isSilent = false ∧ e.replay = true := by
    simpa [State.eligible, eligible, pullsIn, howed, h8] using hel
  exact hreplay.2

theorem tested_noTurn (s : State) (e : Entry) : (e.tested s).NoTurn e := by
  unfold tested
  split
  next hready =>
    refine ⟨rfl, by simp [busy_iff], fun h => ?_⟩
    have hreplay (h8 : e.ahead = 8) := replay_of_eligible h h8 hready.2
    obtain ⟨ho, ha, hone, hpull⟩ := h
    exact ⟨ho, ha, hone, fun h8 => ⟨(hpull h8).1, fun _ => hreplay h8⟩⟩
  · exact .refl e

theorem cadenceStep_noTurn (e : Entry) : e.cadenceStep.NoTurn e := by
  unfold cadenceStep
  split_ifs with hahead howed
  · refine ⟨rfl, fun _ => rfl, fun ⟨ho, ha, hone, hpull⟩ => ⟨ho, ?_, ?_, fun h8 => ?_⟩⟩ <;>
      dsimp only at * <;> omega
  · refine ⟨rfl, fun _ => rfl, fun ⟨ho, ha, hone, hpull⟩ => ⟨?_, ha, ?_, fun h8 => ?_⟩⟩ <;>
      dsimp only at * <;> omega
  · exact .of_eq rfl rfl rfl rfl rfl rfl

theorem interruptedBack_noTurn (e : Entry) : e.interruptedBack.NoTurn e :=
  ⟨rfl, by simp [busy_iff, interruptedBack, back], fun h =>
    creditLawful_of h rfl rfl (by simp [interruptedBack, back]) (by simp [interruptedBack, back])⟩

/-- The accounting of a play raises ahead only for a pull-in, which ahead at 8 rules out (02 R38, R40). -/
theorem account_back_credit {e : Entry} (h : e.creditLawful) : e.account.back.creditLawful := by
  obtain ⟨ho, ha, hone, hpull⟩ := h
  have hlt : e.playKind = some .pullIn → e.ahead ≠ 8 := fun hk h8 => (hpull h8).1 hk
  rcases hkind : e.playKind with _ | (_ | _ | _)
  case some.pullIn =>
    have := hlt hkind
    by_cases howed : e.owed = 0 <;>
      simp [creditLawful, back, account, hkind, howed] <;> omega
  all_goals
    simp [creditLawful, back, account, hkind]
    omega

theorem account_back_noTurn (e : Entry) : e.account.back.NoTurn e :=
  ⟨by simp, by simp [busy_iff, back], account_back_credit⟩

end Entry

/-! ### States that keep the agenda's laws -/

/-- `t` has the agenda's laws if `s` has them: of size, topics and tickets, of turns, and of credit. -/
structure State.KeepsLaws (t s : State) : Prop where
  lawful : s.agenda.lawful → t.agenda.lawful
  turn : s.agenda.lawful → s.turnLawful → t.turnLawful
  credit : s.agenda.lawful → s.agenda.creditLawful → t.agenda.creditLawful

namespace State.KeepsLaws

theorem refl (s : State) : s.KeepsLaws s := ⟨fun h => h, fun _ h => h, fun _ h => h⟩

theorem trans {u t s : State} (h : u.KeepsLaws t) (h' : t.KeepsLaws s) : u.KeepsLaws s where
  lawful hl := h.lawful (h'.lawful hl)
  turn hl ht := h.turn (h'.lawful hl) (h'.turn hl ht)
  credit hl hc := h.credit (h'.lawful hl) (h'.credit hl hc)

variable {t s : State}

/-- Entries that get no turn keep the laws, with the bid that stands, or with none when no entry is BIDDING after. -/
theorem of_map {f : Entry → Entry} (hlaw : s.agenda.lawful → t.agenda.lawful)
    (hbare : t.agenda.bare = s.agenda.bare.map f) (hf : ∀ e, (f e).NoTurn e)
    (hbid : t.floor.ctx.bidding = s.floor.ctx.bidding ∨
      (t.floor.ctx.bidding = none ∧ ∀ e, (f e).state ≠ .bidding))
    (hpart : t.rest.part = s.rest.part ∨ t.rest.part = .active) : t.KeepsLaws s where
  lawful := hlaw
  turn _ ht := by
    rw [turnLawful_iff] at ht ⊢
    rw [hbare]
    refine (ht.map (fun e _ => ⟨(hf e).ticket, fun hb => ?_, fun hb => ?_⟩)
      fun b hb => ?_).sublist (List.Sublist.refl _) hpart
    · have hstate := (hf e).state hb
      rw [Entry.busy_iff] at hb ⊢
      rwa [hstate] at hb
    · have hstate := (hf e).state (Entry.busy_iff.mpr (.inl hb))
      obtain hsame | ⟨-, hnone⟩ := hbid
      exacts [⟨hstate ▸ hb, hsame⟩, absurd hb (hnone e)]
    · obtain hsame | ⟨hnone, -⟩ := hbid
      · refine ⟨hsame ▸ hb, fun e _ hp => ?_⟩
        rw [← (hf e).state (Entry.busy_iff.mpr (.inr hp)), hp]
      · exact absurd (hnone ▸ hb) (by simp)
  credit _ hc := by
    rw [Agenda.creditLawful_iff_bare] at hc ⊢
    rw [hbare]
    intro q hq
    obtain ⟨e, he, rfl⟩ := List.mem_map.mp hq
    exact (hf e).credit (hc e he)

/-- A change outside the bare entries, the bid and the part state. -/
theorem of_bare (hbare : t.agenda.bare = s.agenda.bare)
    (hbid : t.floor.ctx.bidding = s.floor.ctx.bidding)
    (hpart : t.rest.part = s.rest.part ∨ t.rest.part = .active) : t.KeepsLaws s :=
  of_map (f := fun e => e)
    (Agenda.lawful_congr (by rw [Agenda.ids_eq_bare, hbare, Agenda.ids_eq_bare]))
    (by simpa using hbare) Entry.NoTurn.refl (.inl hbid) hpart

/-- A change outside the agenda, the bid and the part state. -/
theorem of_eq (hagenda : t.agenda = s.agenda) (hbid : t.floor.ctx.bidding = s.floor.ctx.bidding)
    (hpart : t.rest.part = s.rest.part) : t.KeepsLaws s :=
  of_bare (by rw [hagenda]) hbid (.inl hpart)

/-- The entry with a ticket changes without a turn. -/
theorem of_modify {f : Entry → Entry} {ticket : Nat} (hids : t.agenda.ids = s.agenda.ids)
    (hbare : t.agenda.bare = s.agenda.bare.map fun e => if e.ticket = ticket then f e else e)
    (hf : ∀ e, (f e).NoTurn e) (hbid : t.floor.ctx.bidding = s.floor.ctx.bidding)
    (hpart : t.rest.part = s.rest.part) : t.KeepsLaws s :=
  of_map (Agenda.lawful_congr hids) hbare (fun e => (hf e).ite _) (.inl hbid) (.inl hpart)

/-- An empty agenda has the laws, in every part state. -/
theorem of_empty (h : t.agenda.entries = []) : t.KeepsLaws s where
  lawful _ := by simp [Agenda.lawful, Agenda.tickets, h]
  turn _ _ := by
    rw [turnLawful_iff]
    rw [Agenda.entries_eq_nil_iff_bare] at h
    rw [h]
    exact .nil _ _
  credit _ _ := by simp [Agenda.creditLawful, h]

/-- Entries leave; with the bid gone too, no BIDDING entry is left. -/
theorem of_filter {p : Entry → Bool} (hbare : t.agenda.bare = s.agenda.bare.filter p)
    (hbid : t.floor.ctx.bidding = s.floor.ctx.bidding ∨
      (t.floor.ctx.bidding = none ∧ (s.turnLawful →
        ∀ e ∈ s.agenda.bare, p e = true → e.state ≠ .bidding)))
    (hpart : t.rest.part = s.rest.part) : t.KeepsLaws s where
  lawful hl := by
    rw [Agenda.lawful_iff_ids, Agenda.ids_eq_bare] at hl ⊢
    rw [hbare]
    exact hl.sublist (List.filter_sublist.map _)
  turn _ ht := by
    have hno := hbid.imp_right fun h => And.intro h.1 (h.2 ht)
    rw [turnLawful_iff] at ht ⊢
    rw [hbare, hpart]
    have hsub := ht.sublist (List.filter_sublist (p := p)) (.inl rfl)
    obtain hsame | ⟨hnone, hno⟩ := hno
    · rwa [hsame]
    · rw [hnone]
      refine ⟨hsub.busy, fun e he hstate => ?_, by simp, hsub.active⟩
      obtain ⟨he, hp⟩ := List.mem_filter.mp he
      exact absurd hstate (hno e he hp)
  credit _ hc := by
    rw [Agenda.creditLawful_iff_bare] at hc ⊢
    rw [hbare]
    exact fun e he => hc e (List.mem_filter.mp he).1

/-- With no other entry busy, an entry takes its turn: it plays with no bid, or bids as the candidate. -/
theorem of_start {e : Entry} (hmem : e ∈ s.agenda.entries) {f : Entry → Entry}
    (hids : t.agenda.ids = s.agenda.ids)
    (hbare : t.agenda.bare = s.agenda.bare.map fun q => if q.ticket = e.ticket then f q else q)
    (hpart : t.rest.part = s.rest.part)
    (hbusy : s.turnLawful → ∀ q ∈ s.agenda.bare, q.busy = true → q.ticket = e.ticket)
    (hticket : ∀ q, (f q).ticket = q.ticket)
    (hbidding : ∀ q, (f q).state = .bidding →
      ∃ b, t.floor.ctx.bidding = some b ∧ b.ticket = e.ticket)
    (hplaying : ∀ b, t.floor.ctx.bidding = some b → ∀ q, (f q).state ≠ .playing)
    (hcredit : e.creditLawful → (f e.bare).creditLawful) : t.KeepsLaws s where
  lawful := Agenda.lawful_congr hids
  turn hl ht := by
    have hturn := turnLawful_iff s |>.mp ht
    rw [turnLawful_iff, hbare, hpart]
    refine TurnLaw.start (hbusy ht) ?_ hturn.active hticket hbidding
      hplaying
    simpa [Agenda.bare, Function.comp_def] using Agenda.nodup_tickets hl
  credit hl hc := by
    have hthis := hc e hmem
    have hnodup := Agenda.nodup_tickets hl
    rw [Agenda.creditLawful_iff_bare] at hc ⊢
    rw [hbare]
    intro q' hq'
    obtain ⟨q, hq, rfl⟩ := List.mem_map.mp hq'
    split
    next heq =>
      obtain ⟨r, hr, rfl⟩ := List.mem_map.mp hq
      obtain rfl : r = e := List.inj_on_of_nodup_map hnodup hr hmem heq
      exact hcredit hthis
    · exact hc q hq

end State.KeepsLaws

end Sys2Proof.Machine

/-! ## The shared operations keep the agenda's laws -/

namespace Sys2Proof.Machine

/-! ### The agenda's choices are READY entries -/

theorem topEntry_mem {es : List Entry} {e : Entry} (h : topEntry es = some e) : e ∈ es := by
  induction es generalizing e with
  | nil => simp [topEntry] at h
  | cons q es ih =>
    cases hbest : topEntry es with
    | none => simp_all [topEntry]
    | some best =>
      simp only [topEntry, hbest] at h
      split at h
      · exact List.mem_cons_of_mem q (Option.some.inj h ▸ ih hbest)
      · exact Option.some.inj h ▸ List.mem_cons_self

theorem lowestEntry_mem {es : List Entry} {e : Entry} (h : lowestEntry es = some e) : e ∈ es := by
  induction es generalizing e with
  | nil => simp [lowestEntry] at h
  | cons q es ih =>
    cases hlow : lowestEntry es with
    | none => simp_all [lowestEntry]
    | some low =>
      simp only [lowestEntry, hlow] at h
      split at h
      · exact Option.some.inj h ▸ List.mem_cons_self
      · exact List.mem_cons_of_mem q (Option.some.inj h ▸ ih hlow)

/-- The candidate named to the floor unit is a READY entry, with none PLAYING (01 R6). -/
theorem Agenda.answer_candidate {a : Agenda} {store : Store} {e : Entry}
    (h : a.answer store = .candidate e) :
    e ∈ a.entries ∧ e.state = .ready ∧ e.byFloor store = true ∧ a.isPlaying = false := by
  unfold answer at h
  split at h
  · exact absurd h (by simp)
  next q htop =>
    cases hplay : a.isPlaying with
    | true => simp [hplay] at h
    | false =>
      obtain rfl : q = e := by simpa [hplay] using h
      obtain ⟨hmem, hready, hfloor⟩ : q ∈ a.entries ∧ q.state = .ready ∧ q.byFloor store = true := by
        simpa [floorEntries] using topEntry_mem htop
      exact ⟨hmem, hready, hfloor, rfl⟩

/-- An entry that may start a local play is READY (01 R7). -/
theorem Agenda.localCandidate_mem {a : Agenda} {store : Store} {e : Entry}
    (h : a.localCandidate store = some e) :
    e ∈ a.entries ∧ e.state = .ready ∧ e.byLocal store = true := by
  unfold localCandidate at h
  split at h
  · exact absurd h (by simp)
  next q htop =>
    cases hlocal : q.byLocal store with
    | false => simp [hlocal] at h
    | true =>
      obtain rfl : q = e := by simpa [hlocal] using h
      have hmem : q ∈ a.entries ∧ q.state = .ready := by
        simpa [hlocal] using topEntry_mem htop
      exact ⟨hmem.1, hmem.2, hlocal⟩

namespace State

/-- With no bid and no entry PLAYING, the law of turns leaves no entry busy. -/
theorem not_busy_of_free {s : State} (ht : s.turnLawful) (hbid : s.floor.ctx.bidding = none)
    (hplay : s.agenda.isPlaying = false) : ∀ q ∈ s.agenda.bare, q.busy = false := by
  rw [turnLawful_iff, hbid] at ht
  exact ht.not_busy (by simpa [Agenda.isPlaying, Agenda.bare] using hplay)

theorem bidding_of_floorFree {s : State} (h : s.floorFree = true) : s.floor.ctx.bidding = none := by
  unfold floorFree at h
  unfold FloorCtx.bidding
  split at h <;> simp_all

/-- The play of an entry in line keeps the law of credit: ahead at 8 makes it a replay (01 R8, 02 R38). -/
theorem playing_credit {s : State} {e : Entry} (hline : e.state = .ready ∨ e.state = .bidding)
    (h : e.creditLawful) : (s.playing e).creditLawful := by
  obtain ⟨ho, ha, hone, hpull⟩ := h
  refine ⟨ho, ha, hone, fun h8 => ⟨?_, by simp [playing]⟩⟩
  have hreplay := (hpull h8).2 hline
  simp only [playing, kindOfPlay, hreplay]
  split <;> simp

theorem asBidder_credit {e : Entry} (hready : e.state = .ready) (h : e.creditLawful) :
    e.asBidder.creditLawful :=
  Entry.creditLawful_of h rfl rfl (fun hk => hk) fun hr _ => hr (.inl hready)

/-! ### Changes without a turn -/

theorem selectOwner_laws (s : State) : s.selectOwner.KeepsLaws s :=
  .of_bare (by simp) (by simp) (by simp)

theorem idleTest_laws (s : State) : s.idleTest.KeepsLaws s := .of_eq (by simp) (by simp) (by simp)

theorem returnActive_laws (s : State) : s.returnActive.KeepsLaws s :=
  .of_bare (by simp) (by simp) (by
    cases h : s.rest.part <;> simp [PartState.returned, h])

theorem stopEntry_laws (s : State) (ticket : Nat) (r : EndRequest) (how : StopKind) :
    (s.stopEntry ticket r how).KeepsLaws s :=
  .of_modify (by simp) (s.stopEntry_bare ticket r how) (·.request_noTurn r) (by simp) (by simp)

theorem testEligible_laws (s : State) : s.testEligible.KeepsLaws s :=
  .of_map (Agenda.lawful_congr (by simp)) s.testEligible_bare (Entry.tested_noTurn s)
    (.inl (by simp)) (.inl (by simp))

theorem closeGate_laws (s : State) : s.closeGate.KeepsLaws s :=
  .of_map (Agenda.lawful_congr (by simp)) s.closeGate_bare (·.gateTest_noTurn _)
    (.inl (by simp)) (.inl (by simp))

theorem deferred_not_bidding (e : Entry) (presence : Presence) :
    (e.deferred presence).state ≠ .bidding := by
  unfold Entry.deferred Entry.gateTest Entry.unbid
  (repeat' split) <;> simp_all

theorem deferBid_laws (s : State) : s.deferBid.KeepsLaws s :=
  .of_map (Agenda.lawful_congr (by simp)) s.deferBid_bare (·.deferred_noTurn _)
    (.inr ⟨by simp [FloorCtx.bidding], (deferred_not_bidding · _)⟩) (.inl (by simp))

theorem viewChanged_laws (s : State) : s.viewChanged.KeepsLaws s := by
  unfold viewChanged
  split
  · split
    · exact .refl s
    · exact (deferBid_laws _).trans (.of_eq (by simp) (by simp) (by simp))
  next hctx =>
    split
    · split
      · exact .refl s
      · exact .of_eq (by simp) (by simp [hctx, FloorCtx.bidding]) (by simp)
    · exact .refl s
    · exact .refl s
  all_goals exact .refl s

theorem isolateReport_laws (s : State) : s.isolateReport.KeepsLaws s := by
  unfold isolateReport
  split
  · exact .refl s
  dsimp only
  split
  next hctx => exact .of_eq (by simp) (by simp) (by simp)
  next hctx => exact .of_eq (by simp) (by simp [hctx, FloorCtx.bidding]) (by simp)
  next hctx => exact (deferBid_laws _).trans (.of_eq (by simp) (by simp) (by simp))
  next hctx => exact (deferBid_laws _).trans (.of_eq (by simp) (by simp) (by simp))
  next hctx => exact (deferBid_laws _).trans (.of_eq (by simp) (by simp) (by simp))
  next hctx => exact .of_eq (by simp) (by simp) (by simp)

theorem lineGood_bidding (s : State) : s.lineGood.floor.ctx.bidding = s.floor.ctx.bidding := by
  rw [lineGood_floor]
  dsimp only
  split
  next hctx => simp [hctx, FloorCtx.bidding]
  · rfl

theorem lineGood_laws (s : State) : s.lineGood.KeepsLaws s :=
  .of_eq (by simp) s.lineGood_bidding (by simp)

theorem leaveBid_bidding (s : State) : s.leaveBid.floor.ctx.bidding = none := by
  obtain h | h := s.leaveBid_ctx <;> rw [h] <;> rfl

/-! ### Plays that start -/

/-- A play starts for a READY entry with no bid and none PLAYING. -/
theorem startPlay_laws {s : State} {e : Entry} (route : Route) (hmem : e ∈ s.agenda.entries)
    (hready : e.state = .ready) (hbid : s.floor.ctx.bidding = none)
    (hplay : s.agenda.isPlaying = false) : (s.startPlay e route).KeepsLaws s :=
  .of_start hmem (by simp) (s.startPlay_bare e route) (by simp)
    (fun ht q hq hb => absurd hb (by simp [not_busy_of_free ht hbid hplay q hq]))
    (fun _ => rfl) (fun _ h => by simp [playing] at h) (by simp [hbid])
    (playing_credit (e := e.bare) (.inl hready))

theorem isolatedStart_laws {s : State} {e : Entry} (hmem : e ∈ s.agenda.entries)
    (hready : e.state = .ready) (hbid : s.floor.ctx.bidding = none)
    (hplay : s.agenda.isPlaying = false) : (s.isolatedStart e).KeepsLaws s :=
  .of_start hmem (by simp) (s.isolatedStart_bare e) (by simp)
    (fun ht q hq hb => absurd hb (by simp [not_busy_of_free ht hbid hplay q hq]))
    (fun _ => rfl) (fun _ h => by simp [playing] at h)
    (by simp [isolatedStart, FloorCtx.bidding])
    (playing_credit (e := e.bare) (.inl hready))

theorem localStart_laws (s : State) : s.localStart.KeepsLaws s := by
  unfold localStart
  split
  next hfree =>
    obtain ⟨-, hplay, hfree⟩ := hfree
    split
    next e he =>
      obtain ⟨hmem, hready, -⟩ := Agenda.localCandidate_mem he
      exact startPlay_laws _ hmem hready (bidding_of_floorFree hfree) hplay
    · exact .refl s
  · exact .refl s

theorem floorTest_laws (s : State) : s.floorTest.KeepsLaws s := by
  unfold floorTest
  split
  next hfree =>
    have hbid := bidding_of_floorFree hfree.2
    split
    next e he =>
      obtain ⟨hmem, hready, -, hplay⟩ := Agenda.answer_candidate he
      split
      · exact isolatedStart_laws hmem hready hbid hplay
      split
      next hidle => exact .of_eq (by simp) (by simp [hidle, FloorCtx.bidding]) (by simp)
      · exact .refl s
    · exact .refl s
    · exact .refl s
  · exact .refl s

theorem followUp_laws (s : State) : s.followUp.KeepsLaws s :=
  (idleTest_laws _).trans <| (floorTest_laws _).trans <| (localStart_laws _).trans s.selectOwner_laws

/-- The candidate of a bid plays (01 R6): with the bid gone into a hold, no other entry is busy. -/
theorem startBid_laws {s t : State} {bid : Bid} (hs : s.floor.ctx.bidding = some bid)
    (hagenda : t.agenda = s.agenda) (hpart : t.rest.part = s.rest.part)
    (ht : t.floor.ctx.bidding = none) : (t.startBid bid.ticket).KeepsLaws s := by
  have hbusy (hturn : s.turnLawful) : ∀ q ∈ s.agenda.bare, q.busy = true → q.ticket = bid.ticket := by
    rw [turnLawful_iff, hs] at hturn
    exact fun q hq hb => hturn.busy_ticket hq hb
  cases hfind : s.agenda.find bid.ticket with
  | none =>
    have hstart : t.startBid bid.ticket = t := by simp [startBid, hagenda, hfind]
    have hno (hturn : s.turnLawful) : ∀ q ∈ s.agenda.bare, q.busy ≠ true := by
      intro q hq hb
      obtain ⟨e, he, rfl⟩ := List.mem_map.mp hq
      have hnone := List.find?_eq_none.mp hfind e he
      exact hnone (by simpa using hbusy hturn _ hq hb)
    rw [hstart]
    exact .of_filter (p := fun _ => true) (by simp [hagenda])
      (.inr ⟨ht, fun hturn q hq _ hstate => hno hturn q hq (Entry.busy_iff.mpr (.inl hstate))⟩) hpart
  | some e =>
    have hmem : e ∈ s.agenda.entries := List.mem_of_find?_eq_some hfind
    have hticket : e.ticket = bid.ticket := by simpa using List.find?_some hfind
    by_cases hstate : e.state = .bidding
    · have hstart : t.startBid bid.ticket = t.startPlay e .floor := by
        simp [startBid, hagenda, hfind, hstate]
      rw [hstart]
      refine .of_start (f := t.playing) hmem (by simp [hagenda]) (by rw [startPlay_bare, hagenda]) (by simp [hpart])
        (fun hturn q hq hb => hticket ▸ hbusy hturn q hq hb) (fun _ => rfl)
        (fun _ h => by simp [playing] at h) (by simp [ht])
        (playing_credit (e := e.bare) (.inr hstate))
    · have hstart : t.startBid bid.ticket = t := by simp [startBid, hagenda, hfind, hstate]
      rw [hstart]
      refine ⟨fun h => hagenda ▸ h, fun hl hturn => ?_, fun _ h => hagenda ▸ h⟩
      have hnodup := Agenda.nodup_tickets hl
      have hno : ∀ q ∈ s.agenda.bare, q.state ≠ .bidding := by
        intro q hq hq'
        have heq := hbusy hturn q hq (Entry.busy_iff.mpr (.inl hq'))
        obtain ⟨r, hr, rfl⟩ := List.mem_map.mp hq
        obtain rfl : r = e := List.inj_on_of_nodup_map hnodup hr hmem (heq.trans hticket.symm)
        exact hstate hq'
      have hsame : t.KeepsLaws s := .of_filter (p := fun _ => true) (by simp [hagenda])
        (.inr ⟨ht, fun _ q hq _ => hno q hq⟩) hpart
      exact hsame.turn hl hturn

end State

end Sys2Proof.Machine

/-! ## Retirement, admission and the end of a play keep the agenda's laws (01 R10 to R24) -/

namespace Sys2Proof.Machine

namespace State

/-! ### Retirement -/

theorem dropEntry_laws (s : State) (e : Entry) (outcome : Retirement) :
    (s.dropEntry e outcome).KeepsLaws s :=
  .of_filter (s.dropEntry_bare e outcome) (.inl (by simp)) (by simp)

/-- The bid, if there is one, is that of the entry (01 R5). -/
def bidsFor (s : State) (e : Entry) : Prop :=
  e.state = .bidding → ∀ b, s.floor.ctx.bidding = some b → b.ticket = e.ticket

theorem lostCandidate_bidding (s : State) : s.lostCandidate.floor.ctx.bidding = none := by
  unfold lostCandidate
  split
  · exact leaveBid_bidding _
  · exact leaveBid_bidding _
  · exact leaveBid_bidding _
  all_goals simp [FloorCtx.bidding, *]

/-- A candidate is lost with its bid (01 R19, 04 R85). -/
theorem lostCandidate_dropEntry_laws {s : State} {e : Entry} (hbid : s.bidsFor e)
    (hstate : e.state = .bidding) (outcome : Retirement) :
    (s.lostCandidate.dropEntry e outcome).KeepsLaws s := by
  refine .of_filter (p := fun q => q.ticket != e.ticket)
    ((dropEntry_bare _ e outcome).trans (by simp))
    (.inr ⟨by simp [lostCandidate_bidding], fun hturn q hq hne hq' => ?_⟩) (by simp)
  rw [turnLawful_iff] at hturn
  obtain ⟨b, hb, hticket⟩ := hturn.bidding q hq hq'
  exact absurd (hticket.symm.trans (hbid hstate b hb)) (by simpa using hne)

theorem retireEntry_laws {s : State} {e : Entry} (hbid : s.bidsFor e) (outcome : Retirement) :
    (s.retireEntry e outcome).KeepsLaws s := by
  unfold retireEntry
  split
  · exact dropEntry_laws s e outcome
  · exact dropEntry_laws s e outcome
  next hstate => exact lostCandidate_dropEntry_laws hbid hstate outcome
  · exact stopEntry_laws s _ _ _

/-- An entry of a lawful agenda has the bid, if it bids and there is one. -/
theorem bidsFor_of_mem {s : State} (hturn : s.turnLawful) {e : Entry} (he : e ∈ s.agenda.entries) :
    s.bidsFor e := by
  intro hstate b hb
  obtain ⟨c, hc, hticket⟩ := hturn.2.1 e he hstate
  obtain rfl : b = c := Option.some.inj (hb.symm.trans hc)
  exact hticket

/-- A retirement ends the bid or leaves it. -/
theorem retireEntry_bidding (s : State) (e : Entry) (outcome : Retirement) :
    (s.retireEntry e outcome).floor.ctx.bidding = none ∨
      (s.retireEntry e outcome).floor.ctx.bidding = s.floor.ctx.bidding := by
  unfold retireEntry
  split
  · exact .inr (by simp)
  · exact .inr (by simp)
  · exact .inl (by simp [lostCandidate_bidding])
  · exact .inr (by simp)

theorem bidsFor_retireEntry {s : State} {e q : Entry} (h : s.bidsFor q) (outcome : Retirement) :
    (s.retireEntry e outcome).bidsFor q := by
  intro hstate b hb
  obtain hnone | hsame := s.retireEntry_bidding e outcome
  · exact absurd (hnone ▸ hb) (by simp)
  · exact h hstate b (hsame ▸ hb)

/-- A retirement keeps the laws of the entries, whatever the bid. -/
theorem retireEntry_entries (s : State) (e : Entry) (outcome : Retirement) :
    (s.agenda.lawful → (s.retireEntry e outcome).agenda.lawful) ∧
      (s.agenda.lawful → s.agenda.creditLawful →
        (s.retireEntry e outcome).agenda.creditLawful) := by
  unfold retireEntry
  split
  · exact ⟨(s.dropEntry_laws e outcome).lawful, (s.dropEntry_laws e outcome).credit⟩
  · exact ⟨(s.dropEntry_laws e outcome).lawful, (s.dropEntry_laws e outcome).credit⟩
  · simpa using And.intro (s.lostCandidate.dropEntry_laws e outcome).lawful
      (s.lostCandidate.dropEntry_laws e outcome).credit
  · exact ⟨(s.stopEntry_laws _ _ _).lawful, (s.stopEntry_laws _ _ _).credit⟩

theorem retireAll_entries (s : State) (outcome : Retirement) (es : List Entry) :
    (s.agenda.lawful → (s.retireAll outcome es).agenda.lawful) ∧
      (s.agenda.lawful → s.agenda.creditLawful →
        (s.retireAll outcome es).agenda.creditLawful) := by
  induction es generalizing s with
  | nil => exact ⟨fun h => h, fun _ h => h⟩
  | cons e es ih =>
    obtain ⟨hlaw, hcredit⟩ := s.retireEntry_entries e outcome
    exact ⟨fun h => (ih _).1 (hlaw h), fun h hc => (ih _).2 (hlaw h) (hcredit h hc)⟩

theorem retireAll_turn {s : State} {es : List Entry} (outcome : Retirement)
    (h : ∀ e ∈ es, s.bidsFor e) (hl : s.agenda.lawful) (ht : s.turnLawful) :
    (s.retireAll outcome es).turnLawful := by
  induction es generalizing s with
  | nil => exact ht
  | cons e es ih =>
    have hlaws := retireEntry_laws (h e List.mem_cons_self) outcome
    exact ih (fun q hq => bidsFor_retireEntry (h q (List.mem_cons_of_mem e hq)) outcome)
      (hlaws.lawful hl) (hlaws.turn hl ht)

/-- Entries of the agenda retire one after another (01 R23). -/
theorem retireAll_laws {s : State} {es : List Entry} (outcome : Retirement)
    (h : ∀ e ∈ es, e ∈ s.agenda.entries) : (s.retireAll outcome es).KeepsLaws s where
  lawful := (s.retireAll_entries outcome es).1
  turn hl ht := retireAll_turn outcome (fun e he => bidsFor_of_mem ht (h e he)) hl ht
  credit := (s.retireAll_entries outcome es).2

/-- An entry of the agenda retires (01 R19). -/
theorem retireEntry_laws_of_mem {s : State} {e : Entry} (outcome : Retirement)
    (h : e ∈ s.agenda.entries) : (s.retireEntry e outcome).KeepsLaws s :=
  retireAll_laws (es := [e]) outcome (by simpa using h)

/-! ### Admission -/

theorem newEntry_not_busy (s : State) (p : Post) (ticket : Nat) :
    (s.newEntry p ticket).busy = false := by
  unfold newEntry firstState Entry.busy
  dsimp only
  split <;> rfl

theorem newEntry_creditLawful (s : State) (p : Post) (ticket : Nat) :
    (s.newEntry p ticket).creditLawful := by
  simp [newEntry, Entry.creditLawful]

/-- An admission in ACTIVE keeps the laws of turns and of credit (01 R2). -/
theorem admission_laws {t s : State} (p : Post) (ticket : Nat) (h : t.KeepsLaws s)
    (hlaw : s.agenda.lawful → (t.admission p ticket).agenda.lawful)
    (hactive : s.turnLawful → t.rest.part = .active) : (t.admission p ticket).KeepsLaws s where
  lawful := hlaw
  turn hl ht := by
    have hturn := h.turn hl ht
    rw [turnLawful_iff] at hturn ⊢
    rw [admission_bare]
    simpa using hturn.append (newEntry_not_busy t p ticket) (hactive ht)
  credit hl hc := by
    have hcredit := h.credit hl hc
    rw [Agenda.creditLawful_iff_bare] at hcredit ⊢
    rw [admission_bare]
    intro q hq
    obtain hq | rfl : q ∈ t.agenda.bare ∨ q = t.newEntry p ticket := by simpa using hq
    · exact hcredit q hq
    · exact newEntry_creditLawful t p ticket

/-! ### The end of a play -/

/-- Outside ACTIVE the agenda is empty. -/
theorem active_of_id_mem {s : State} (h : s.turnLawful) {e : Entry} (he : e.id ∈ s.agenda.ids) :
    s.rest.part = .active := by
  by_contra hne
  rw [Agenda.ids, h.2.2.2 hne] at he
  exact absurd he List.not_mem_nil

/-- The entry of a play leaves, and its staged successor is admitted (01 R15). -/
theorem dropPlayed_laws {s : State} {e : Entry} (hid : e.id ∈ s.agenda.ids)
    (outcome : Retirement) : (s.dropPlayed e outcome).KeepsLaws s := by
  unfold dropPlayed
  split
  next n hn =>
    refine admission_laws _ _ (.of_filter (s.leaveEntry_bare e outcome) (.inl (by simp)) (by simp))
      (fun hl => ?_) fun ht => by simpa using active_of_id_mem ht hid
    rw [Agenda.lawful_iff_ids] at hl ⊢
    rw [admission_ids, leaveEntry_ids]
    exact hl.promote hid hn
  · exact dropEntry_laws s e outcome

theorem entryPlayed_laws {s : State} {e : Entry} (hid : e.id ∈ s.agenda.ids) :
    (s.entryPlayed e).KeepsLaws s := by
  unfold entryPlayed
  split
  · exact dropPlayed_laws hid _
  · exact .of_modify (ids_modify _ _ _ fun _ => rfl)
      (s.modify_bare e.ticket (f := Entry.interruptedBack) fun _ => rfl)
      Entry.interruptedBack_noTurn (by simp) (by simp)
  · split
    · exact dropPlayed_laws (by simpa [Entry.id] using hid) _
    · exact .of_modify (ids_modify _ _ _ fun _ => by simp [Entry.id])
        (s.modify_bare e.ticket (f := fun q => q.account.back) fun q => by
          rw [← Entry.account_bare]; rfl)
        Entry.account_back_noTurn (by simp) (by simp)

theorem bindingCause_laws (s : State) (ticket : Nat) : (s.bindingCause ticket).KeepsLaws s :=
  .of_bare (by simp) (by simp) (by simp)

theorem agendaPlayEnd_laws (s : State) (report : EndReport) :
    (s.agendaPlayEnd report).KeepsLaws s := by
  unfold agendaPlayEnd
  split
  · exact .refl s
  next e he =>
    have hids (f : Entry → Entry) (hf : ∀ q, (f q).id = q.id) :
        (s.agenda.modify report.ticket f).ids = s.agenda.ids := ids_modify _ _ _ hf
    have hmem : e.id ∈ s.agenda.ids := List.mem_map_of_mem (List.mem_of_find?_eq_some he)
    have hunbound : (s.setAgenda (s.agenda.modify report.ticket Entry.unbound)).KeepsLaws s :=
      .of_modify (hids _ fun _ => rfl)
        (s.modify_bare report.ticket (f := Entry.unbound) fun _ => rfl)
        Entry.unbound_noTurn (by simp) (by simp)
    dsimp only
    refine (testEligible_laws _).trans ((entryPlayed_laws ?_).trans ?_)
    · rw [show Entry.id { e with binding := none } = e.id from rfl]
      split <;> simpa [hids Entry.unbound fun _ => rfl] using hmem
    · split
      exacts [(bindingCause_laws _ _).trans hunbound, hunbound]

theorem playEnded_laws (s : State) (report : EndReport) : (s.playEnded report).KeepsLaws s := by
  unfold playEnded
  split
  next bid hold hctx =>
    refine (followUp_laws _).trans (.trans ?_ ((agendaPlayEnd_laws _ report).trans
      (.of_eq (t := s.releaseHold hold) (by simp) (by simp) (by simp))))
    exact .of_eq (by simp) (by rw [leaveBid_bidding]; simp [hctx, FloorCtx.bidding]) (by simp)
  all_goals exact (followUp_laws _).trans (agendaPlayEnd_laws _ _)

theorem endReported_laws (s : State) (report : EndReport) :
    (s.endReported report).KeepsLaws s :=
  (playEnded_laws _ _).trans (.of_eq (by simp) (by simp) (by simp))

end State

end Sys2Proof.Machine

/-! ## Every step keeps the agenda's laws (01 R3, R5, R11, 02 R33) -/

namespace Sys2Proof.Machine

namespace State

/-! ### The room line and the floor unit -/

theorem holderHearsClaim_laws {s : State} {bid : Bid} {hold : Hold} {key : Nat}
    (hctx : s.floor.ctx.bidding = none) : (s.holderHearsClaim bid hold key).KeepsLaws s := by
  unfold holderHearsClaim
  split
  · split
    · exact (stopEntry_laws _ _ _ _).trans
        (.of_eq (by simp) (by rw [hctx]; simp [markYield, FloorCtx.bidding]) (by simp))
    · exact .refl s
    · exact .refl s
  · exact .of_eq (by simp) (by simp) (by simp)

theorem yieldAtOnce_laws {s : State} {bid : Bid} {hold : Hold}
    (hctx : s.floor.ctx.bidding = none) : (s.yieldAtOnce bid hold).KeepsLaws s :=
  (stopEntry_laws _ _ _ _).trans
    (.of_eq (by simp) (by rw [hctx]; simp [markYield, FloorCtx.bidding]) (by simp))

theorem holderHearsTalk_laws {s : State} {bid : Bid} {hold : Hold} {station key : Nat}
    (hctx : s.floor.ctx.bidding = none) : (s.holderHearsTalk bid hold station key).KeepsLaws s := by
  unfold holderHearsTalk
  split
  · split
    · exact yieldAtOnce_laws hctx
    · exact yieldAtOnce_laws hctx
    · exact .refl s
  · exact .of_eq (by simp) (by simp) (by simp)

/-- A change outside agenda, floor context and part state. -/
theorem KeepsLaws.of_ctx {t s : State} (hagenda : t.agenda = s.agenda)
    (hctx : t.floor.ctx = s.floor.ctx) (hpart : t.rest.part = s.rest.part) : t.KeepsLaws s :=
  .of_eq hagenda (by rw [hctx]) hpart

theorem recordClaim_laws (s : State) (station key : Nat) (mask : BitVec 4) :
    (s.recordClaim station key mask).KeepsLaws s := .of_ctx rfl rfl rfl

theorem recordHolder_laws (s : State) (station key : Nat) (mask : BitVec 4) (length : Nat) :
    (s.recordHolder station key mask length).KeepsLaws s := .of_ctx rfl rfl rfl

theorem forget_laws (s : State) (station : Nat) : (s.forget station).KeepsLaws s :=
  .of_ctx rfl rfl rfl

theorem removeFrame_laws (s : State) (name : SlotName) : (s.removeFrame name).KeepsLaws s :=
  .of_eq (by simp) (by simp) (by simp)

theorem hearClaim_laws (s : State) (station key : Nat) (mask : BitVec 4) :
    (s.hearClaim station key mask).KeepsLaws s := by
  have hrecord := s.recordClaim_laws station key mask
  unfold hearClaim
  split
  · dsimp only
    split
    · split
      · exact (deferBid_laws _).trans ((removeFrame_laws _ _).trans hrecord)
      · exact hrecord
    next hctx =>
      exact (holderHearsClaim_laws (by simp [recordClaim, hctx, FloorCtx.bidding])).trans hrecord
    · exact hrecord
    · exact (viewChanged_laws _).trans hrecord
    · exact (viewChanged_laws _).trans hrecord
    · exact hrecord
  · exact (viewChanged_laws _).trans (s.forget_laws station)

theorem hearTalk_laws (s : State) (station key : Nat) (mask : BitVec 4) (length : Nat) :
    (s.hearTalk station key mask length).KeepsLaws s := by
  have hrecord := s.recordHolder_laws station key mask length
  unfold hearTalk
  split
  · dsimp only
    split
    · exact (deferBid_laws _).trans ((removeFrame_laws _ _).trans hrecord)
    next hctx =>
      exact (holderHearsTalk_laws (by simp [recordHolder, hctx, FloorCtx.bidding])).trans hrecord
    · exact hrecord
    · exact (viewChanged_laws _).trans hrecord
    · exact (viewChanged_laws _).trans hrecord
    · exact hrecord
  · exact (viewChanged_laws _).trans (s.forget_laws station)

theorem handOn_laws (s : State) (h : Heard) : (s.handOn h).KeepsLaws s := by
  unfold handOn
  split
  · exact s.hearClaim_laws _ _ _
  · exact s.hearTalk_laws _ _ _ _
  · exact (viewChanged_laws _).trans (s.forget_laws _)
  · exact .of_ctx rfl rfl rfl

theorem takeHeard_laws (s : State) (h : Heard) (own : Bool) : (s.takeHeard h own).KeepsLaws s := by
  unfold takeHeard
  split
  · exact .refl s
  split
  · exact .of_eq (by simp) (by simp) (by simp)
  · exact (followUp_laws _).trans ((handOn_laws _ h).trans s.lineGood_laws)

theorem frameHeard_laws (s : State) (chars : List Byte) : (s.frameHeard chars).KeepsLaws s := by
  have hhunt : (s.toHunt 0).KeepsLaws s := .of_ctx rfl rfl rfl
  have htake : (match takeFrame chars with
      | some h => (s.toHunt 0).takeHeard h (s.isOwnFrame chars)
      | none => s.toHunt 0).KeepsLaws s := by
    split
    exacts [(takeHeard_laws _ _ _).trans hhunt, hhunt]
  unfold frameHeard
  split
  · split
    exacts [hhunt, htake, htake]
  · exact .refl s

/-- What the floor unit does with its own frame sent (04 R76, R79, R80). -/
theorem floorSent_laws (s : State) (kind : FrameKind) : (s.floorSent kind).KeepsLaws s := by
  unfold floorSent
  split
  next hctx => exact .of_eq (by simp) (by simp [hctx, FloorCtx.bidding]) (by simp)
  next hctx =>
    exact startBid_laws (by simp [hctx, FloorCtx.bidding]) (by simp) (by simp)
      (by simp [FloorCtx.bidding])
  next hctx => exact .of_eq (by simp) (by simp [hctx, FloorCtx.bidding]) (by simp)
  · exact .refl s

theorem frameSent_laws (s : State) : s.frameSent.KeepsLaws s := by
  unfold frameSent
  split
  · exact .refl s
  · dsimp only
    split
    · exact .of_eq (by simp) (by simp) (by simp)
    · exact (followUp_laws _).trans ((lineGood_laws _).trans ((floorSent_laws _ _).trans
        (.of_eq (by simp) (by simp) (by simp))))

theorem floorAbandoned_laws (s : State) (kind : FrameKind) : (s.floorAbandoned kind).KeepsLaws s := by
  unfold floorAbandoned
  split
  exacts [deferBid_laws s, deferBid_laws s, .refl s]

theorem countAbandon_laws (s : State) : s.countAbandon.KeepsLaws s := by
  unfold countAbandon
  split
  · dsimp only
    split
    · exact (isolateReport_laws _).trans (.of_ctx rfl rfl rfl)
    · exact .of_ctx rfl rfl rfl
  · exact .refl s

theorem abandonFrame_laws (s : State) (name : SlotName) (kind : FrameKind) :
    (s.abandonFrame name kind).KeepsLaws s :=
  (countAbandon_laws _).trans ((floorAbandoned_laws _ _).trans
    (.of_eq (by simp) (by simp) (by simp)))

theorem transmitFailed_laws (s : State) : s.transmitFailed.KeepsLaws s := by
  unfold transmitFailed
  split
  · exact .refl s
  · dsimp only
    split
    · exact .of_ctx rfl rfl rfl
    · split
      · exact (followUp_laws _).trans ((abandonFrame_laws _ _ _).trans (.of_ctx rfl rfl rfl))
      · exact .of_eq (by simp) (by simp) (by simp)

theorem lineHeld_laws (s : State) : s.lineHeld.KeepsLaws s := by
  unfold lineHeld
  split
  · exact (followUp_laws _).trans ((isolateReport_laws _).trans
      (.of_eq (by simp) (by simp) (by simp)))
  · exact .refl s

/-! ### The floor unit's timers -/

theorem settleTicked_laws (s : State) : s.settleTicked.KeepsLaws s := by
  unfold settleTicked
  split
  next hctx =>
    refine (followUp_laws _).trans (.of_eq (by simp) ?_ (by simp))
    simp only [setCtx_floor, hctx, settleCounted]
    (repeat' split) <;> rfl
  all_goals exact .refl s

theorem claimCandidate_mem {s : State} {e : Entry} (h : s.claimCandidate = some e) :
    e ∈ s.agenda.entries ∧ e.state = .ready ∧ s.agenda.isPlaying = false ∧
      s.floor.ctx.bidding = none := by
  unfold claimCandidate at h
  split at h
  next hctx =>
    split at h
    next q hq =>
      obtain rfl : q = e := by
        split at h
        exacts [Option.some.inj h, absurd h (by simp)]
      obtain ⟨hmem, hready, -, hplay⟩ := Agenda.answer_candidate hq
      exact ⟨hmem, hready, hplay, by simp [hctx, FloorCtx.bidding]⟩
    all_goals exact absurd h (by simp)
  all_goals exact absurd h (by simp)

/-- The claimed entry bids, with the floor unit's bid under its ticket (04 R74). -/
theorem claimFor_laws {s : State} {e : Entry} (hmem : e ∈ s.agenda.entries)
    (hready : e.state = .ready) (hplay : s.agenda.isPlaying = false)
    (hbid : s.floor.ctx.bidding = none) : (s.claimFor e).KeepsLaws s := by
  have hctx : (s.claimFor e).floor.ctx = .pending (s.bidFor e) := by simp [claimFor]
  exact .of_start hmem (by simp) (s.claimFor_bare e) (by simp)
    (fun ht q hq hb => absurd hb (by simp [not_busy_of_free ht hbid hplay q hq])) (fun _ => rfl)
    (fun _ _ => ⟨s.bidFor e, by simp [hctx, FloorCtx.bidding], rfl⟩)
    (by simp [Entry.asBidder]) (asBidder_credit (e := e.bare) hready)

theorem settleCompleted_laws (s : State) : s.settleCompleted.KeepsLaws s := by
  unfold settleCompleted
  split
  next e he =>
    obtain ⟨hmem, hready, hplay, hbid⟩ := claimCandidate_mem he
    exact claimFor_laws hmem hready hplay hbid
  · exact .refl s

theorem windowExpired_laws (s : State) : s.windowExpired.KeepsLaws s := by
  unfold windowExpired
  split
  next hctx =>
    split
    · exact .of_eq (by simp) (by simp [hctx, FloorCtx.bidding]) (by simp)
    · exact (followUp_laws _).trans s.deferBid_laws
  all_goals exact .refl s

theorem renewalExpired_laws (s : State) : s.renewalExpired.KeepsLaws s := by
  unfold renewalExpired
  split
  next hctx =>
    split
    · exact .of_eq (by simp) (by simp [hctx, FloorCtx.bidding]) (by simp)
    · exact .refl s
  all_goals exact .refl s

theorem claimAged_laws (s : State) (station : Nat) : (s.claimAged station).KeepsLaws s := by
  unfold claimAged
  split
  · exact (followUp_laws _).trans ((viewChanged_laws _).trans (.of_ctx rfl rfl rfl))
  · exact .refl s

theorem holdAged_laws (s : State) (station : Nat) : (s.holdAged station).KeepsLaws s := by
  unfold holdAged
  split
  · exact (followUp_laws _).trans ((viewChanged_laws _).trans (.of_ctx rfl rfl rfl))
  · exact .refl s

/-! ### The agenda's timers and the flash -/

theorem secondTicked_laws (s : State) : s.secondTicked.KeepsLaws s := by
  unfold secondTicked
  split
  · exact (followUp_laws _).trans ((testEligible_laws _).trans
      (.of_map (Agenda.lawful_congr (by simp)) s.secondCounted_bare Entry.second_noTurn (.inl rfl)
        (.inl rfl)))
  · exact .refl s

theorem cadenceExpired_laws (s : State) (ticket : Nat) :
    (s.cadenceExpired ticket).KeepsLaws s := by
  unfold cadenceExpired
  split
  · split
    · exact (followUp_laws _).trans ((testEligible_laws _).trans
        (.of_modify (ids_modify _ _ _ fun _ => by simp [Entry.id])
          (s.modify_bare ticket Entry.cadenceStep_bare) Entry.cadenceStep_noTurn rfl rfl))
    · exact .refl s
  · exact .refl s

theorem expiryTaken_laws (s : State) (ticket : Nat) : (s.expiryTaken ticket).KeepsLaws s := by
  unfold expiryTaken
  split
  next e he =>
    split
    · exact (followUp_laws _).trans
        (retireEntry_laws_of_mem _ (List.mem_of_find?_eq_some he))
    · exact .refl s
  · exact .refl s

theorem sessionReset_laws (s : State) : s.sessionReset.KeepsLaws s :=
  .of_bare (by simp) (by simp) (by simp)

theorem directoryJudged_laws (s : State) : s.directoryJudged.KeepsLaws s := by
  unfold directoryJudged
  split
  · refine (followUp_laws _).trans (.of_bare ?_ ?_ (.inl ?_)) <;> (repeat' split) <;> simp
  · exact .refl s

theorem tailExpired_laws (s : State) : s.tailExpired.KeepsLaws s := by
  unfold tailExpired
  split
  · exact .refl s
  split
  · exact (endReported_laws _ _).trans (.of_ctx rfl rfl rfl)
  · exact .refl s

theorem fadeExpired_laws (s : State) : s.fadeExpired.KeepsLaws s := by
  unfold fadeExpired
  split
  · exact .refl s
  split
  · exact (endReported_laws _ _).trans (.of_ctx rfl rfl rfl)
  · exact .refl s

/-! ### The panel -/

theorem repeatPressed_laws (s : State) : s.repeatPressed.KeepsLaws s := by
  unfold repeatPressed
  split
  · exact (testEligible_laws _).trans
      (.of_modify (ids_modify _ _ _ fun _ => by simp [Entry.id])
        (s.modify_bare _ Entry.replayPressed_bare) Entry.replayPressed_noTurn rfl rfl)
  · exact .refl s

theorem interruptPlaying_laws (s : State) : s.interruptPlaying.KeepsLaws s := by
  unfold interruptPlaying
  split
  exacts [s.stopEntry_laws _ _ _, .refl s]

theorem cause_laws (s : State) : s.cause.KeepsLaws s := .of_bare (by simp) (by simp) (by simp)

theorem languagePressed_laws (s : State) : s.languagePressed.KeepsLaws s := by
  simp only [languagePressed]
  split
  · exact .refl s
  · exact (cause_laws _).trans ((interruptPlaying_laws _).trans (.of_ctx rfl rfl rfl))

theorem acknowledged_mem {s : State} {e : Entry} (h : s.acknowledged = some e) :
    e ∈ s.agenda.entries := by
  unfold acknowledged at h
  split at h
  next q hq => exact Option.some.inj h ▸ List.mem_of_find?_eq_some hq
  · split at h
    · obtain ⟨hfind, -⟩ := Option.filter_eq_some_iff.mp h
      exact List.mem_of_find?_eq_some hfind
    all_goals exact absurd h (by simp)

theorem acknowledgePressed_laws (s : State) : s.acknowledgePressed.KeepsLaws s := by
  unfold acknowledgePressed
  split
  next e he => exact retireEntry_laws_of_mem _ (acknowledged_mem he)
  · exact .refl s

theorem keyEffect_laws (s : State) (role : Role) : (s.keyEffect role).KeepsLaws s := by
  cases role with
  | repeatKey => exact s.repeatPressed_laws
  | language => exact s.languagePressed_laws
  | acknowledge => exact s.acknowledgePressed_laws
  | keyOther | unused | door | presence => exact .refl s

theorem pressed_laws (s : State) (line : Nat) : (s.pressed line).KeepsLaws s :=
  (followUp_laws _).trans ((keyEffect_laws _ _).trans
    (.trans (.of_eq (by simp) (by simp) (by simp)) s.returnActive_laws))

theorem keysJudged_laws (s : State) : s.keysJudged.KeepsLaws s := by
  unfold keysJudged
  split
  · split
    · exact .of_ctx rfl rfl rfl
    · split
      · exact (pressed_laws _ _).trans (.of_ctx rfl rfl rfl)
      · exact .refl s
  · exact .refl s

theorem reportWake_laws (s : State) (source : WakeSource) : (s.reportWake source).KeepsLaws s :=
  .of_eq (by simp) (by simp) (by simp)

theorem doorEdge_laws (s : State) (line : Nat) (door : Door) :
    (s.doorEdge line door).KeepsLaws s := by
  have hreturn : (((s.returnActive.setPanel { s.returnActive.panel with door := door }).offer
      (.door line door)).idleRestarted).KeepsLaws s :=
    .trans (.of_eq (by simp) (by simp) (by simp)) s.returnActive_laws
  unfold doorEdge
  dsimp only
  refine (followUp_laws _).trans ((reportWake_laws _ _).trans ((retireAll_laws _ ?_).trans hreturn))
  simp only [idleRestarted_keeps]
  exact fun e he => (List.mem_filter.mp he).1

theorem doorJudged_laws (s : State) : s.doorJudged.KeepsLaws s := by
  unfold doorJudged
  split
  · exact .refl s
  split
  exacts [.refl s, s.doorEdge_laws _ _]

theorem arrived_laws (s : State) (line : Nat) : (s.arrived line).KeepsLaws s :=
  (followUp_laws _).trans ((reportWake_laws _ _).trans ((testEligible_laws _).trans
    (.trans (.of_eq (by simp) (by simp) (by simp)) s.returnActive_laws)))

theorem presenceJudged_laws (s : State) (line : Nat) (was : Bool) :
    (s.presenceJudged line was).KeepsLaws s := by
  unfold presenceJudged
  split
  · unfold presenceLeavesRest
    split
    exacts [s.arrived_laws line, .of_ctx rfl rfl rfl]
  · unfold presenceReturnsToRest
    split
    exacts [.refl s, .of_ctx rfl rfl rfl]
  · exact .refl s
  · exact .refl s

theorem panelSampled_laws (s : State) (levels : BitVec 8) : (s.panelSampled levels).KeepsLaws s := by
  have hjudged : ((s.filtersStepped levels).keysJudged.doorJudged).KeepsLaws s :=
    (doorJudged_laws _).trans ((keysJudged_laws _).trans (.of_ctx rfl rfl rfl))
  unfold panelSampled panelJudged
  dsimp only
  split
  exacts [hjudged, (presenceJudged_laws _ _ _).trans hjudged]

theorem presenceHoldExpired_laws (s : State) : s.presenceHoldExpired.KeepsLaws s := by
  unfold presenceHoldExpired
  split
  · exact (followUp_laws _).trans ((closeGate_laws _).trans (.of_eq (by simp) (by simp) (by simp)))
  · exact .refl s

end State

end Sys2Proof.Machine

/-! ## Host requests, rest and wake keep the agenda's laws; O58 -/

namespace Sys2Proof.Machine

namespace State

theorem respond_laws (s : State) (result : ResultCode) (body : List Byte) :
    (s.respond result body).KeepsLaws s := .of_ctx rfl rfl rfl

theorem ticketUsed_laws (s : State) (ticket : Nat) : (s.ticketUsed ticket).KeepsLaws s :=
  .of_bare rfl rfl (.inl rfl)

/-! ### POST (01 R11 to R16) -/

/-- A POST is admitted in ACTIVE, with room and under a new topic. -/
theorem admitPost_laws {t s : State} {p : Post} (h : t.KeepsLaws s)
    (hactive : t.rest.part = .active)
    (hnew : s.agenda.lawful → t.agenda.ids.length < 16 ∧ p.topic ∉ t.agenda.ids.map (·.2.1.topic)) :
    (t.admitPost p).KeepsLaws s := by
  refine (respond_laws _ _ _).trans ((followUp_laws _).trans ((ticketUsed_laws _ _).trans
    (admission_laws p _ h (fun hl => ?_) fun _ => hactive)))
  obtain ⟨hroom, htopic⟩ := hnew hl
  have hlaw := t.agenda.lawful_iff_ids.mp (h.lawful hl)
  rw [Agenda.lawful_iff_ids, admission_ids]
  exact hlaw.append hroom (Agenda.issue_notMem (t.agenda.length_ids ▸ hlaw.size)) htopic

/-- The ids once the entry with a ticket has another successor. -/
theorem ids_modify_staged (a : Agenda) (ticket : Nat) (q : Option Successor) :
    (a.modify ticket (Entry.staged q)).ids =
      a.ids.map fun i => if i.1 = ticket then (i.1, i.2.1, q) else i := by
  simp only [Agenda.ids, Agenda.modify, List.map_map]
  refine List.map_congr_left fun e _ => ?_
  by_cases h : e.ticket = ticket <;> simp [Entry.id, Entry.staged, h]

theorem staged_noTurn (e : Entry) (q : Option Successor) : (e.staged q).NoTurn e :=
  .of_eq rfl rfl rfl rfl rfl rfl

theorem staged_laws {s : State} {ticket : Nat} {q : Option Successor}
    (hlaw : s.agenda.lawful → (s.agenda.modify ticket (Entry.staged q)).lawful) :
    (s.setAgenda (s.agenda.modify ticket (Entry.staged q))).KeepsLaws s :=
  .of_map hlaw (s.modify_bare ticket (f := Entry.staged q) fun _ => rfl)
    (fun e => (staged_noTurn e q).ite _) (.inl rfl) (.inl rfl)

/-- A staged successor is given up (01 R14, R22). -/
theorem unstaged_laws (s : State) (ticket : Nat) :
    (s.setAgenda (s.agenda.modify ticket (Entry.staged none))).KeepsLaws s :=
  staged_laws fun hl => by
    rw [Agenda.lawful_iff_ids] at hl ⊢
    rw [ids_modify_staged]
    exact hl.unstage ticket

theorem retireSuccessor_laws (s : State) (q : Option Successor) (outcome : Retirement) :
    (s.retireSuccessor q outcome).KeepsLaws s := .of_eq (by simp) (by simp) (by simp)

/-- A successor joins an entry under a fresh ticket and the entry's topic (01 R14). -/
theorem restaged_laws {s : State} {ticket : Nat} {p : Post}
    (htopic : s.agenda.lawful → ∀ i ∈ s.agenda.ids, i.1 = ticket → i.2.1.topic = p.topic) :
    (s.setAgenda (s.agenda.modify ticket
      (Entry.staged (some { post := p, ticket := s.agenda.issue })))).KeepsLaws s :=
  staged_laws fun hlaw => by
    have hl := hlaw
    rw [Agenda.lawful_iff_ids] at hl ⊢
    rw [ids_modify_staged]
    exact hl.stage (Agenda.issue_notMem (s.agenda.length_ids ▸ hl.size))
      fun i hi hticket => (htopic hlaw i hi hticket).symm

/-- The entry of a ticket is the only one under it. -/
theorem post_of_lawful {a : Agenda} (hl : a.lawful) {e : Entry} (he : e ∈ a.entries) :
    ∀ i ∈ a.ids, i.1 = e.ticket → i.2.1 = e.post := by
  intro i hi hticket
  have hlaw := a.lawful_iff_ids.mp hl
  have heq : i = e.id := hlaw.eq_of_fst_eq hi (List.mem_map_of_mem he) hticket
  rw [heq]
  rfl

theorem mem_modify_self {a : Agenda} {e : Entry} (he : e ∈ a.entries) (f : Entry → Entry) :
    f e ∈ (a.modify e.ticket f).entries :=
  List.mem_map.mpr ⟨e, he, if_pos rfl⟩

theorem stagePost_laws {s : State} {e : Entry} {p : Post} (he : e ∈ s.agenda.entries)
    (htopic : e.post.topic = p.topic) : (s.stagePost e p).KeepsLaws s := by
  unfold stagePost
  dsimp only
  refine (respond_laws _ _ _).trans ((ticketUsed_laws _ _).trans ((stopEntry_laws _ _ _ _).trans
    (.trans (restaged_laws fun hl i hi hticket => ?_)
      ((unstaged_laws _ _).trans (s.retireSuccessor_laws e.successor .replaced)))))
  have hmem := mem_modify_self (a := (s.retireSuccessor e.successor .replaced).agenda) (e := e)
    (by simpa using he) (Entry.staged none)
  rw [post_of_lawful hl hmem i hi hticket]
  exact htopic

/-- A found topic is that of its entry. -/
theorem findTopic_mem {a : Agenda} {topic : Nat} {e : Entry} (h : a.findTopic topic = some e) :
    e ∈ a.entries ∧ e.post.topic = topic :=
  ⟨List.mem_of_find?_eq_some h, by simpa using List.find?_some h⟩

theorem findTopic_none {a : Agenda} {topic : Nat} (h : a.findTopic topic = none) :
    topic ∉ a.ids.map (·.2.1.topic) := by
  intro hmem
  obtain ⟨i, hi, htopic⟩ := List.mem_map.mp hmem
  obtain ⟨e, he, rfl⟩ := List.mem_map.mp hi
  exact List.find?_eq_none.mp h e he (by simpa [Entry.id] using htopic)

theorem displaced_mem {s : State} {e : Entry} (h : s.displaced = some e) :
    e ∈ s.agenda.entries ∧ (e.state = .waiting ∨ e.state = .ready) := by
  simpa using lowestEntry_mem h

theorem posted_laws {s : State} (p : Post) (hactive : s.rest.part = .active) :
    (s.posted p).KeepsLaws s := by
  unfold posted
  split
  next e he =>
    obtain ⟨hmem, htopic⟩ := findTopic_mem he
    split
    · exact stagePost_laws hmem htopic
    next hstate =>
      refine admitPost_laws (retireEntry_laws_of_mem _ hmem) (by simp [hactive]) fun hl => ?_
      have hlaw := s.agenda.lawful_iff_ids.mp hl
      have hid : e.id ∈ s.agenda.ids := List.mem_map_of_mem hmem
      rw [retireEntry_ids, if_neg hstate, ← htopic]
      exact ⟨hlaw.length_filter_lt hid, hlaw.topic_notMem_filter hid⟩
  next hnone =>
    have htopic := findTopic_none hnone
    split
    next hroom =>
      exact admitPost_laws (.refl s) hactive fun _ => ⟨by simpa [Agenda.ids] using hroom, htopic⟩
    · unfold displacePost
      split
      next e he =>
        have hmem := (displaced_mem he).1
        split
        · refine admitPost_laws (dropEntry_laws _ _ _) (by simp [hactive]) fun hl => ?_
          have hlaw := s.agenda.lawful_iff_ids.mp hl
          rw [dropEntry_ids]
          exact ⟨hlaw.length_filter_lt (List.mem_map_of_mem hmem),
            fun h => htopic ((List.filter_sublist.map _).subset h)⟩
        · exact s.respond_laws _ _
      · exact s.respond_laws _ _

/-- Requests are executed in UNSET, ACTIVE and STANDBY; the return from STANDBY comes first (11 R184). -/
theorem returned_active {s : State} (hexec : s.executes = true) (hunset : s.rest.part ≠ .unset) :
    s.returnActive.rest.part = .active := by
  rw [returnActive_part]
  cases h : s.rest.part <;> simp_all [executes, PartState.returned]

theorem postEffect_laws {s : State} {body : List Byte} (h : s.runs .post body) :
    (s.postEffect body).KeepsLaws s := by
  obtain ⟨hexec, hrow⟩ := runs_part h
  have hunset : s.rest.part ≠ .unset := by simpa using hrow
  unfold postEffect
  split
  · exact (posted_laws _ (returned_active hexec hunset)).trans s.returnActive_laws
  · exact (respond_laws _ _ _).trans s.returnActive_laws

/-! ### The other requests -/

theorem withdrawEffect_laws (s : State) (body : List Byte) : (s.withdrawEffect body).KeepsLaws s := by
  simp only [withdrawEffect]
  split
  · exact s.respond_laws _ _
  split
  next e he =>
    refine (respond_laws _ _ _).trans ((followUp_laws _).trans (.trans (retireEntry_laws_of_mem _ ?_)
      ((unstaged_laws _ e.ticket).trans (s.retireSuccessor_laws e.successor .withdrawn))))
    exact mem_modify_self (by simpa using (findTopic_mem he).1) (Entry.staged none)
  · exact s.respond_laws _ _

theorem enterStandby_laws {s : State} (h : s.agenda.entries = []) : s.enterStandby.KeepsLaws s :=
  .of_empty (by simpa using h)

theorem enterSettling_entries (s : State) : s.enterSettling.agenda.entries = [] := by
  have hids : s.enterSettling.agenda.ids = [] := by
    simp [enterSettling, retireRested_ids]
  simpa [Agenda.ids] using hids

@[simp] theorem hearMaskTaken_ctx (s : State) : s.hearMaskTaken.floor.ctx = s.floor.ctx := rfl

theorem setUp_laws (s : State) (cfg : Settings) (kind : MachineKind) :
    (s.setUp cfg kind).KeepsLaws s :=
  (respond_laws _ _ _).trans ((followUp_laws _).trans (.of_bare (by simp) (by simp) (by simp)))

theorem requestEffect_laws {s : State} {row : RequestRow} {body : List Byte}
    (h : s.runs row body) : (requestEffect row s body).KeepsLaws s := by
  cases row with
  | setup =>
    simp only [requestEffect, setupEffect]
    split
    exacts [setUp_laws _ _ _, s.respond_laws _ _]
  | post => exact postEffect_laws h
  | withdraw => exact s.withdrawEffect_laws body
  | restStandby =>
    simp only [requestEffect, restStandbyEffect]
    split
    · split
      next hempty =>
        exact (respond_laws _ _ _).trans (enterStandby_laws (by simpa using hempty))
      · exact s.respond_laws _ _
    · exact s.respond_laws _ _
  | restDormant => exact (respond_laws _ _ _).trans (.of_empty s.enterSettling_entries)
  | restActive => exact (respond_laws _ _ _).trans ((followUp_laws _).trans s.returnActive_laws)
  | machine | basepage | events | status | roster | sessionEnd =>
    exact .of_bare (by simp [requestEffect]) (by simp [requestEffect])
      (.inl (by simp [requestEffect]))

theorem runRequest_laws (s : State) (row : RequestRow) :
    (s.runRequest row (requestEffect row)).KeepsLaws s :=
  runRequest_keeps (P := (·.KeepsLaws s)) row _ (.refl s) (fun _ => s.respond_laws _ _)
    fun _ => requestEffect_laws

theorem executeHeld_laws (s : State) : s.executeHeld.KeepsLaws s :=
  executeHeld_keeps (P := (·.KeepsLaws s)) (.refl s) (fun _ => s.respond_laws _ _)
    fun _ _ => requestEffect_laws

/-! ### Rest and wake (11) -/

/-- Outside ACTIVE the agenda is empty, so that the floor context and the part state may change. -/
theorem KeepsLaws.of_resting {t s : State} (hagenda : t.agenda = s.agenda)
    (hpart : s.rest.part ≠ .active) : t.KeepsLaws s where
  lawful h := hagenda ▸ h
  turn hl ht := (KeepsLaws.of_empty (s := s) (by rw [hagenda, ht.2.2.2 hpart])).turn hl ht
  credit _ h := hagenda ▸ h

theorem wakingEnded_laws (s : State) (levels : BitVec 8) : (s.wakingEnded levels).KeepsLaws s := by
  unfold wakingEnded
  split
  · exact (executeHeld_laws _).trans ((followUp_laws _).trans
      (.of_bare (by simp) (by simp) (by simp)))
  · exact .refl s

theorem wakeTaken_laws (s : State) (event : WakeEvent) : (s.wakeTaken event).KeepsLaws s := by
  by_cases hdormant : s.rest.part = .dormant
  · exact .of_resting (by simp) (by simp [hdormant])
  · have hsame : s.wakeTaken event = s := if_neg hdormant
    rw [hsame]
    exact .refl s

theorem idled_laws (s : State) : s.idled.KeepsLaws s := by
  have hpart : s.idled.rest.part = s.rest.part := by simp
  have hbid : s.idled.floor.ctx.bidding = s.floor.ctx.bidding := by
    rw [idled_floor]
    split
    · cases h : s.floor.ctx <;> simp [Floor.msTick, FloorCtx.msTick, FloorCtx.bidding, h]
    · rfl
  obtain h | h := s.idled_entries
  · exact .of_eq h hbid hpart
  · exact .of_map (f := Entry.tenthTick) (Agenda.lawful_congr (by simp))
      (by rw [h]; exact s.tenthCounted_bare) Entry.tenthTick_noTurn (.inl hbid) (.inl hpart)

end State

/-- Each command keeps the agenda's laws. -/
theorem exec_laws {c : Instr} {s t : State} (h : exec c s = .next t) : t.KeepsLaws s := by
  cases c with
  | setup | post | withdraw | machine | basepage | events | status | roster | restStandby
  | restDormant | restActive | sessionEnd =>
    obtain rfl := Host.Outcome.next.inj h
    exact s.runRequest_laws _
  | coldReset => obtain rfl := Host.Outcome.next.inj h; exact .of_empty rfl
  | directoryBad => obtain rfl := Host.Outcome.next.inj h; exact s.directoryJudged_laws
  | lineStuck => obtain rfl := Host.Outcome.next.inj h; exact s.lineHeld_laws
  | transmitFailure => obtain rfl := Host.Outcome.next.inj h; exact s.transmitFailed_laws
  | frameTransmitted => obtain rfl := Host.Outcome.next.inj h; exact s.frameSent_laws
  | frameReceived => obtain rfl := Host.Outcome.next.inj h; exact s.frameHeard_laws _
  | settleTick => obtain rfl := Host.Outcome.next.inj h; exact s.settleTicked_laws
  | settleComplete => obtain rfl := Host.Outcome.next.inj h; exact s.settleCompleted_laws
  | windowExpiry => obtain rfl := Host.Outcome.next.inj h; exact s.windowExpired_laws
  | renewalExpiry => obtain rfl := Host.Outcome.next.inj h; exact s.renewalExpired_laws
  | claimAgeExpiry => obtain rfl := Host.Outcome.next.inj h; exact s.claimAged_laws _
  | holdTimerExpiry => obtain rfl := Host.Outcome.next.inj h; exact s.holdAged_laws _
  | tick1s => obtain rfl := Host.Outcome.next.inj h; exact s.secondTicked_laws
  | cadenceExpiry => obtain rfl := Host.Outcome.next.inj h; exact s.cadenceExpired_laws _
  | expired => obtain rfl := Host.Outcome.next.inj h; exact s.expiryTaken_laws _
  | tailExpiry => obtain rfl := Host.Outcome.next.inj h; exact s.tailExpired_laws
  | fadeExpiry => obtain rfl := Host.Outcome.next.inj h; exact s.fadeExpired_laws
  | panelSample => obtain rfl := Host.Outcome.next.inj h; exact s.panelSampled_laws _
  | presenceHoldExpiry => obtain rfl := Host.Outcome.next.inj h; exact s.presenceHoldExpired_laws
  | wake => obtain rfl := Host.Outcome.next.inj h; exact s.wakeTaken_laws _
  | wakingEnd => obtain rfl := Host.Outcome.next.inj h; exact s.wakingEnded_laws _
  | idleTimerExpiry =>
    obtain rfl := Host.Outcome.next.inj h
    unfold State.idleExpired
    split
    next hidle =>
      have hempty : s.agenda.entries = [] := by
        have := hidle.2.1
        simp_all [State.idleHolds]
      exact State.enterStandby_laws hempty
    · exact .refl s
  | settlingLimit =>
    obtain rfl := Host.Outcome.next.inj h
    unfold State.settlingRanOut
    split
    next hset => exact .of_resting (by simp) (by simp [hset.1])
    · exact .refl s
  | dormantEntry =>
    obtain rfl := Host.Outcome.next.inj h
    unfold State.dormantTaken
    split
    next hset => exact .of_resting (by simp) (by simp [hset.1])
    · exact .refl s
  | _ =>
    obtain rfl := Host.Outcome.next.inj h
    exact .of_bare (by simp) (by simp) (.inl (by simp))

/-- Settles O58: each command, and each millisecond, keeps the laws; the proof follows the operations a command is
made of, each of which gives at most one entry a turn, and then with no other busy. -/
theorem stepsKeepTheAgendaLawful : Obligations.StepsKeepTheAgendaLawful := by
  intro s t hstep hlaw
  have hkeeps : t.KeepsLaws s := by
    obtain rfl | ⟨c, rest, hexec⟩ := step_eq_next hstep
    · exact s.idled_laws
    · exact (exec_laws hexec).trans (.of_ctx rfl rfl rfl)
  exact ⟨hkeeps.lawful hlaw, hkeeps.turn hlaw, hkeeps.credit hlaw⟩

end Sys2Proof.Machine

/-! ## A play on the FLOOR route stays inside the hold (06 R116); O59 -/

namespace Sys2Proof.Machine

/-- The renderer plays on the FLOOR route and is not fading. -/
def Renderer.speaks (r : Renderer) : Bool :=
  r.play.any (fun p => p.route == .floor) && !decide (r.phase = .fade)

@[simp] theorem Renderer.speaks_mk (phase : Phase) (timer : Nat) (p : Play) (enable : Bool)
    (drop : Option Nat) (report : Option EndReport) :
    Renderer.speaks ⟨phase, timer, some p, enable, drop, report⟩ =
      (p.route == .floor && !decide (phase = .fade)) := rfl

theorem Renderer.speaks_of_play {r : Renderer} {p : Play} (h : r.play = some p) :
    r.speaks = (p.route == .floor && !decide (r.phase = .fade)) := by
  simp [Renderer.speaks, h]

namespace State

theorem speechLawful_iff (s : State) :
    s.speechLawful ↔ (s.renderer.speaks = true → s.floor.ctx.isHolding = true) := by
  unfold speechLawful Renderer.speaks
  cases s.renderer.play <;> simp

/-- A step that speaks no more and holds no less keeps the law of speech. -/
theorem speech_of {t s : State} (hspeaks : t.renderer.speaks = true → s.renderer.speaks = true)
    (hholds : s.floor.ctx.isHolding = true → t.floor.ctx.isHolding = true)
    (hs : s.speechLawful) : t.speechLawful := by
  rw [speechLawful_iff] at hs ⊢
  exact fun ht => hholds (hs (hspeaks ht))

theorem speech_congr {t s : State} (hspeaks : t.renderer.speaks = s.renderer.speaks)
    (hctx : t.floor.ctx = s.floor.ctx) (hs : s.speechLawful) : t.speechLawful :=
  speech_of (by rw [hspeaks]; exact fun h => h) (by rw [hctx]; exact fun h => h) hs

theorem speech_of_silent {t : State} (h : t.renderer.speaks = false) : t.speechLawful := by
  simp [speechLawful_iff, h]

theorem speech_of_holding {t : State} (h : t.floor.ctx.isHolding = true) : t.speechLawful := by
  simp [speechLawful_iff, h]

/-! ### What the renderer's operations do to speech -/

theorem enterTail_speaks {s : State} (h : s.renderer.phase ≠ .fade) :
    s.enterTail.renderer.speaks = s.renderer.speaks := by
  simp [enterTail, Renderer.speaks, h]

theorem lookupDone_speaks {s : State} {p q : Play} (hplay : s.renderer.play = some q)
    (hroute : p.route = q.route) (found : Option (Nat × List Span)) :
    (s.lookupDone p found).renderer.speaks = s.renderer.speaks := by
  unfold lookupDone
  split
  · simp [Renderer.speaks_of_play hplay, hroute]
  · dsimp only
    split
    next hgap =>
      rw [enterTail_speaks (by simp [hgap])]
      simp [Renderer.speaks_of_play hplay, hroute]
    · simp [Renderer.speaks_of_play hplay, hroute]

@[simp] theorem advanceLookup_speaks (s : State) :
    s.advanceLookup.renderer.speaks = s.renderer.speaks := by
  unfold advanceLookup
  split
  · rfl
  next p hplay =>
    split
    · rfl
    · rfl
    · split
      · simp
      · rw [lookupDone_speaks (q := p) (by simpa using hplay) rfl]
        simp

@[simp] theorem startLookup_speaks (s : State) (p : Play) (index : Nat) :
    (s.startLookup p index).renderer.speaks =
      (p.route == .floor && !decide (s.renderer.phase = .fade)) := by
  simp [startLookup]

@[simp] theorem startPlay_speaks (s : State) (e : Entry) (route : Route) :
    (s.startPlay e route).renderer.speaks = (route == .floor) := by
  obtain ⟨hphase, -, -, p, hplay, -, hroute⟩ := s.startPlay_renderer e route
  simp [Renderer.speaks, hphase, hplay, hroute]

@[simp] theorem cutPlay_speaks (s : State) : s.cutPlay.renderer.speaks = s.renderer.speaks := by
  unfold cutPlay
  split
  · rfl
  next p hplay =>
    dsimp only
    split
    next hphase =>
      rw [enterTail_speaks (by simp [hphase])]
      simp [Renderer.speaks_of_play hplay]
    next hphase =>
      rw [enterTail_speaks (by simp [hphase])]
      simp [Renderer.speaks_of_play hplay]
    all_goals simp [Renderer.speaks_of_play hplay]

@[simp] theorem fadePlay_speaks (s : State) : s.fadePlay.renderer.speaks = false := by
  unfold fadePlay
  split
  next hplay => simp [Renderer.speaks, hplay]
  · split
    next hphase => simp [Renderer.speaks, hphase]
    · simp [Renderer.speaks]

/-- The play of an item goes on by the route it has. -/
theorem beginItem_speaks {s : State} {p q : Play} (hplay : s.renderer.play = some q)
    (hroute : p.route = q.route) (hphase : s.renderer.phase ≠ .fade) (index : Nat) :
    (s.beginItem p index).renderer.speaks = s.renderer.speaks := by
  unfold beginItem
  dsimp only
  split
  · exact enterTail_speaks hphase
  all_goals simp [Renderer.speaks_of_play hplay, hroute, hphase]

theorem enterGap_speaks {s : State} {p q : Play} (hplay : s.renderer.play = some q)
    (hroute : p.route = q.route) (hphase : s.renderer.phase ≠ .fade) :
    (s.enterGap p).renderer.speaks = s.renderer.speaks := by
  simp [enterGap, Renderer.speaks_of_play hplay, hroute, hphase]

theorem endItem_speaks {s : State} {p : Play} (hplay : s.renderer.play = some p)
    (hphase : s.renderer.phase ≠ .fade) (kind : ItemKind) :
    (s.endItem p kind).renderer.speaks = s.renderer.speaks := by
  have hsame : (s.setRenderer { s.renderer with
      play := some { p with lastPlayed := some kind } }).renderer.speaks = s.renderer.speaks := by
    simp [Renderer.speaks_of_play hplay]
  unfold endItem
  dsimp only
  split
  · rw [enterTail_speaks (by simpa using hphase), hsame]
  · split
    · rw [beginItem_speaks rfl rfl (by simpa using hphase), hsame]
    · rw [enterTail_speaks (by simpa using hphase), hsame]
    · exact hsame
    · rw [enterGap_speaks rfl rfl (by simpa using hphase), hsame]
    · rw [enterGap_speaks rfl rfl (by simpa using hphase), hsame]

/-- The play context in a phase is that of the renderer in the phase. -/
theorem playIn_eq_some {s : State} {phase : Phase} {p : Play} (h : s.playIn phase = some p) :
    s.renderer.phase = phase ∧ s.renderer.play = some p := by
  unfold playIn at h
  split at h
  exacts [⟨‹_›, h⟩, absurd h (by simp)]

@[simp] theorem leadExpired_speaks (s : State) :
    s.leadExpired.renderer.speaks = s.renderer.speaks := by
  unfold leadExpired
  split
  · rfl
  next p hp =>
    obtain ⟨hphase, hplay⟩ := playIn_eq_some hp
    split
    · split
      exacts [beginItem_speaks hplay rfl (by simp [hphase]) _, enterTail_speaks (by simp [hphase]),
        rfl]
    · rfl

@[simp] theorem gapExpired_speaks (s : State) :
    s.gapExpired.renderer.speaks = s.renderer.speaks := by
  unfold gapExpired
  split
  · rfl
  next p hp =>
    obtain ⟨hphase, hplay⟩ := playIn_eq_some hp
    split
    · split
      exacts [beginItem_speaks hplay rfl (by simp [hphase]) _, enterTail_speaks (by simp [hphase]),
        rfl]
    · rfl

@[simp] theorem itemEnded_speaks (s : State) (kind : ItemKind) :
    (s.itemEnded kind).renderer.speaks = s.renderer.speaks := by
  unfold itemEnded
  split
  · rfl
  next p hp =>
    obtain ⟨hphase, hplay⟩ := playIn_eq_some hp
    split
    · exact endItem_speaks (s := s.setLevel { s.level with tone := none }) hplay
        (by simp [hphase]) kind
    · rfl

@[simp] theorem speechItemEnded_speaks (s : State) :
    s.speechItemEnded.renderer.speaks = s.renderer.speaks := s.itemEnded_speaks _

@[simp] theorem patternEnded_speaks (s : State) :
    s.patternEnded.renderer.speaks = s.renderer.speaks := s.itemEnded_speaks _

@[simp] theorem pauseExpired_speaks (s : State) :
    s.pauseExpired.renderer.speaks = s.renderer.speaks := s.itemEnded_speaks _

@[simp] theorem sampleTaken_speaks (s : State) (adc : BitVec 8) :
    (s.sampleTaken adc).renderer.speaks = s.renderer.speaks := by
  have hroute (u : State) (p : Play) : (u.playStepped p).route = p.route := by
    unfold playStepped
    split <;> rfl
  unfold sampleTaken
  split
  · cases hplay : s.renderer.play <;> simp [rendererStepped, Renderer.speaks, hplay, hroute]
  · rfl

@[simp] theorem readDone_speaks (s : State) : s.readDone.renderer.speaks = s.renderer.speaks := by
  unfold readDone
  split
  · rfl
  · dsimp only
    split
    · unfold deliver
      split
      · rfl
      · unfold lookupData
        split
        · rfl
        next p hplay =>
          split
          · simp [Renderer.speaks_of_play (r := s.renderer) hplay]
          · rfl
          · rfl
      · unfold fillData
        split
        · rfl
        next p hplay => simp [Renderer.speaks_of_play (r := s.renderer) hplay]
      · rfl
      · simp
    · rfl

@[simp] theorem enableDropped_speaks (s : State) :
    s.enableDropped.renderer.speaks = s.renderer.speaks := by
  unfold enableDropped
  split <;> rfl

@[simp] theorem rendererIdle_speaks (s : State) (enable : Bool) (drop : Option Nat) :
    (s.rendererIdle enable drop).renderer.speaks = false := rfl

/-! ### What the floor unit's and the agenda's operations do to speech -/

theorem stopEntry_speaks (s : State) (ticket : Nat) (r : EndRequest) (how : StopKind)
    (h : (s.stopEntry ticket r how).renderer.speaks = true) : s.renderer.speaks = true := by
  cases how with
  | cut => simpa [stopEntry] using h
  | fade => simp [stopEntry] at h

theorem stopEntry_speech {s : State} (ticket : Nat) (r : EndRequest) (how : StopKind)
    (h : s.speechLawful) : (s.stopEntry ticket r how).speechLawful :=
  speech_of (s.stopEntry_speaks ticket r how) (by simp) h

theorem deferBid_speech {s : State} (hctx : s.floor.ctx.isHolding = false) (h : s.speechLawful) :
    s.deferBid.speechLawful :=
  speech_of (by simp) (by simp [hctx]) h

theorem leaveBid_speech {s : State} (hctx : s.floor.ctx.isHolding = false) (h : s.speechLawful) :
    s.leaveBid.speechLawful :=
  speech_of (by simp) (by simp [hctx]) h

theorem viewChanged_speech {s : State} (h : s.speechLawful) : s.viewChanged.speechLawful := by
  unfold viewChanged
  split
  next hctx =>
    split
    · exact h
    · exact deferBid_speech (by simp [hctx, FloorCtx.isHolding]) (speech_congr (by simp) (by simp) h)
  next hctx =>
    split
    · split
      · exact h
      · exact speech_of (by simp) (by simp [hctx, FloorCtx.isHolding]) h
    · exact h
    · exact h
  all_goals exact h

theorem isHolding_of_floorFree {s : State} (h : s.floorFree = true) :
    s.floor.ctx.isHolding = false := by
  unfold floorFree at h
  unfold FloorCtx.isHolding
  split at h <;> simp_all

theorem selectOwner_speech {s : State} (h : s.speechLawful) : s.selectOwner.speechLawful :=
  speech_congr (by simp) (by simp) h

theorem idleTest_speech {s : State} (h : s.speechLawful) : s.idleTest.speechLawful :=
  speech_congr (by simp) (by simp) h

/-- A local play is not on the FLOOR route (01 R7). -/
theorem localStart_speech {s : State} (h : s.speechLawful) : s.localStart.speechLawful := by
  unfold localStart
  split
  · split
    · refine speech_of_silent ?_
      rw [startPlay_speaks]
      split <;> rfl
    · exact h
  · exact h

/-- A play that the floor test starts is in the ISOLATED hold (04 R88). -/
theorem floorTest_speech {s : State} (h : s.speechLawful) : s.floorTest.speechLawful := by
  unfold floorTest
  split
  · split
    · split
      · exact speech_of_holding (by simp [isolatedStart, FloorCtx.isHolding])
      split
      next hidle => exact speech_of (by simp) (by simp [hidle, FloorCtx.isHolding]) h
      · exact h
    · exact h
    · exact h
  · exact h

theorem followUp_speech {s : State} (h : s.speechLawful) : s.followUp.speechLawful :=
  idleTest_speech (floorTest_speech (localStart_speech (selectOwner_speech h)))

theorem lostCandidate_speech {s : State} (h : s.speechLawful) : s.lostCandidate.speechLawful := by
  unfold lostCandidate
  split
  next hctx =>
    exact leaveBid_speech (by simp [hctx, FloorCtx.isHolding]) (speech_congr (by simp) (by simp) h)
  next hctx => exact leaveBid_speech (by simp [hctx, FloorCtx.isHolding]) h
  next hctx =>
    exact leaveBid_speech (by simp [hctx, FloorCtx.isHolding]) (speech_congr (by simp) (by simp) h)
  all_goals exact h

theorem retireEntry_speech {s : State} (e : Entry) (outcome : Retirement) (h : s.speechLawful) :
    (s.retireEntry e outcome).speechLawful := by
  unfold retireEntry
  split
  · exact speech_congr (by simp) (by simp) h
  · exact speech_congr (by simp) (by simp) h
  · exact speech_congr (by simp) (by simp) (lostCandidate_speech h)
  · exact stopEntry_speech _ _ _ h

theorem retireAll_speech {s : State} (outcome : Retirement) (es : List Entry)
    (h : s.speechLawful) : (s.retireAll outcome es).speechLawful := by
  induction es generalizing s with
  | nil => exact h
  | cons e es ih => exact ih (retireEntry_speech e outcome h)

/-- The floor and agenda units take the end of a play that is over (06 R120). -/
theorem playEnded_speech {s : State} (report : EndReport) (h : s.renderer.speaks = false) :
    (s.playEnded report).speechLawful := by
  unfold playEnded
  split <;> exact followUp_speech (speech_of_silent (by simpa using h))

theorem isolateReport_speech {s : State} (h : s.speechLawful) : s.isolateReport.speechLawful := by
  unfold isolateReport
  split
  · exact h
  dsimp only
  split
  next hctx => exact speech_congr (by simp) (by simp) h
  next hctx => exact speech_of (by simp) (by simp [hctx, FloorCtx.isHolding]) h
  next hctx =>
    exact deferBid_speech (by simp [hctx, FloorCtx.isHolding]) (speech_congr (by simp) (by simp) h)
  next hctx =>
    exact deferBid_speech (by simp [hctx, FloorCtx.isHolding]) (speech_congr (by simp) (by simp) h)
  next hctx =>
    exact deferBid_speech (by simp [hctx, FloorCtx.isHolding]) (speech_congr (by simp) (by simp) h)
  next hctx => exact speech_congr (by simp) (by simp) h

theorem lineGood_speech {s : State} (h : s.speechLawful) : s.lineGood.speechLawful := by
  refine speech_of (by simp) (fun hold => ?_) h
  rw [lineGood_floor]
  dsimp only
  split
  next hctx => simp [hctx, FloorCtx.isHolding] at hold
  · exact hold

theorem holderHearsClaim_speech {s : State} (bid : Bid) (hold : Hold) (key : Nat)
    (h : s.speechLawful) : (s.holderHearsClaim bid hold key).speechLawful := by
  unfold holderHearsClaim
  split
  · split
    · exact speech_of_holding (by simp [markYield, FloorCtx.isHolding])
    · exact h
    · exact h
  · exact speech_congr (by simp) (by simp) h

theorem holderHearsTalk_speech {s : State} (bid : Bid) (hold : Hold) (station key : Nat)
    (h : s.speechLawful) : (s.holderHearsTalk bid hold station key).speechLawful := by
  have hyield : (s.yieldAtOnce bid hold).speechLawful :=
    speech_of_holding (by simp [yieldAtOnce, markYield, FloorCtx.isHolding])
  unfold holderHearsTalk
  split
  · split
    exacts [hyield, hyield, h]
  · exact speech_congr (by simp) (by simp) h

theorem hearClaim_speech {s : State} (station key : Nat) (mask : BitVec 4) (h : s.speechLawful) :
    (s.hearClaim station key mask).speechLawful := by
  have hrecord : (s.recordClaim station key mask).speechLawful := speech_congr rfl rfl h
  unfold hearClaim
  split
  · dsimp only
    split
    next hctx =>
      split
      · exact deferBid_speech (by simp [recordClaim, hctx, FloorCtx.isHolding])
          (speech_congr (by simp) (by simp) hrecord)
      · exact hrecord
    · exact holderHearsClaim_speech _ _ _ hrecord
    · exact hrecord
    · exact viewChanged_speech hrecord
    · exact viewChanged_speech hrecord
    · exact hrecord
  · exact viewChanged_speech (speech_congr rfl rfl h)

theorem hearTalk_speech {s : State} (station key : Nat) (mask : BitVec 4) (length : Nat)
    (h : s.speechLawful) : (s.hearTalk station key mask length).speechLawful := by
  have hrecord : (s.recordHolder station key mask length).speechLawful := speech_congr rfl rfl h
  unfold hearTalk
  split
  · dsimp only
    split
    next hctx =>
      exact deferBid_speech (by simp [recordHolder, hctx, FloorCtx.isHolding])
        (speech_congr (by simp) (by simp) hrecord)
    · exact holderHearsTalk_speech _ _ _ _ hrecord
    · exact hrecord
    · exact viewChanged_speech hrecord
    · exact viewChanged_speech hrecord
    · exact hrecord
  · exact viewChanged_speech (speech_congr rfl rfl h)

theorem handOn_speech {s : State} (heard : Heard) (h : s.speechLawful) :
    (s.handOn heard).speechLawful := by
  unfold handOn
  split
  · exact hearClaim_speech _ _ _ h
  · exact hearTalk_speech _ _ _ _ h
  · exact viewChanged_speech (speech_congr rfl rfl h)
  · exact speech_congr rfl rfl h

theorem frameHeard_speech {s : State} (chars : List Byte) (h : s.speechLawful) :
    (s.frameHeard chars).speechLawful := by
  have hhunt : (s.toHunt 0).speechLawful := speech_congr rfl rfl h
  have htake : (match takeFrame chars with
      | some heard => (s.toHunt 0).takeHeard heard (s.isOwnFrame chars)
      | none => s.toHunt 0).speechLawful := by
    split
    · unfold takeHeard
      split
      · exact hhunt
      split
      · exact speech_congr (by simp) (by simp) hhunt
      · exact followUp_speech (handOn_speech _ (lineGood_speech hhunt))
    · exact hhunt
  unfold frameHeard
  split
  · split
    exacts [hhunt, htake, htake]
  · exact h

theorem floorSent_speech {s : State} (kind : FrameKind) (h : s.speechLawful) :
    (s.floorSent kind).speechLawful := by
  unfold floorSent
  split
  next hctx => exact speech_of (by simp) (by simp [hctx, FloorCtx.isHolding]) h
  · exact speech_of_holding (by simp [FloorCtx.isHolding])
  · exact speech_of_holding (by simp [FloorCtx.isHolding])
  · exact h

theorem frameSent_speech {s : State} (h : s.speechLawful) : s.frameSent.speechLawful := by
  unfold frameSent
  split
  · exact h
  · dsimp only
    split
    · exact speech_congr (by simp) (by simp) h
    · exact followUp_speech (lineGood_speech (floorSent_speech _
        (speech_congr (by simp) (by simp) h)))

theorem floorAbandoned_speech {s : State} (kind : FrameKind) (h : s.speechLawful) :
    (s.floorAbandoned kind).speechLawful := by
  unfold floorAbandoned
  split
  next hctx => exact deferBid_speech (by simp [hctx, FloorCtx.isHolding]) h
  next hctx => exact deferBid_speech (by simp [hctx, FloorCtx.isHolding]) h
  · exact h

theorem countAbandon_speech {s : State} (h : s.speechLawful) : s.countAbandon.speechLawful := by
  unfold countAbandon
  split
  · dsimp only
    split
    · exact isolateReport_speech (speech_congr rfl rfl h)
    · exact speech_congr rfl rfl h
  · exact h

theorem transmitFailed_speech {s : State} (h : s.speechLawful) :
    s.transmitFailed.speechLawful := by
  unfold transmitFailed
  split
  · exact h
  · dsimp only
    split
    · exact speech_congr rfl rfl h
    · split
      · exact followUp_speech (countAbandon_speech (floorAbandoned_speech _
          (speech_congr (by simp) (by simp) h)))
      · exact speech_congr (by simp) (by simp) h

theorem lineHeld_speech {s : State} (h : s.speechLawful) : s.lineHeld.speechLawful := by
  unfold lineHeld
  split
  · exact followUp_speech (isolateReport_speech (speech_congr (by simp) (by simp) h))
  · exact h

/-! ### Timers -/

theorem settleTicked_speech {s : State} (h : s.speechLawful) : s.settleTicked.speechLawful := by
  unfold settleTicked
  split
  next hctx => exact followUp_speech (speech_of (by simp) (by simp [hctx, FloorCtx.isHolding]) h)
  all_goals exact h

theorem settleCompleted_speech {s : State} (h : s.speechLawful) :
    s.settleCompleted.speechLawful := by
  unfold settleCompleted
  split
  next e he =>
    have hctx : s.floor.ctx.isHolding = false := by
      unfold claimCandidate at he
      split at he
      next hctx => simp [hctx, FloorCtx.isHolding]
      all_goals exact absurd he (by simp)
    exact speech_of (by simp) (by simp [hctx]) h
  · exact h

theorem windowExpired_speech {s : State} (h : s.speechLawful) : s.windowExpired.speechLawful := by
  unfold windowExpired
  split
  next hctx =>
    split
    · exact speech_of (by simp) (by simp [hctx, FloorCtx.isHolding]) h
    · exact followUp_speech (deferBid_speech (by simp [hctx, FloorCtx.isHolding]) h)
  all_goals exact h

theorem renewalExpired_speech {s : State} (h : s.speechLawful) :
    s.renewalExpired.speechLawful := by
  unfold renewalExpired
  split
  · split
    · exact speech_of_holding (by simp [FloorCtx.isHolding])
    · exact h
  all_goals exact h

theorem claimAged_speech {s : State} (station : Nat) (h : s.speechLawful) :
    (s.claimAged station).speechLawful := by
  unfold claimAged
  split
  · exact followUp_speech (viewChanged_speech (speech_congr rfl rfl h))
  · exact h

theorem holdAged_speech {s : State} (station : Nat) (h : s.speechLawful) :
    (s.holdAged station).speechLawful := by
  unfold holdAged
  split
  · exact followUp_speech (viewChanged_speech (speech_congr rfl rfl h))
  · exact h

theorem secondTicked_speech {s : State} (h : s.speechLawful) : s.secondTicked.speechLawful := by
  unfold secondTicked
  split
  · exact followUp_speech (speech_congr rfl rfl h)
  · exact h

theorem cadenceExpired_speech {s : State} (ticket : Nat) (h : s.speechLawful) :
    (s.cadenceExpired ticket).speechLawful := by
  unfold cadenceExpired
  split
  · split
    · exact followUp_speech (speech_congr rfl rfl h)
    · exact h
  · exact h

theorem expiryTaken_speech {s : State} (ticket : Nat) (h : s.speechLawful) :
    (s.expiryTaken ticket).speechLawful := by
  unfold expiryTaken
  split
  · split
    · exact followUp_speech (retireEntry_speech _ _ h)
    · exact h
  · exact h

theorem directoryJudged_speech {s : State} (h : s.speechLawful) :
    s.directoryJudged.speechLawful := by
  unfold directoryJudged
  split
  · refine followUp_speech (speech_congr ?_ ?_ h) <;> (repeat' split) <;> simp
  · exact h

theorem tailExpired_speech {s : State} (h : s.speechLawful) : s.tailExpired.speechLawful := by
  unfold tailExpired
  split
  · exact h
  split
  · exact playEnded_speech _ rfl
  · exact h

theorem fadeExpired_speech {s : State} (h : s.speechLawful) : s.fadeExpired.speechLawful := by
  unfold fadeExpired
  split
  · exact h
  split
  · exact playEnded_speech _ rfl
  · exact h

/-! ### The panel -/

theorem cause_speech {s : State} (h : s.speechLawful) : s.cause.speechLawful :=
  speech_congr (by simp) (by simp) h

theorem interruptPlaying_speech {s : State} (h : s.speechLawful) :
    s.interruptPlaying.speechLawful := by
  unfold interruptPlaying
  split
  exacts [stopEntry_speech _ _ _ h, h]

theorem reportWake_speech {s : State} (source : WakeSource) (h : s.speechLawful) :
    (s.reportWake source).speechLawful :=
  speech_congr (by simp) (by simp) h

theorem respond_speech {s : State} (result : ResultCode) (body : List Byte)
    (h : s.speechLawful) : (s.respond result body).speechLawful :=
  speech_congr rfl rfl h

theorem languagePressed_speech {s : State} (h : s.speechLawful) :
    s.languagePressed.speechLawful := by
  simp only [languagePressed]
  split
  · exact h
  · exact cause_speech (interruptPlaying_speech (speech_congr rfl rfl h))

theorem keyEffect_speech {s : State} (role : Role) (h : s.speechLawful) :
    (s.keyEffect role).speechLawful := by
  cases role with
  | repeatKey => exact speech_congr (by simp [keyEffect]) (by simp [keyEffect]) h
  | language => exact languagePressed_speech h
  | acknowledge =>
    simp only [keyEffect, acknowledgePressed]
    split
    · exact retireEntry_speech _ _ h
    · exact h
  | keyOther | unused | door | presence => exact h

theorem pressed_speech {s : State} (line : Nat) (h : s.speechLawful) :
    (s.pressed line).speechLawful :=
  followUp_speech (keyEffect_speech _ (speech_congr (by simp) (by simp) h))

theorem keysJudged_speech {s : State} (h : s.speechLawful) : s.keysJudged.speechLawful := by
  unfold keysJudged
  split
  · split
    · exact speech_congr rfl rfl h
    · split
      · exact pressed_speech _ (speech_congr rfl rfl h)
      · exact h
  · exact h

theorem doorJudged_speech {s : State} (h : s.speechLawful) : s.doorJudged.speechLawful := by
  unfold doorJudged
  split
  · exact h
  split
  · exact h
  · exact followUp_speech (reportWake_speech _ (retireAll_speech _ _
      (speech_congr (by simp) (by simp) h)))

theorem arrived_speech {s : State} (line : Nat) (h : s.speechLawful) :
    (s.arrived line).speechLawful :=
  followUp_speech (speech_congr (by simp) (by simp) h)

theorem presenceJudged_speech {s : State} (line : Nat) (was : Bool) (h : s.speechLawful) :
    (s.presenceJudged line was).speechLawful := by
  unfold presenceJudged
  split
  · unfold presenceLeavesRest
    split
    exacts [arrived_speech line h, speech_congr rfl rfl h]
  · unfold presenceReturnsToRest
    split
    exacts [h, speech_congr rfl rfl h]
  · exact h
  · exact h

theorem panelSampled_speech {s : State} (levels : BitVec 8) (h : s.speechLawful) :
    (s.panelSampled levels).speechLawful := by
  have hjudged : ((s.filtersStepped levels).keysJudged.doorJudged).speechLawful :=
    doorJudged_speech (keysJudged_speech (speech_congr rfl rfl h))
  unfold panelSampled panelJudged
  dsimp only
  split
  exacts [hjudged, presenceJudged_speech _ _ hjudged]

theorem presenceHoldExpired_speech {s : State} (h : s.speechLawful) :
    s.presenceHoldExpired.speechLawful := by
  unfold presenceHoldExpired
  split
  · exact followUp_speech (speech_congr (by simp) (by simp) h)
  · exact h

/-! ### Requests, rest and wake -/

theorem admitPost_speech {s : State} (p : Post) (h : s.speechLawful) :
    (s.admitPost p).speechLawful :=
  respond_speech _ _ (followUp_speech (speech_congr (by simp) (by simp) h))

theorem ticketUsed_speech {s : State} (ticket : Nat) (h : s.speechLawful) :
    (s.ticketUsed ticket).speechLawful :=
  speech_congr rfl rfl h

theorem posted_speech {s : State} (p : Post) (h : s.speechLawful) : (s.posted p).speechLawful := by
  unfold posted
  split
  · split
    · exact respond_speech _ _ (ticketUsed_speech _ (stopEntry_speech _ _ _
        (speech_congr (by simp) (by simp) h)))
    · exact admitPost_speech _ (retireEntry_speech _ _ h)
  · split
    · exact admitPost_speech _ h
    · unfold displacePost
      split
      · split
        · exact admitPost_speech _ (speech_congr (by simp) (by simp) h)
        · exact respond_speech _ _ h
      · exact respond_speech _ _ h

theorem withdrawEffect_speech {s : State} (body : List Byte) (h : s.speechLawful) :
    (s.withdrawEffect body).speechLawful := by
  simp only [withdrawEffect]
  split
  · exact respond_speech _ _ h
  split
  · exact respond_speech _ _ (followUp_speech (retireEntry_speech _ _
      (speech_congr (by simp) (by simp) h)))
  · exact respond_speech _ _ h

theorem floorEmptied_isHolding (s : State) :
    s.floorEmptied.floor.ctx.isHolding = s.floor.ctx.isHolding := by
  unfold floorEmptied
  split
  · rfl
  · rfl
  all_goals simp [FloorCtx.isHolding, *]

theorem enterStandby_speech {s : State} (h : s.speechLawful) : s.enterStandby.speechLawful :=
  speech_of (by simp [enterStandby, Renderer.speaks])
    (by simp [enterStandby, floorEmptied_isHolding]) h

theorem enterSettling_silent (s : State) : s.enterSettling.renderer.speaks = false := by
  simp [enterSettling]

theorem enterDormant_silent (s : State) : s.enterDormant.renderer.speaks = false := by
  simp [enterDormant]

theorem setUp_speech {s : State} (cfg : Settings) (kind : MachineKind) (h : s.speechLawful) :
    (s.setUp cfg kind).speechLawful :=
  respond_speech _ _ (followUp_speech (speech_congr (by simp) (by simp) h))

theorem requestEffect_speech {s : State} (row : RequestRow) (body : List Byte)
    (h : s.speechLawful) : (requestEffect row s body).speechLawful := by
  have hreturn : s.returnActive.speechLawful := speech_congr (by simp) (by simp) h
  cases row with
  | setup =>
    simp only [requestEffect, setupEffect]
    split
    exacts [setUp_speech _ _ h, respond_speech _ _ h]
  | post =>
    simp only [requestEffect, postEffect]
    split
    exacts [posted_speech _ hreturn, respond_speech _ _ hreturn]
  | withdraw => exact withdrawEffect_speech body h
  | restStandby =>
    simp only [requestEffect, restStandbyEffect]
    split
    · split
      exacts [respond_speech _ _ (enterStandby_speech h), respond_speech _ _ h]
    · exact respond_speech _ _ h
  | restDormant => exact respond_speech _ _ (speech_of_silent s.enterSettling_silent)
  | restActive => exact respond_speech _ _ (followUp_speech hreturn)
  | machine | basepage | events | status | roster | sessionEnd =>
    exact speech_congr (by simp [requestEffect]) (by simp [requestEffect]) h

theorem runRequest_speech {s : State} (row : RequestRow) (h : s.speechLawful) :
    (s.runRequest row (requestEffect row)).speechLawful :=
  runRequest_keeps (P := speechLawful) row _ h (fun _ => respond_speech _ _ h)
    fun _ _ => requestEffect_speech row _ h

theorem wakingEnded_speech {s : State} (levels : BitVec 8) (h : s.speechLawful) :
    (s.wakingEnded levels).speechLawful := by
  unfold wakingEnded
  split
  · have hawake : (((((s.setTimebase { s.timebase with wakeSettle := none }).panelWoken
        levels).enterActive).sendBeacon).followUp).speechLawful :=
      followUp_speech (speech_congr (by simp) (by simp) h)
    exact executeHeld_keeps (P := speechLawful) hawake (fun _ => respond_speech _ _ hawake)
      fun row body _ => requestEffect_speech row body hawake
  · exact h

theorem idled_speech {s : State} (h : s.speechLawful) : s.idled.speechLawful := by
  refine speech_of (by simp) (fun hold => ?_) h
  rw [idled_floor]
  split
  · cases hctx : s.floor.ctx <;> simp_all [Floor.msTick, FloorCtx.msTick, FloorCtx.isHolding]
  · exact hold

end State

/-- Each command keeps the law of speech. -/
theorem exec_speech {c : Instr} {s t : State} (h : exec c s = .next t) (hs : s.speechLawful) :
    t.speechLawful := by
  cases c with
  | setup | post | withdraw | machine | basepage | events | status | roster | restStandby
  | restDormant | restActive | sessionEnd =>
    obtain rfl := Host.Outcome.next.inj h
    exact State.runRequest_speech _ hs
  | coldReset => obtain rfl := Host.Outcome.next.inj h; exact State.speech_of_silent rfl
  | directoryBad => obtain rfl := Host.Outcome.next.inj h; exact State.directoryJudged_speech hs
  | lineStuck => obtain rfl := Host.Outcome.next.inj h; exact State.lineHeld_speech hs
  | transmitFailure => obtain rfl := Host.Outcome.next.inj h; exact State.transmitFailed_speech hs
  | frameTransmitted => obtain rfl := Host.Outcome.next.inj h; exact State.frameSent_speech hs
  | frameReceived => obtain rfl := Host.Outcome.next.inj h; exact State.frameHeard_speech _ hs
  | settleTick => obtain rfl := Host.Outcome.next.inj h; exact State.settleTicked_speech hs
  | settleComplete => obtain rfl := Host.Outcome.next.inj h; exact State.settleCompleted_speech hs
  | windowExpiry => obtain rfl := Host.Outcome.next.inj h; exact State.windowExpired_speech hs
  | renewalExpiry => obtain rfl := Host.Outcome.next.inj h; exact State.renewalExpired_speech hs
  | claimAgeExpiry => obtain rfl := Host.Outcome.next.inj h; exact State.claimAged_speech _ hs
  | holdTimerExpiry => obtain rfl := Host.Outcome.next.inj h; exact State.holdAged_speech _ hs
  | tick1s => obtain rfl := Host.Outcome.next.inj h; exact State.secondTicked_speech hs
  | cadenceExpiry => obtain rfl := Host.Outcome.next.inj h; exact State.cadenceExpired_speech _ hs
  | expired => obtain rfl := Host.Outcome.next.inj h; exact State.expiryTaken_speech _ hs
  | tailExpiry => obtain rfl := Host.Outcome.next.inj h; exact State.tailExpired_speech hs
  | fadeExpiry => obtain rfl := Host.Outcome.next.inj h; exact State.fadeExpired_speech hs
  | panelSample => obtain rfl := Host.Outcome.next.inj h; exact State.panelSampled_speech _ hs
  | presenceHoldExpiry =>
    obtain rfl := Host.Outcome.next.inj h
    exact State.presenceHoldExpired_speech hs
  | wakingEnd => obtain rfl := Host.Outcome.next.inj h; exact State.wakingEnded_speech _ hs
  | idleTimerExpiry =>
    obtain rfl := Host.Outcome.next.inj h
    unfold State.idleExpired
    split
    exacts [State.enterStandby_speech hs, hs]
  | settlingLimit =>
    obtain rfl := Host.Outcome.next.inj h
    unfold State.settlingRanOut
    split
    exacts [State.speech_of_silent (State.enterDormant_silent _), hs]
  | dormantEntry =>
    obtain rfl := Host.Outcome.next.inj h
    unfold State.dormantTaken
    split
    exacts [State.speech_of_silent (State.enterDormant_silent _), hs]
  | _ =>
    obtain rfl := Host.Outcome.next.inj h
    exact State.speech_congr (by simp) (by simp) hs

/-- Settles O59: speech starts only in a hold, and a hold ends only after the renderer is idle or fading. -/
theorem stepsKeepSpeechInTheHold : Obligations.StepsKeepSpeechInTheHold := by
  intro s t hstep hs
  obtain rfl | ⟨c, rest, hexec⟩ := step_eq_next hstep
  · exact State.idled_speech hs
  · exact exec_speech hexec hs

end Sys2Proof.Machine

/-! ## The room line: frames started, lost, failed and discarded (03); O10, O11, O16, O17 -/

namespace Sys2Proof.Machine

namespace State

/-! ### The start of a frame (03 R53) -/

theorem mayTransmit_iff {s : State} : s.mayTransmit = true ↔
    s.rest.part = .active ∨ s.rest.part = .standby ∨ s.rest.part = .settling := by
  cases h : s.rest.part <;> simp [mayTransmit, h]

theorem clocked_of_mayTransmit {s : State} (h : s.mayTransmit = true) : s.clocked = true := by
  cases hp : s.rest.part <;> simp_all [mayTransmit, clocked]

theorem chooseSlot_eq_none {s : State} (h : s.line.doneSlot.frame = none ∧
    s.line.talkSlot.frame = none ∧ s.line.beaconSlot.frame = none) : s.chooseSlot = none := by
  obtain ⟨hdone, htalk, hbeacon⟩ := h
  simp [chooseSlot, hdone, htalk, hbeacon]

/-- The local order (03 R53): DONE, then TALK/CLAIM, then BEACON. -/
theorem chooseSlot_eq_some {s : State} {name : SlotName}
    (hdone : name = .done → s.line.doneSlot.frame.isSome = true)
    (htalk : name = .talk → s.line.doneSlot.frame = none ∧ s.line.talkSlot.frame.isSome = true)
    (hbeacon : name = .beacon → s.line.doneSlot.frame = none ∧ s.line.talkSlot.frame = none ∧
      s.line.beaconSlot.frame.isSome = true) : s.chooseSlot = some name := by
  unfold chooseSlot
  cases name with
  | done => simp [hdone rfl]
  | talk =>
    obtain ⟨hd, ht⟩ := htalk rfl
    simp [hd, ht]
  | beacon =>
    obtain ⟨hd, ht, hb⟩ := hbeacon rfl
    simp [hd, ht, hb]

/-- The receiver at a count, in one line (03 R46). -/
theorem atCount_eq (r : Receiver) (idle : Nat) :
    r.atCount idle = if 11 ≤ idle then .idle else r := by
  cases r <;> simp [Receiver.atCount, Config.idleGap]

theorem atEdge_eq (r : Receiver) : r.atEdge = if r = .hunt then .hunt else .frame := by
  cases r <;> simp [Receiver.atEdge]

/-- The line that a boundary shows (log 16). -/
def lineShown (s : State) (idle : Nat) : Line :=
  { s.line with
    receiver := if 11 ≤ idle then .idle else s.line.receiver,
    idleCount := idle,
    chars := if s.line.receiver = .frame ∧ 11 ≤ idle then [] else s.line.chars,
    stuckTimer := if idle = 0 then s.line.stuckTimer else none,
    stuckLatch := if idle = 0 then s.line.stuckLatch else false }

theorem countShown_eq {s : State} {idle : Nat} (h : idle ≤ 63) :
    s.countShown idle = s.setLine (s.lineShown idle) := by
  have hcount : min 63 idle = idle := by omega
  by_cases hzero : idle = 0
  · simp [countShown, lineShown, atCount_eq, hzero, Config.idleGap]
  · simp [countShown, lineShown, atCount_eq, hzero, Config.idleGap, Config.idleCountMax, hcount,
      Nat.pos_of_ne_zero hzero]

end State

/-- Settles O10: `startsNow` by its conditions, and the levels of the characters sent. -/
theorem frameStartsInLocalOrder : Obligations.FrameStartsInLocalOrder := by
  intro s idle edge hidle
  refine ⟨fun hpart => ?_, fun name hpart hreceiver hoff hdone htalk hbeacon hgap => ?_,
    s.transmitOut_silent, fun hclock hno => ?_⟩
  · have hoff : s.receiving = false := by
      obtain h | h := hpart <;> simp [State.receiving, State.clocked, h]
    simp [State.frameStarted, hoff]
  · have hmay := State.mayTransmit_iff.mpr hpart
    have hstarts : s.startsNow idle = some name := by
      rw [State.startsNow, if_pos ⟨hmay, hreceiver, hoff, hgap⟩,
        State.chooseSlot_eq_some hdone htalk hbeacon]
    refine ⟨by simp [State.frameStarted, State.receiving, State.clocked_of_mayTransmit hmay,
      hstarts], fun f hf => ?_⟩
    have hown : (s.setLine { s.line with
        onLine := some name, backoff := false, receiver := .frame, idleCount := 0, chars := [],
        stuckTimer := some 0, stuckLatch := false }).ownFrame = some f := by
      cases name <;> exact hf
    refine ⟨fun i c bit hc hbit => ?_, fun n hn => State.transmitOut_after _ f n hown hn⟩
    rw [State.transmitOut_char _ f i bit c hown hc hbit, charLevels_at c bit hbit]
  · have hstarts : s.startsNow idle = none := by
      unfold State.startsNow
      split
      next hall =>
        obtain ⟨hmay, hreceiver, hoff, hgap⟩ := hall
        obtain h | h | h | h | h := hno
        · simp [State.mayTransmit, h] at hmay
        · exact absurd hreceiver h
        · exact absurd hoff h
        · exact State.chooseSlot_eq_none h
        · exact absurd hgap (Nat.not_le.mpr h)
      · rfl
    have hpassed : s.frameStarted idle edge = s.boundaryPassed idle edge := by
      simp [State.frameStarted, State.receiving, hclock, hstarts]
    rw [exec_frameStart, hpassed]
    refine ⟨fun hedge => ?_, fun hedge => ?_⟩
    · subst hedge
      exact congrArg _ (State.countShown_eq hidle)
    · subst hedge
      rw [State.boundaryPassed, if_pos rfl, State.countShown_eq hidle, State.edgeSeen,
        State.atEdge_eq]
      rfl

/-! ### Loss and failure of an own frame (03 R54, R56) -/

/-- The precedence of a frame is the number of its first two characters. -/
theorem LineFrame.precedence_eq_chars (f : LineFrame) (station : Nat) :
    f.precedence station = numberOf ((f.chars station).take 2) := by
  cases f <;> rfl

namespace State

/-- A slot after an attempt that ended without transmission holds a frame and no next frame (03 R52). -/
theorem slotRetry_eq {slot : Slot} {f : LineFrame} (h : slot.frame = some f) :
    slotRetry slot = { frame := some (slot.next.getD f), next := none, failures := slot.failures } := by
  obtain ⟨frame, next, failures⟩ := slot
  cases next <;> simp_all [slotRetry]

/-- The slots are read of the line's three slots alone. -/
theorem slotAt_of_slots {s t : State} (hdone : t.line.doneSlot = s.line.doneSlot)
    (htalk : t.line.talkSlot = s.line.talkSlot) (hbeacon : t.line.beaconSlot = s.line.beaconSlot)
    (name : SlotName) : t.slotAt name = s.slotAt name := by
  cases name
  exacts [hdone, htalk, hbeacon]

/-- The slots after one was replaced and other parts of the line changed. -/
theorem slotAt_of_setSlot {s t : State} {name : SlotName} {slot : Slot}
    (hdone : t.line.doneSlot = (s.setSlot name slot).line.doneSlot)
    (htalk : t.line.talkSlot = (s.setSlot name slot).line.talkSlot)
    (hbeacon : t.line.beaconSlot = (s.setSlot name slot).line.beaconSlot) (other : SlotName) :
    t.slotAt other = if other = name then slot else s.slotAt other :=
  (slotAt_of_slots hdone htalk hbeacon other).trans (slotAt_setSlot s name other slot)

/-- A failure below the limit (03 R56): the frame leaves the line and is tried again after the back-off. -/
theorem transmitFailed_of_few {s : State} {name : SlotName} {f : LineFrame}
    (hline : s.line.onLine = some name) (hframe : (s.slotAt name).frame = some f)
    (hfew : (s.slotAt name).failures < 7) :
    s.transmitFailed = (s.breakFrame.setLine { s.breakFrame.line with backoff := true }).setSlot name
      { frame := some ((s.slotAt name).next.getD f), next := none,
        failures := (s.slotAt name).failures + 1 } := by
  have hlimit : ¬ Config.failureLimit ≤ (s.slotAt name).failures + 1 := by
    simp only [Config.failureLimit]
    omega
  have hretry := slotRetry_eq (f := f) 
    (slot := ⟨some f, (s.slotAt name).next, (s.slotAt name).failures + 1⟩) rfl
  simp only [transmitFailed, hline, hframe, if_neg hlimit, hretry]

end State

/-- Settles O11: the slot keeps a frame by `slotRetry`, after a loss and below the failure limit. -/
theorem lossAndFailureKeepTheFrame : Obligations.LossAndFailureKeepTheFrame := by
  refine ⟨fun s name f first second hline hframe hlow => ?_,
    fun s name f hline hframe hfew => ?_⟩
  · have hlost : numberOf [first, second] < f.precedence s.timebase.station := by
      rw [LineFrame.precedence_eq_chars]
      simpa [numberOf] using hlow
    have hslots (other : SlotName) : (s.lossTaken first second).slotAt other =
        if other = name then { frame := some ((s.slotAt name).next.getD f), next := none,
                               failures := (s.slotAt name).failures }
        else s.slotAt other := by
      simp only [State.lossTaken, hline, hframe, if_pos hlost, State.slotRetry_eq hframe]
      exact State.slotAt_of_setSlot rfl rfl rfl other
    refine ⟨_, exec_loss s first second, by simp [State.changedIn_iff], ?_⟩
    simp only [hslots, if_true, true_and]
    simp only [State.lossTaken, hline, hframe, if_pos hlost]
    exact ⟨rfl, rfl, rfl, by simp, fun other hother => if_neg hother⟩
  · have hslots (other : SlotName) : s.transmitFailed.slotAt other =
        if other = name then { frame := some ((s.slotAt name).next.getD f), next := none,
                               failures := (s.slotAt name).failures + 1 }
        else s.slotAt other := by
      rw [State.transmitFailed_of_few hline hframe hfew, State.slotAt_setSlot]
      exact congrArg (fun slot => if other = name then _ else slot)
        (State.slotAt_of_slots rfl rfl rfl other)
    refine ⟨_, exec_transmitFailure s, ?_⟩
    simp only [hslots, if_true, true_and]
    rw [State.transmitFailed_of_few hline hframe hfew]
    exact ⟨by simp [State.changedIn_iff], by simp [State.breakFrame], by simp, by simp [State.breakFrame],
      by simp [State.breakFrame], fun other hother => if_neg hother⟩

/-! ### Frames discarded (03 R46, R49, R51) -/

/-- Settles O16: under the own number and with nothing sent, the frame is a duplicate. -/
theorem duplicateIsReportedOnce : Obligations.DuplicateIsReportedOnce := by
  intro s chars h hclock hhunt htake hown hoff
  have hforeign : s.isOwnFrame chars = false := by simp [State.isOwnFrame, State.ownFrame, hoff]
  have hheard : s.frameHeard chars = (s.toHunt 0).duplicateTaken := by
    have hstation : h.station = (s.toHunt 0).timebase.station := hown
    cases hreceiver : s.line.receiver with
    | hunt => exact absurd hreceiver hhunt
    | idle | frame =>
      simp [State.frameHeard, State.receiving, hclock, hreceiver, htake, State.takeHeard, hforeign,
        hstation]
  refine ⟨_, exec_frameReceived s chars, ?_⟩
  rw [hheard]
  cases htimer : s.roster.duplicateTimer with
  | none =>
    refine ⟨by simp [State.toHunt], by simp [State.changedIn_iff], by simp, fun _ => ?_, by simp⟩
    have htaken : (s.toHunt 0).roster.duplicateTimer = none := htimer
    rw [State.duplicateTaken, if_pos htaken]
    exact ⟨rfl, State.offer_events_congr _ rfl⟩
  | some n =>
    have hsame : (s.toHunt 0).duplicateTaken = s.toHunt 0 := if_neg (by simp [State.toHunt, htimer])
    rw [hsame]
    exact ⟨rfl, by simp [State.changedIn_iff], rfl, by simp, fun _ => ⟨rfl, rfl⟩⟩

/-- Settles O17: each ending of a fault, and the count of 11 shown at an idle gap. -/
theorem receiverHuntsAfterAFault : Obligations.ReceiverHuntsAfterAFault := by
  intro s chars hclock hlength
  refine ⟨fun hhunt ending hcharacter => ⟨_, exec_receiveFault s chars ending, ?_⟩,
    _, exec_idleGap s, ?_⟩
  · have hfault : s.faultReceived chars ending = match ending with
        | .character => s.toHunt 0
        | .framing => s.setLine { s.line with
            receiver := .hunt, idleCount := 0, chars := [],
            stuckTimer := some (s.line.stuckTimer.getD 0) }
        | .gap => s.toHunt 11 := by
      cases ending with
      | character => simp [State.faultReceived, State.receiving, hclock, hhunt, hcharacter rfl]
      | framing | gap => simp [State.faultReceived, State.receiving, hclock, hhunt, Config.idleGap]
    rw [hfault]
    cases ending <;>
      exact ⟨by simp [State.changedIn_iff], rfl, rfl, rfl, rfl, State.slotAt_of_slots rfl rfl rfl⟩
  · have hgap : s.gapReached = s.countShown (max s.line.idleCount 11) := by
      simp [State.gapReached, State.receiving, hclock, Config.idleGap]
    have hle : 11 ≤ max s.line.idleCount 11 := Nat.le_max_right _ _
    rw [hgap]
    refine ⟨by simp [State.changedIn_iff], ?_, ?_, ?_, ?_, fun hframe => ?_,
      State.slotAt_of_slots rfl rfl rfl⟩
    · simp [State.countShown, State.atCount_eq, hle]
    · simp [State.countShown, Config.idleCountMax]
    · exact if_pos (by omega)
    · exact if_pos (by omega)
    · exact if_pos ⟨hframe, hle⟩

end Sys2Proof.Machine

/-! ## The tests after an event (01 R7, 04 R72, R88), and the floor unit's timers (04); O19, O20, O22, O23 -/

namespace Sys2Proof.Machine

/-! ### The agenda's choices see the bare entries -/

theorem topEntry_map_bare (es : List Entry) :
    topEntry (es.map Entry.bare) = (topEntry es).map Entry.bare := by
  induction es with
  | nil => rfl
  | cons e es ih =>
    simp only [List.map_cons, topEntry, ih]
    cases topEntry es with
    | none => rfl
    | some best =>
      simp only [Option.map_some, Entry.bare_key]
      by_cases h : e.key < best.key <;> simp [h]

theorem filter_map_bare (es : List Entry) {p : Entry → Bool} (hp : ∀ e, p e.bare = p e) :
    (es.map Entry.bare).filter p = (es.filter p).map Entry.bare := by
  rw [List.filter_map]
  exact congrArg _ (List.filter_congr fun e _ => hp e)

namespace Agenda

variable {a b : Agenda}

theorem topEntry_filter_of_bare_eq (h : b.bare = a.bare) {p : Entry → Bool}
    (hp : ∀ e, p e.bare = p e) :
    (topEntry (b.entries.filter p)).map Entry.bare = (topEntry (a.entries.filter p)).map Entry.bare := by
  rw [← topEntry_map_bare, ← topEntry_map_bare, ← filter_map_bare _ hp, ← filter_map_bare _ hp]
  exact congrArg (fun es => topEntry (es.filter p)) h

theorem isPlaying_of_bare_eq (h : b.bare = a.bare) : b.isPlaying = a.isPlaying := by
  rw [isPlaying_eq_bare, isPlaying_eq_bare, h]

/-- An agenda with the same bare entries names the same candidate. -/
theorem answer_of_bare_eq (h : b.bare = a.bare) {store : Store} {e : Entry}
    (he : a.answer store = .candidate e) :
    ∃ q, b.answer store = .candidate q ∧ q.bare = e.bare := by
  have htop := topEntry_filter_of_bare_eq h (p := fun e => e.state == .ready && e.byFloor store)
    fun _ => rfl
  unfold answer at he ⊢
  simp only [floorEntries] at he ⊢
  cases ha : topEntry (a.entries.filter fun e => e.state == .ready && e.byFloor store) with
  | none => simp [ha] at he
  | some r =>
    obtain ⟨hplay, rfl⟩ : a.isPlaying = false ∧ r = e := by
      cases hplay : a.isPlaying <;> simp_all
    rw [ha] at htop
    obtain ⟨q, hq, hbare⟩ := Option.map_eq_some_iff.mp htop
    exact ⟨q, by simp [hq, isPlaying_of_bare_eq h, hplay], hbare⟩

theorem localCandidate_of_bare_eq (h : b.bare = a.bare) (store : Store) :
    (b.localCandidate store).map Entry.bare = (a.localCandidate store).map Entry.bare := by
  have htop := topEntry_filter_of_bare_eq h
    (p := fun e => e.state == .ready && (e.byFloor store || e.byLocal store)) fun _ => rfl
  unfold localCandidate
  cases ha : topEntry (a.entries.filter fun e =>
      e.state == .ready && (e.byFloor store || e.byLocal store)) with
  | none =>
    rw [ha] at htop
    rw [Option.map_eq_none_iff.mp htop]
  | some r =>
    rw [ha] at htop
    obtain ⟨q, hq, hbare⟩ := Option.map_eq_some_iff.mp htop
    have hlocal : q.byLocal store = r.byLocal store := by
      rw [← Entry.bare_byLocal, hbare, Entry.bare_byLocal]
    rw [hq]
    simp only [hlocal]
    split
    exacts [congrArg some hbare, rfl]

theorem topEntry_eq_none {es : List Entry} : topEntry es = none ↔ es = [] := by
  cases es with
  | nil => simp [topEntry]
  | cons e es =>
    simp only [topEntry, List.cons_ne_nil, iff_false]
    split
    · simp
    · split <;> simp

/-- There is no candidate when no entry that plays through the floor is READY (01 R6). -/
theorem answer_noCandidate_iff {store : Store} : a.answer store = .noCandidate ↔
    ∀ e ∈ a.bare, ¬ (e.state = .ready ∧ e.byFloor store = true) := by
  have hnil : topEntry (a.floorEntries store) = none ↔
      ∀ e ∈ a.bare, ¬ (e.state = .ready ∧ e.byFloor store = true) := by
    rw [topEntry_eq_none]
    simp [floorEntries, bare]
  rw [← hnil, answer]
  split
  next h => simp [h]
  next h =>
    rw [h]
    split <;> simp

end Agenda

namespace State

/-! ### What the tests leave -/

/-- A local play starts, or nothing does. -/
theorem localStart_cases (s : State) : s.localStart = s ∨ ∃ e route,
    e ∈ s.agenda.entries ∧ e.state = .ready ∧ s.agenda.isPlaying = false ∧ s.floorFree = true ∧
      s.agenda.localCandidate s.flash.store = some e ∧ s.rest.part = .active ∧
      s.localStart = s.startPlay e route := by
  unfold localStart
  split
  next h =>
    obtain ⟨hactive, hplay, hfree⟩ := h
    split
    next e he =>
      obtain ⟨hmem, hready, -⟩ := Agenda.localCandidate_mem he
      exact .inr ⟨e, _, hmem, hready, hplay, hfree, he, hactive, rfl⟩
    · exact .inl rfl
  · exact .inl rfl

/-- A play starts for entries that were not so before only in state PLAYING. -/
theorem startPlay_states {s : State} {e : Entry} {route : Route} {q : Entry}
    (hq : q ∈ (s.startPlay e route).agenda.bare) : q.state = .playing ∨ q ∈ s.agenda.bare := by
  rw [startPlay_bare] at hq
  obtain ⟨r, hr, rfl⟩ := List.mem_map.mp hq
  split
  exacts [.inl rfl, .inr hr]

theorem isolatedStart_states {s : State} {e : Entry} {q : Entry}
    (hq : q ∈ (s.isolatedStart e).agenda.bare) : q.state = .playing ∨ q ∈ s.agenda.bare := by
  rw [isolatedStart_bare] at hq
  obtain ⟨r, hr, rfl⟩ := List.mem_map.mp hq
  split
  exacts [.inl rfl, .inr hr]

theorem localStart_states {s : State} {q : Entry} (hq : q ∈ s.localStart.agenda.bare) :
    q.state = .playing ∨ q ∈ s.agenda.bare := by
  obtain h | ⟨e, route, -, -, -, -, -, -, h⟩ := s.localStart_cases <;> rw [h] at hq
  exacts [.inr hq, startPlay_states hq]

theorem floorTest_states {s : State} {q : Entry} (hq : q ∈ s.floorTest.agenda.bare) :
    q.state = .playing ∨ q ∈ s.agenda.bare := by
  unfold floorTest at hq
  split at hq
  · split at hq
    · split at hq
      · exact isolatedStart_states hq
      split at hq
      · exact .inr hq
      · exact .inr hq
    · exact .inr hq
    · exact .inr hq
  · exact .inr hq

/-- The tests after an event change an entry only by a play that starts. -/
theorem followUp_states {s : State} {q : Entry} (hq : q ∈ s.followUp.agenda.bare) :
    q.state = .playing ∨ q ∈ s.agenda.bare := by
  simp only [followUp, idleTest_keeps] at hq
  obtain h | h := floorTest_states hq
  · exact .inl h
  · obtain h | h := localStart_states h
    · exact .inl h
    · exact .inr (by simpa using h)

/-- No entry comes to bid by the tests after an event. -/
theorem followUp_not_bidding {s : State} (h : ∀ q ∈ s.agenda.bare, q.state ≠ .bidding) :
    ∀ q ∈ s.followUp.agenda.entries, q.state ≠ .bidding := by
  intro q hq hstate
  have hmem : q.bare ∈ s.followUp.agenda.bare := List.mem_map_of_mem hq
  obtain hp | hm := followUp_states hmem
  · simp [hstate] at hp
  · exact h _ hm hstate

theorem localStart_noCandidate {s : State}
    (h : s.agenda.answer s.flash.store = .noCandidate) :
    s.localStart.agenda.answer s.flash.store = .noCandidate := by
  rw [Agenda.answer_noCandidate_iff] at h ⊢
  intro q hq
  obtain hp | hm := localStart_states hq
  · simp [hp]
  · exact h q hm

theorem selectOwner_noCandidate {s : State}
    (h : s.agenda.answer s.flash.store = .noCandidate) :
    s.selectOwner.agenda.answer s.flash.store = .noCandidate := by
  rw [Agenda.answer_noCandidate_iff] at h ⊢
  simpa using h

/-- The floor test leaves a floor unit that is not free, or that waits with ISOLATED clear. -/
theorem floorTest_of_deferring {s : State} {settle : Nat} (hiso : s.floor.isolated = false)
    (hctx : s.floor.ctx = .deferring settle) : s.floorTest = s := by
  unfold floorTest
  split
  · split
    · simp [hiso, hctx]
    · rfl
    · rfl
  · rfl

/-- While ISOLATED is clear, the tests leave the floor unit in DEFERRING as it is. -/
theorem followUp_floor_of_deferring {s : State} {settle : Nat} (hiso : s.floor.isolated = false)
    (hctx : s.floor.ctx = .deferring settle) : s.followUp.floor = s.floor := by
  rw [followUp, floorTest_of_deferring (settle := settle) (by simpa using hiso) (by simpa using hctx)]
  simp

/-- While ISOLATED is clear, the tests take the floor unit from IDLE to DEFERRING at most (04 R72). -/
theorem followUp_floor_of_idle {s : State} (hiso : s.floor.isolated = false)
    (hctx : s.floor.ctx = .idle) :
    (s.followUp.floor = s.floor ∨ s.followUp.floor = s.floor.withSettle 0) ∧
      (s.agenda.answer s.flash.store = .noCandidate → s.followUp.floor = s.floor) := by
  have hsame : s.selectOwner.localStart.floor = s.floor := by simp
  have hfollow : s.followUp.floor = s.selectOwner.localStart.floorTest.floor := by simp [followUp]
  refine ⟨?_, fun hno => ?_⟩
  · rw [hfollow, floorTest]
    split
    · split
      · rw [if_neg (by simp [hiso]), if_pos (by simp [hctx])]
        exact .inr (by simp [setCtx, Floor.withSettle, setFloor])
      · exact .inl hsame
      · exact .inl hsame
    · exact .inl hsame
  · have hstill : s.selectOwner.localStart.agenda.answer s.selectOwner.localStart.flash.store =
        .noCandidate := by
      have hstore : s.selectOwner.localStart.flash.store = s.selectOwner.flash.store := by simp
      rw [hstore]
      exact localStart_noCandidate (by simpa using selectOwner_noCandidate hno)
    rw [hfollow, floorTest]
    split
    · simp only [hstill]
      exact hsame
    · exact hsame

/-! ### The view (04 R71) -/

theorem viewClear_iff {s : State} {key : Nat} : s.viewClear key = true ↔
    s.floor.holders = [] ∧ ∀ r ∈ s.floor.claims, ¬ (key < r.key ∨
      (r.key = key ∧ r.station < s.timebase.station)) := by
  simp [viewClear, Floor.viewClear, beats, not_or]

/-! ### Frames queued (03 R52) -/

theorem slotQueued_eq (slot : Slot) (onLine : Bool) (f : LineFrame) :
    slotQueued slot onLine f = queuedTo slot onLine f := by
  unfold slotQueued queuedTo
  cases slot.frame <;> simp

theorem queueTalk_eq {s : State} (h : s.rest.part ≠ .settling) (bid : Bid) (length : Nat) :
    s.queueTalk bid length =
      s.setLine (s.line.withTalk (.talk bid.key s.settings.hearMask length)) := by
  rw [queueTalk, queueFrame, if_neg (by simp [h]), slotQueued_eq]
  rfl

theorem sendBeacon_eq {s : State} (h : s.rest.part ≠ .settling) :
    s.sendBeacon = (s.setLine (s.line.withBeacon
      (.beacon s.machine.kind s.machine.availability s.settings.zone s.machine.minutes))).setRoster
        { s.roster with beaconTimer := some s.settings.beaconPeriod } := by
  rw [sendBeacon, queueFrame, if_neg (by simp [h]), slotQueued_eq]
  rfl

theorem queueRenewal_line {s : State} (h : s.rest.part ≠ .settling) (bid : Bid) (hold : Hold) :
    (s.queueRenewal bid hold).line =
      if s.floor.isolated = false ∧ hold.yield = .none then
        s.line.withTalk (.talk bid.key s.settings.hearMask
          (max 1 (bid.length - (s.timebase.ms - hold.start) / 100)))
      else s.line := by
  unfold queueRenewal
  split
  · rw [queueTalk_eq h]
    rfl
  · rfl

end State

/-- Settles O23. -/
theorem beaconTimerQueuesABeacon : Obligations.BeaconTimerQueuesABeacon := by
  intro s htimer hpart
  rw [exec_beaconTimerExpiry, State.beaconExpired, if_pos htimer, State.sendBeacon_eq hpart]

/-- Settles O19: the record that has run out is one of its station. -/
theorem recordsRunOut : Obligations.RecordsRunOut := by
  have hranOut {rs : List Rival} {r : Rival} (hr : r ∈ rs) (hleft : r.left = 0) :
      State.ranOut rs r.station = true :=
    List.any_eq_true.mpr ⟨r, hr, by simp [hleft]⟩
  refine ⟨fun s r hleft => ⟨fun hr => ⟨_, exec_claimAgeExpiry s r.station, ?_⟩,
    fun hr => ⟨_, exec_holdTimerExpiry s r.station, ?_⟩⟩, fun s => ⟨fun r hr hage => ?_, fun h => ?_⟩⟩
  · rw [State.claimAged, if_pos (hranOut hr hleft)]
    exact ⟨by simp [dropRival], by simp, by simp,
      by simp [State.changedIn_iff, Block.followUp]⟩
  · rw [State.holdAged, if_pos (hranOut hr hleft)]
    exact ⟨by simp [dropRival], by simp, by simp,
      by simp [State.changedIn_iff, Block.followUp]⟩
  · have hout : (s.roster.records.any fun q => q.station == r.station && q.age == 0) = true :=
      List.any_eq_true.mpr ⟨r, hr, by simp [hage]⟩
    rw [exec_rosterAgeExpiry, State.peerAged, if_pos hout]
    rfl
  · rw [exec_duplicateTimerExpiry, State.duplicateExpired, if_pos h]

/-- Settles O20: the settle count by the agenda's answer, which the tests after it leave. -/
theorem settleCountsTheClearView : Obligations.SettleCountsTheClearView := by
  intro s settle hctx hactive hiso
  have hexec : exec .settleTick s = .next ((s.setCtx (s.settleCounted settle)).followUp) := by
    simp [State.settleTicked, hctx]
  have hchanged : ((s.setCtx (s.settleCounted settle)).followUp).changedIn s Block.followUp := by
    simp [State.changedIn_iff, Block.followUp]
  have hfloor {n : Nat} (hn : s.settleCounted settle = .deferring n) :
      ((s.setCtx (s.settleCounted settle)).followUp).floor = s.floor.withSettle n := by
    rw [hn, State.followUp_floor_of_deferring (s := s.setCtx (.deferring n)) hiso rfl]
    rfl
  refine ⟨fun hno => ⟨_, hexec, ?_, hchanged⟩, fun hplay => ⟨_, hexec, ?_, hchanged⟩,
    fun e he _ => ⟨_, hexec, hchanged, ?_⟩⟩
  · have hidle : s.settleCounted settle = .idle := by simp [State.settleCounted, hno]
    rw [hidle]
    exact (State.followUp_floor_of_idle (s := s.setCtx .idle) hiso rfl).2 hno
  · exact hfloor (by simp [State.settleCounted, hplay])
  · refine hfloor ?_
    simp only [State.settleCounted, he, hiso, true_and, ← State.viewClear_iff]
    exact (apply_ite FloorCtx.deferring _ _ _).symm

/-- Settles O22: the TALK that is queued with a clear view, the bid deferred without one, and the renewal. -/
theorem windowAndRenewalExpire : Obligations.WindowAndRenewalExpire := by
  refine ⟨fun s bid hctx hactive hiso => ⟨fun hclear => ⟨_, exec_windowExpiry s, ?_⟩,
    fun hbusy => ⟨_, exec_windowExpiry s, ?_⟩⟩,
    fun s bid hold hctx hrenewal hactive => ⟨_, exec_renewalExpiry s, ?_⟩⟩
  · simp only [State.windowExpired, hctx, hclear, if_true]
    rw [State.queueTalk_eq (by simp [hactive])]
    exact ⟨rfl, rfl, by simp [State.changedIn_iff]⟩
  · have hexpired : s.windowExpired = s.deferBid.followUp := by
      simp [State.windowExpired, hctx, hbusy]
    have hfloor : s.deferBid.followUp.floor = s.deferBid.floor :=
      State.followUp_floor_of_deferring (by simpa using hiso) s.deferBid_ctx
    rw [hexpired]
    refine ⟨by rw [hfloor, State.deferBid_ctx], by simp, by simp, by simp,
      State.followUp_not_bidding fun q hq => ?_, by simp [State.changedIn_iff, Block.followUp]⟩
    rw [State.deferBid_bare] at hq
    obtain ⟨e, -, rfl⟩ := List.mem_map.mp hq
    exact State.deferred_not_bidding e _
  · have hexpired : s.renewalExpired = (s.queueRenewal bid hold).setCtx
        (.holding bid { hold with renewal := 10000 }) := by
      simp [State.renewalExpired, hctx, hrenewal, Config.renewalPeriod]
    have hline : s.renewalExpired.line = (s.queueRenewal bid hold).line := by rw [hexpired]; simp
    have hpart : s.rest.part ≠ .settling := by simp [hactive]
    refine ⟨by simp [State.changedIn_iff], by rw [hexpired]; simp [State.setCtx],
      fun hiso hyield => ?_, fun hno => ?_⟩
    · rw [hline, State.queueRenewal_line hpart, if_pos ⟨hiso, hyield⟩]
    · rw [hline, State.queueRenewal_line hpart, if_neg]
      rintro ⟨hiso, hyield⟩
      obtain h | h := hno
      exacts [absurd h (by simp [hiso]), h hyield]

end Sys2Proof.Machine

/-! ## Referrals, the directory and the flash port's grants (05, 06); O24, O25, O26 -/

namespace Sys2Proof.Machine

/-! ### The records a referral prefers (05 R99) -/

theorem lowestStation_eq_none {rs : List PeerRecord} : lowestStation rs = none ↔ rs = [] := by
  cases rs with
  | nil => simp [lowestStation]
  | cons r rs =>
    simp only [lowestStation, List.cons_ne_nil, iff_false]
    split
    · simp
    · split <;> simp

/-- The record with the lowest station is in the list, and none is lower. -/
theorem lowestStation_spec {rs : List PeerRecord} {best : PeerRecord}
    (h : lowestStation rs = some best) :
    best ∈ rs ∧ ∀ q ∈ rs, best.station ≤ q.station := by
  induction rs generalizing best with
  | nil => simp [lowestStation] at h
  | cons r rs ih =>
    cases hrest : lowestStation rs with
    | none =>
      obtain rfl := lowestStation_eq_none.mp hrest
      simp_all [lowestStation]
    | some low =>
      obtain ⟨hmem, hle⟩ := ih hrest
      simp only [lowestStation, hrest] at h
      split at h
      next hlt =>
        obtain rfl := Option.some.inj h
        exact ⟨List.mem_cons_of_mem r hmem, by simpa using ⟨by omega, hle⟩⟩
      next hge =>
        obtain rfl := Option.some.inj h
        refine ⟨List.mem_cons_self, fun q hq => ?_⟩
        obtain rfl | hq := List.mem_cons.mp hq
        · exact le_rfl
        · have := hle q hq
          omega

theorem soonestRecord_eq_none {rs : List PeerRecord} : soonestRecord rs = none ↔ rs = [] := by
  cases rs with
  | nil => simp [soonestRecord]
  | cons r rs =>
    simp only [soonestRecord, List.cons_ne_nil, iff_false]
    split
    · simp
    · split <;> simp

/-- The soonest record is in the list; none has fewer minutes, and none of its minutes a lower station. -/
theorem soonestRecord_spec {rs : List PeerRecord} {best : PeerRecord}
    (h : soonestRecord rs = some best) :
    best ∈ rs ∧ ∀ q ∈ rs, best.minutes ≤ q.minutes ∧
      (best.minutes = q.minutes → best.station ≤ q.station) := by
  induction rs generalizing best with
  | nil => simp [soonestRecord] at h
  | cons r rs ih =>
    cases hrest : soonestRecord rs with
    | none =>
      obtain rfl := soonestRecord_eq_none.mp hrest
      simp_all [soonestRecord]
    | some low =>
      obtain ⟨hmem, hle⟩ := ih hrest
      simp only [soonestRecord, hrest] at h
      split at h
      next hlt =>
        obtain rfl := Option.some.inj h
        exact ⟨List.mem_cons_of_mem r hmem, by simpa using ⟨by omega, hle⟩⟩
      next hge =>
        obtain rfl := Option.some.inj h
        refine ⟨List.mem_cons_self, fun q hq => ?_⟩
        obtain rfl | hq := List.mem_cons.mp hq
        · exact ⟨le_rfl, fun _ => le_rfl⟩
        · have := hle q hq
          omega

/-- Settles O24: the FREE records of the kind, those of the own zone first, and else the RUNNING ones. -/
theorem referralPrefersFreeThenSoonest : Obligations.ReferralPrefersFreeThenSoonest := by
  intro rs zone kind
  set free := rs.filter fun r => kind.accepts r.kind && r.availability == .free with hfree
  set here := free.filter fun r => r.zone == zone with hhere
  have hmemFree {q : PeerRecord} : q ∈ free ↔
      q ∈ rs ∧ kind.accepts q.kind = true ∧ q.availability = .free := by simp [hfree]
  have hmemHere {q : PeerRecord} : q ∈ here ↔ q ∈ free ∧ q.zone = zone := by simp [hhere]
  refine ⟨fun q hq hkind havail => ?_, fun hnone => ?_⟩
  · have hqFree : q ∈ free := hmemFree.mpr ⟨hq, hkind, havail⟩
    cases hlow : lowestStation (if here.isEmpty then free else here) with
    | none =>
      have hnil := lowestStation_eq_none.mp hlow
      split at hnil
      · exact absurd hqFree (by simp [hnil])
      · simp_all
    | some best =>
      have hresolve : resolveReferral rs zone kind =
          { outcome := .free, station := some best.station, minutes := 255 } := by
        simp only [resolveReferral, ← hfree, ← hhere, hlow]
      obtain ⟨hbest, hleast⟩ := lowestStation_spec hlow
      have hbestFree : best ∈ free := by
        split at hbest
        exacts [hbest, (hmemHere.mp hbest).1]
      obtain ⟨hmem, hbestKind, hbestAvail⟩ := hmemFree.mp hbestFree
      rw [hresolve]
      refine ⟨rfl, best, hmem, hbestKind, hbestAvail, rfl, fun hzone => ?_, fun hzones => ?_⟩
      · have hqHere : q ∈ here := hmemHere.mpr ⟨hqFree, hzone⟩
        have hnonempty : here.isEmpty = false := by
          cases hh : here with
          | nil => simp [hh] at hqHere
          | cons _ _ => rfl
        rw [hnonempty] at hbest
        exact (hmemHere.mp hbest).2
      · refine hleast q ?_
        split
        · exact hqFree
        next hnonempty =>
          rw [if_neg hnonempty] at hbest
          exact hmemHere.mpr ⟨hqFree, hzones.mpr (hmemHere.mp hbest).2⟩
  · have hfreeNil : free = [] := by
      rw [List.eq_nil_iff_forall_not_mem]
      intro q hq
      obtain ⟨hmem, hrest⟩ := hmemFree.mp hq
      exact hnone q hmem hrest
    have hlow : lowestStation (if here.isEmpty then free else here) = none := by
      simp [hhere, hfreeNil, lowestStation]
    set soon := rs.filter fun r =>
      kind.accepts r.kind && r.availability == .running && r.minutes != 255 with hsoon
    have hmemSoon {q : PeerRecord} : q ∈ soon ↔ q ∈ rs ∧ kind.accepts q.kind = true ∧
        q.availability = .running ∧ q.minutes ≠ 255 := by simp [hsoon, and_assoc]
    refine ⟨fun q hq hkind havail hminutes => ?_, fun hno => ?_⟩
    · have hqSoon : q ∈ soon := hmemSoon.mpr ⟨hq, hkind, havail, hminutes⟩
      cases hbest : soonestRecord soon with
      | none => exact absurd hqSoon (by simp [soonestRecord_eq_none.mp hbest])
      | some best =>
        have hresolve : resolveReferral rs zone kind =
            { outcome := .soon, station := some best.station, minutes := best.minutes } := by
          simp only [resolveReferral, ← hfree, ← hhere, ← hsoon, hlow, hbest]
        obtain ⟨hmem, hleast⟩ := soonestRecord_spec hbest
        obtain ⟨hle, hstation⟩ := hleast q hqSoon
        obtain ⟨hmem, hbestKind, hbestAvail, -⟩ := hmemSoon.mp hmem
        rw [hresolve]
        exact ⟨rfl, hle, best, hmem, rfl, hbestAvail, hbestKind, rfl, hstation⟩
    · have hnil : soon = [] := by
        rw [List.eq_nil_iff_forall_not_mem]
        intro q hq
        obtain ⟨hmem, hrest⟩ := hmemSoon.mp hq
        exact hno q hmem hrest
      have hresolve : resolveReferral rs zone kind =
          { outcome := .none, station := none, minutes := 255 } := by
        simp only [resolveReferral, ← hfree, ← hhere, ← hsoon, hlow, hnil, soonestRecord]
      rw [hresolve]
      exact ⟨rfl, rfl⟩

/-! ### What composes, lookups and plays leave of the flash port (06 R105 to R109)

A compose and a lookup that start may drop a read on the port (R105), and a bid or an ISOLATED start asks for the reads
of an estimate; the directory's data stand. -/

namespace State

@[simp] theorem dropReads_scan (s : State) (dropped : ReadFor → Bool) :
    (s.dropReads dropped).flash.scanData = s.flash.scanData ∧
      (s.dropReads dropped).flash.estimate = s.flash.estimate := by
  unfold dropReads
  split
  · exact ⟨rfl, rfl⟩
  · split <;> exact ⟨rfl, rfl⟩

@[simp] theorem startCompose_scan (s : State) :
    s.startCompose.flash.scanData = s.flash.scanData ∧
      s.startCompose.flash.estimate = s.flash.estimate := by
  simp [startCompose]

@[simp] theorem cause_scan (s : State) :
    s.cause.flash.scanData = s.flash.scanData ∧ s.cause.flash.estimate = s.flash.estimate := by
  unfold cause
  (repeat' split) <;> simp

@[simp] theorem selectOwner_scan (s : State) :
    s.selectOwner.flash.scanData = s.flash.scanData ∧
      s.selectOwner.flash.estimate = s.flash.estimate := by
  unfold selectOwner
  split <;> simp

@[simp] theorem bindingCause_scan (s : State) (ticket : Nat) :
    (s.bindingCause ticket).flash.scanData = s.flash.scanData ∧
      (s.bindingCause ticket).flash.estimate = s.flash.estimate := by
  unfold bindingCause
  split <;> simp

@[simp] theorem sessionReset_scan (s : State) :
    s.sessionReset.flash.scanData = s.flash.scanData ∧
      s.sessionReset.flash.estimate = s.flash.estimate := by
  simp only [sessionReset]
  split <;> simp

@[simp] theorem enterTail_scan (s : State) :
    s.enterTail.flash.scanData = s.flash.scanData ∧
      s.enterTail.flash.estimate = s.flash.estimate := by
  simp [enterTail]

@[simp] theorem lookupDone_scan (s : State) (p : Play) (found : Option (Nat × List Span)) :
    (s.lookupDone p found).flash.scanData = s.flash.scanData ∧
      (s.lookupDone p found).flash.estimate = s.flash.estimate := by
  unfold lookupDone
  dsimp only
  (repeat' split) <;> simp

@[simp] theorem advanceLookup_scan (s : State) :
    s.advanceLookup.flash.scanData = s.flash.scanData ∧
      s.advanceLookup.flash.estimate = s.flash.estimate := by
  unfold advanceLookup
  (repeat' split) <;> simp

@[simp] theorem startLookup_scan (s : State) (p : Play) (index : Nat) :
    (s.startLookup p index).flash.scanData = s.flash.scanData ∧
      (s.startLookup p index).flash.estimate = s.flash.estimate := by
  simp [startLookup]

@[simp] theorem startPlay_scan (s : State) (e : Entry) (route : Route) :
    (s.startPlay e route).flash.scanData = s.flash.scanData ∧
      (s.startPlay e route).flash.estimate = s.flash.estimate := by
  unfold startPlay
  dsimp only
  split <;> simp

@[simp] theorem isolatedStart_scan (s : State) (e : Entry) :
    (s.isolatedStart e).flash.scanData = s.flash.scanData ∧
      (s.isolatedStart e).flash.estimate = (s.estimateProgram e.post).requests s.phraseStore := by
  simp [isolatedStart, requestEstimate]

@[simp] theorem localStart_scan (s : State) :
    s.localStart.flash.scanData = s.flash.scanData ∧
      s.localStart.flash.estimate = s.flash.estimate := by
  obtain h | ⟨e, route, -, -, -, -, -, -, h⟩ := s.localStart_cases <;> rw [h] <;> simp

@[simp] theorem floorTest_scan (s : State) : s.floorTest.flash.scanData = s.flash.scanData := by
  unfold floorTest
  (repeat' split) <;> simp

@[simp] theorem followUp_scan (s : State) : s.followUp.flash.scanData = s.flash.scanData := by
  simp [followUp]

/-- A session reset sets the language alone of the panel (09 R163). -/
theorem sessionReset_panel (s : State) : s.sessionReset.panel = { s.panel with
    language := min s.settings.defaultLanguage (s.flash.store.languages - 1) } := by
  change _ = { s.panel with language := defaultInUse s.settings s.flash.store }
  by_cases h : s.panel.language = defaultInUse s.settings s.flash.store
  · rw [← h, sessionReset]
    simp only [if_pos h]
  · simp only [sessionReset, if_neg h]
    simp

end State

/-- The directory's mark is two bytes (12 R191). -/
theorem mark_iff {data : List Byte} (h : data.length = 37) :
    numberOf (data.take 2) = 0x464A ↔ data.take 2 = [0x46, 0x4A] := by
  obtain ⟨a, b, rest, rfl⟩ : ∃ a b rest, data = a :: b :: rest := by
    match data, h with
    | a :: b :: rest, _ => exact ⟨a, b, rest, rfl⟩
  have ha := a.isLt
  have hb := b.isLt
  simp only [numberOf, List.take_succ_cons, List.take_zero, List.foldl_cons, List.foldl_nil,
    List.cons.injEq, and_true]
  constructor
  · intro hn
    exact ⟨BitVec.eq_of_toNat_eq (by simp; omega), BitVec.eq_of_toNat_eq (by simp; omega)⟩
  · rintro ⟨rfl, rfl⟩
    rfl

/-- Settles O25: the judged store, and what the session reset and the tests after it leave. -/
theorem directoryIsReadAndJudged : Obligations.DirectoryIsReadAndJudged := by
  refine ⟨fun s hstore hwait hport => ?_, fun s data hstore hdata => ⟨_, exec_directoryBad s, ?_⟩⟩
  · rw [exec_directoryScan, State.scanStarted, if_pos ⟨hstore, hwait, hport⟩]
  · have hjudged : s.directoryJudged = s.storeJudged (judgeDirectory data) := by
      simp [State.directoryJudged, hstore, hdata]
    rw [hjudged]
    have hstoreAfter : (s.storeJudged (judgeDirectory data)).flash.store = judgeDirectory data := by
      unfold State.storeJudged
      dsimp only
      (repeat' split) <;> simp
    refine ⟨?_, by simp, by simp [State.changedIn_iff, Block.followUp], fun hwarm => ?_,
      fun hwarm => ?_, fun hlen hgood => ?_, fun hlen hbad => ?_⟩
    · unfold State.storeJudged
      dsimp only
      (repeat' split) <;> simp
    · unfold State.storeJudged
      dsimp only
      split <;> simp [hwarm]
    · rw [hstoreAfter]
      unfold State.storeJudged
      dsimp only
      split <;> simp [hwarm, State.sessionReset_panel]
    · rw [← mark_iff hlen] at hgood
      have hjudge : judgeDirectory data = .usable (directoryOf data) := by
        rw [judgeDirectory]
        exact if_pos hgood
      exact ⟨hstoreAfter.trans hjudge, by simp [EventQueue.grewFrom_refl]⟩
    · rw [← mark_iff hlen] at hbad
      have hjudge : judgeDirectory data = .unusable := by
        rw [judgeDirectory]
        exact if_neg hbad
      refine ⟨hstoreAfter.trans hjudge, ?_⟩
      have hoffer := State.offer_events_congr (t := s) (s := s.setFlash { s.flash with
        store := .unusable, scanData := none }) .directoryBad rfl
      rw [hjudge, ← hoffer]
      unfold State.storeJudged
      simp only [Store.isUsable, Bool.false_eq_true, if_false]
      have hgrown := EventQueue.grewFrom_refl (State.offer (s.setFlash { s.flash with
        store := .unusable, scanData := none }) .directoryBad).events
      split
      · exact State.followUp_grew _ _ (State.advanceCompose_grew _ _ (State.sessionReset_grew _ _ hgrown))
      · exact State.followUp_grew _ _ (State.advanceCompose_grew _ _ hgrown)

/-! ### The arbiter (06 R106) -/

namespace State

theorem granted_of_free {s : State} {d : Directory} (hstore : s.flash.store = .usable d)
    (hport : s.flash.port = none) :
    s.granted = s.setFlash { s.flash with port := s.speechRequest.or s.composeRequest } := by
  rw [granted, if_pos hport, arbitrate, hstore]

/-- The request of a play, when no estimate waits (R123). -/
theorem speechRequest_of_play {s : State} {p : Play} (hestimate : s.flash.estimate = [])
    (hplay : s.renderer.play = some p)
    (hphase : s.renderer.phase = .lead ∨ s.renderer.phase = .item ∨ s.renderer.phase = .gap) :
    s.speechRequest = match p.ahead with
      | .looking index language replies =>
          ((lookupProgram s.flash.store p index language).resume replies).need.map
            fun (addr, len) => { purpose := .lookup, addr := addr, len := len, wanted := true }
      | .sounds _ | .exhausted =>
          if p.filled < bufferLimit p.stream p.played then
            (fillRead p.stream p.filled (bufferLimit p.stream p.played) 0).map
              fun (addr, len) => { purpose := .fill, addr := addr, len := len, wanted := true }
          else none := by
  simp only [speechRequest, hestimate, playRequest, hplay]
  obtain h | h | h := hphase <;> simp only [h] <;> rfl

end State

/-- The lookup of a PHRASE item asks for the record of its phrase (06 R110). -/
theorem lookupProgram_phrase {d : Directory} {p : Play} {index language n : Nat}
    (hroute : p.route = .floor) (hitem : p.items[index]? = some (.phrase n))
    (hcount : n < (d.slot language).phrases)
    (hsize : (d.slot language).table + 5 * n + 5 ≤ d.size) :
    ∃ next, lookupProgram (.usable d) p index language =
      .read none ((d.slot language).table + 5 * n) 5 next := by
  have hdrop : p.items.drop index = .phrase n :: p.items.drop (index + 1) :=
    (List.getElem?_eq_some_iff.mp hitem).elim fun hlt hget => by
      rw [← hget]
      exact List.drop_eq_getElem_cons hlt
  have hpresent : ¬ ((d.slot language).phrases ≤ n ∨
      d.size < (d.slot language).table + 5 * n + 5) := by omega
  simp only [lookupProgram, Store.directory, hdrop, fetchItem, Item.kind, hroute, if_true,
    Play.phrases, fetchSpans, fetchPhrase, if_neg hpresent]
  exact ⟨_, rfl⟩

/-- The first fill of a phrase reads the first half of the buffer (06 R107). -/
theorem fillRead_first {span : Span} (h : 0 < span.count) :
    0 < bufferLimit [span] 0 ∧
      fillRead [span] 0 (bufferLimit [span] 0) 0 = some (span.start, min span.count 128) := by
  have hlimit : bufferLimit [span] 0 = min span.count 256 := by simp [bufferLimit, streamLength]
  rw [hlimit]
  refine ⟨by omega, ?_⟩
  simp only [fillRead, Nat.zero_add, if_pos h]
  exact congrArg some (Prod.ext (by simp) (by simp))

/-- Settles O26: what the arbiter takes of the two requests. -/
theorem flashGrantPrefersSpeech : Obligations.FlashGrantPrefersSpeech := by
  intro s
  refine ⟨fun h => ?_, fun d hstore hport => ?_⟩
  · rw [exec_flashGrant, State.granted]
    split
    next hport =>
      have hno : s.arbitrate = none := by
        obtain h | h := h
        · exact absurd hport h
        · unfold State.arbitrate
          cases hs : s.flash.store <;> simp_all [Store.isUsable]
      rw [hno, ← hport]
      rfl
    · rfl
  · have hgrant (r : PortRead) (hr : s.speechRequest = some r) : exec .flashGrant s =
        .next (s.setFlash { s.flash with port := some r }) := by
      rw [exec_flashGrant, State.granted_of_free hstore hport, hr]
      rfl
    refine ⟨hgrant, fun hnone => ?_, fun addr len more hestimate => ?_,
      fun p hestimate hplay hphase => ⟨fun index language n hahead hroute hitem hcount hsize => ?_,
        fun index span hahead hstream hfilled hplayed hspan => ?_⟩⟩
    · rw [exec_flashGrant, State.granted_of_free hstore hport, hnone]
      rfl
    · exact hgrant _ (by simp [State.speechRequest, hestimate])
    · refine hgrant _ ?_
      obtain ⟨next, hprogram⟩ := lookupProgram_phrase hroute hitem hcount hsize
      rw [State.speechRequest_of_play hestimate hplay hphase, hahead, hstore]
      simp only [hprogram]
      rfl
    · refine hgrant _ ?_
      obtain ⟨hlt, hread⟩ := fillRead_first hspan
      rw [State.speechRequest_of_play hestimate hplay hphase, hahead]
      simp only [hstream, hfilled, hplayed, if_pos hlt, hread]
      rfl

end Sys2Proof.Machine

/-! ## The host port: transactions, checks and reports (O28, O29, O30, O37, O38)

What a row's command does once its frame is good and the part state lets it through is its own steps (10 R168); the
transactions and the reports are then read off the model's definitions. -/

namespace Sys2Proof.Machine

/-! ### A row's command (10 R168) -/

/-- Each row's command runs the row's own steps as a request. -/
theorem exec_command (row : RequestRow) (s : State) :
    exec row.command s = .next (s.runRequest row (State.requestEffect row)) := by
  cases row <;> rfl

/-- A request that passes its checks runs the row's own steps. -/
theorem exec_of_runs {s : State} {row : RequestRow} {body : List Byte} (h : s.runs row body) :
    exec row.command s = .next (State.requestEffect row s body) := by
  rw [exec_command, State.runRequest_of_runs h]

/-- After SETUP no part state refuses a row but SETUP (10 R168). -/
theorem State.runs_of_set {s : State} {row : RequestRow} {body : List Byte} (h : s.asks row body)
    (hpart : s.rest.part ≠ .unset) (hrow : row ≠ .setup) : s.runs row body := by
  refine ⟨h, ?_⟩
  cases row <;> simp_all [State.stateRefusal]

/-- The held request is the one whose steps a row's command runs. -/
theorem State.held_of_executes {s : State} {row : RequestRow} {buffer : List Byte}
    (hexec : s.executes = true) (hbuf : s.host.request = some buffer)
    (hrow : requestRow buffer = some row) : s.held row = some buffer := by
  simp [State.held, hexec, hbuf, hrow, Option.filter]

/-- A response changes the host port alone. -/
theorem State.respond_eq (s : State) (result : ResultCode) (body : List Byte) :
    s.respond result body = s.setHost (s.answered result body) := rfl

/-! ### Transactions (10 R165 to R169) -/

/-- A frame that names no request code's row is refused by the part state first (10 R168, R172). -/
theorem State.answerUnnamed_eq (s : State) (buffer : List Byte) : s.answerUnnamed buffer =
    s.respond (if readRequest buffer ≠ none ∧ s.rest.part = .unset then .notSet else .malformed)
      [] := by
  unfold State.answerUnnamed
  cases readRequest buffer with
  | none => simp
  | some read => by_cases h : s.rest.part = .unset <;> simp [h]

/-- The transaction that ends in DORMANT, or whose select fell there, is discarded. -/
theorem State.discards_iff (s : State) :
    s.discards = true ↔ s.rest.part = .dormant ∨ s.host.discard = true := by
  simp [State.discards]

/-- Settles O28: the discarded write, the other lead byte, and the buffer taken or lost. -/
theorem writeIsTakenOrLost : Obligations.WriteIsTakenOrLost := by
  intro s lead frame
  refine ⟨fun h => ?_, fun hlead hpart hkept => ?_⟩
  · rw [exec_writeTransaction, State.written]
    by_cases hdiscards : s.discards = true
    · rw [if_pos hdiscards]
      rfl
    · rw [if_neg hdiscards]
      rw [State.discards_iff, not_or] at hdiscards
      obtain hlead | hpart | hdiscard := h
      · simp only [if_neg hlead, List.length_cons, State.sent, eq_false_of_ne_true hdiscards.2]
      · exact absurd hpart hdiscards.1
      · exact absurd hdiscard hdiscards.2
  · have hdiscards : ¬ s.discards = true := by simp [State.discards_iff, hpart, hkept]
    have hwritten : exec (.writeTransaction (lead :: frame)) s = .next
        ((s.sent (List.replicate (frame.length + 1) 0)).writeTaken frame) := by
      rw [exec_writeTransaction, State.written, if_neg hdiscards]
      simp only [if_pos hlead, List.length_cons]
    rw [hwritten]
    refine ⟨fun hheld => ?_, fun hempty => ⟨fun h => ?_, fun hrow hexec => ?_⟩⟩
    · obtain ⟨held, hheld⟩ := Option.ne_none_iff_exists'.mp hheld
      simp only [State.writeTaken, State.sent, State.setHost, hheld]
    · have hno : ¬ ((s.sent (List.replicate (frame.length + 1) 0)).executes = true ∧
          requestRow (frame.take 64) = none) := by
        rintro ⟨hexec, hrow⟩
        obtain h | h := h
        · exact h hrow
        · exact absurd hexec (by simp [State.executes, State.sent] at h ⊢; exact h)
      simp only [State.writeTaken, if_neg hno]
      simp only [State.sent, State.setHost, hempty]
    · have hyes : (s.sent (List.replicate (frame.length + 1) 0)).executes = true ∧
          requestRow (frame.take 64) = none := ⟨hexec, hrow⟩
      simp only [State.writeTaken, if_pos hyes, State.answerUnnamed_eq]
      simp only [State.sent, State.setHost, hempty, State.respond, State.answered]

/-- Settles O29: the slot byte and the frame that a read sends. -/
theorem readSendsTheSlot : Obligations.ReadSendsTheSlot := by
  intro s n
  refine ⟨fun h => ?_, fun hpart hkept => ?_⟩
  · show exec (.readTransaction n) s = _
    rw [exec_readTransaction, State.read, if_pos (s.discards_iff.mpr h)]
    simp [State.discarded, List.replicate_succ]
  · have hdiscards : ¬ s.discards = true := by simp [State.discards_iff, hpart, hkept]
    refine ⟨fun hheld => ?_, fun hnone hslot => ?_, fun frame hnone hslot => ?_⟩
    · obtain ⟨held, hheld⟩ := Option.ne_none_iff_exists'.mp hheld
      show exec (.readTransaction n) s = _
      rw [exec_readTransaction, State.read, if_neg hdiscards]
      simp [State.slotRead, State.slotByte, State.frameSentOut, hheld, hkept]
    · show exec (.readTransaction n) s = _
      rw [exec_readTransaction, State.read, if_neg hdiscards]
      simp [State.slotRead, State.slotByte, State.frameSentOut, hnone, hslot, hkept]
    · show exec (.readTransaction n) s = _
      rw [exec_readTransaction, State.read, if_neg hdiscards]
      simp [State.slotRead, State.slotByte, State.frameSentOut, hnone, hslot, hkept]

/-! ### The checks of a request (10 R168) -/

/-- The frame check of a frame of code, body and check byte. -/
theorem readRequest_frame (code check : Byte) {body : List Byte} (h : body.length ≤ 61) :
    readRequest ((byteOf (body.length + 2) :: code :: body) ++ [check]) =
      if check = crc8 (byteOf (body.length + 2) :: code :: body) ∧
          body.length + 2 = lengthOfCode code.toNat body then some (code.toNat, body)
      else none := by
  have hn : (byteOf (body.length + 2)).toNat = body.length + 2 := by
    simp [byteOf, BitVec.toNat_ofNat]
    omega
  have htake : (code :: (body ++ [check])).take (body.length + 2 - 1) = code :: body := by
    simp
  have hget : (code :: (body ++ [check])).getD (body.length + 2 - 1) 0 = check := by simp
  simp only [List.cons_append, readRequest, hn, htake, hget]
  refine if_congr ?_ rfl rfl
  constructor
  · rintro ⟨-, -, -, hcheck, hlength⟩
    exact ⟨hcheck.symm, hlength⟩
  · rintro ⟨hcheck, hlength⟩
    exact ⟨by omega, by omega, by simp, hcheck.symm, hlength⟩

/-- Settles O30: the frame first, then the part state. -/
theorem requestsAreCheckedInOrder : Obligations.RequestsAreCheckedInOrder := by
  refine ⟨fun s row buffer hexec hbuf hrow => ?_, fun code check body h =>
    readRequest_frame code check h⟩
  have hheld := State.held_of_executes hexec hbuf hrow
  rw [exec_command]
  refine ⟨fun hread => ?_, fun code body hread =>
    ⟨fun hpart hsetup hstatus hroster hevents => ?_, fun hsetup hwarm => ?_⟩⟩
  · simp only [State.runRequest, hheld, hread]
    rfl
  · have hrefuse : s.stateRefusal row = some .notSet := by
      cases row <;> simp_all [State.stateRefusal]
    simp only [State.runRequest, hheld, hread, hrefuse]
    rfl
  · have hrefuse : s.stateRefusal row = some .alreadySet := by
      simp [hsetup, State.stateRefusal, hwarm]
    simp only [State.runRequest, hheld, hread, hrefuse]
    rfl

/-! ### Reports (10 R173, R175, 05 R102) -/

/-- The flags byte of STATUS, bit by bit. -/
theorem State.statusFlags_eq (s : State) : s.statusFlags =
    (if s.floor.isolated = true then 1 else 0) + (if s.panel.presence = .present then 2 else 0) +
      (if s.panel.door = .opened then 4 else 0) := by
  unfold State.statusFlags
  cases s.floor.isolated <;> cases s.panel.presence <;> cases s.panel.door <;> rfl

/-- An entry record of STATUS, byte by byte. -/
theorem Entry.bytes_eq (e : Entry) : e.bytes = [e.post.topic, e.ticket / 256, e.ticket,
    classCode e.post.cls + 8 * entryStateCode e.state + (if e.interrupted = true then 32 else 0),
    e.key, 16 * e.owed + e.ahead, e.remaining.getD 255].map byteOf := by
  cases h : e.interrupted <;> simp [Entry.bytes, bytes2, h]

/-- Settles O38: each response is read off the state. -/
theorem reportsSayWhatStands : Obligations.ReportsSayWhatStands := by
  refine ⟨fun s h => ?_, fun s => ⟨fun h => ?_, fun h => ?_⟩⟩
  · exact (exec_of_runs (row := .events) ⟨h, rfl⟩).trans (by
      simp only [State.requestEffect, State.eventsEffect, State.eventsBody, List.length_take]
      rfl)
  · refine (exec_of_runs (row := .status) ⟨h, rfl⟩).trans ?_
    have hentries : s.agenda.entries.flatMap Entry.bytes = s.agenda.entries.flatMap fun e =>
        [e.post.topic, e.ticket / 256, e.ticket, classCode e.post.cls + 8 * entryStateCode e.state +
          (if e.interrupted = true then 32 else 0), e.key, 16 * e.owed + e.ahead,
          e.remaining.getD 255].map byteOf :=
      congrArg (s.agenda.entries.flatMap ·) (funext Entry.bytes_eq)
    simp only [State.requestEffect, State.statusEffect, State.statusHeader, State.statusFlags_eq, hentries]
    rfl
  · exact exec_of_runs (row := .roster) ⟨h, rfl⟩

/-! ### MACHINE and BASEPAGE (10 R170, R171) -/

namespace State

@[simp] theorem reportPage_owner (s : State) (snap : Snapshot) :
    (s.reportPage snap).agenda.owner = s.agenda.owner := by
  unfold reportPage
  (repeat' split) <;> simp [Agenda.modify]

@[simp] theorem drawSoFar_owner (s : State) (snap : Snapshot) (drawn : Drawn) :
    (s.drawSoFar snap drawn).agenda.owner = s.agenda.owner := by
  unfold drawSoFar
  dsimp only
  split <;> simp

@[simp] theorem advanceCompose_owner (s : State) :
    s.advanceCompose.agenda.owner = s.agenda.owner := by
  unfold advanceCompose
  (repeat' split) <;> simp

@[simp] theorem startCompose_owner (s : State) : s.startCompose.agenda.owner = s.agenda.owner := by
  simp [startCompose]

@[simp] theorem cause_owner (s : State) : s.cause.agenda.owner = s.agenda.owner := by
  unfold cause
  (repeat' split) <;> simp

/-- The display owner is the one that the agenda chooses (01 R18). -/
@[simp] theorem selectOwner_owner (s : State) : s.selectOwner.agenda.owner = s.agenda.chooseOwner := by
  unfold selectOwner
  split
  next h => exact h.symm
  · simp

end State

/-- Without an entry that has a page the base page is the display owner (01 R18). -/
theorem Agenda.chooseOwner_of_noPage {a : Agenda} (h : ∀ e ∈ a.entries, e.post.page = 255) :
    a.chooseOwner = a.basePage.elim .builtIn .basePage := by
  have hno : ∀ e ∈ a.entries, e.hasPage = false := fun e he => by simp [Entry.hasPage, h e he]
  have hfind : a.entries.find? (fun e => e.state == .playing && e.hasPage) = none :=
    List.find?_eq_none.mpr fun e he => by simp [hno e he]
  have hfilter : a.entries.filter Entry.hasPage = [] :=
    List.filter_eq_nil_iff.mpr fun e he => by simp [hno e he]
  simp only [Agenda.chooseOwner, hfind, hfilter, topEntry]
  cases a.basePage <;> rfl

/-- BASEPAGE selects the owner under the new page, with a recompose cause after it or without (10 R170). -/
theorem State.basepageEffect_eq (s : State) (page : Byte) : ∃ u : State,
    (u = (s.setAgenda { s.agenda with basePage := State.basePageOf page }).selectOwner ∨
      u = (s.setAgenda { s.agenda with basePage := State.basePageOf page }).selectOwner.cause) ∧
    s.basepageEffect [page] = u.respond .ok [] := by
  by_cases h : s.display.fallback = true ∧ State.basePageOf page ≠ s.agenda.basePage
  · exact ⟨_, .inr rfl, congrArg (State.respond · .ok []) (if_pos h)⟩
  · exact ⟨_, .inl rfl, congrArg (State.respond · .ok []) (if_neg h)⟩

/-- Settles O37: what MACHINE and BASEPAGE write, and what follows. -/
theorem machineAndBasePageAreWritten : Obligations.MachineAndBasePageAreWritten := by
  refine ⟨fun s a minutes progress h hpart => ?_, fun s page h hpart => ?_⟩
  · have hexec := exec_of_runs (State.runs_of_set h hpart (by decide))
    have hsettling : s.rest.part ≠ .settling := fun hsettling => by
      simpa [State.executes, hsettling] using h.1
    refine ⟨fun hnone => hexec.trans ?_, fun av hav => ⟨_, hexec, ?_⟩⟩
    · simp only [State.requestEffect, State.machineEffect, List.getD_cons_zero, hnone]
      rfl
    · simp only [State.requestEffect, State.machineEffect, List.getD_cons_zero,
        List.getD_cons_succ, hav]
      refine ⟨by simp [State.respond, State.answered],
        by unfold State.machineWritten; (repeat' split) <;> simp, by simp,
        by simp [State.changedIn_iff], fun hsame hminutes => ?_, fun hchange => ?_⟩
      · simp only [State.machineWritten, ← hsame, ← hminutes, ne_eq, not_true_eq_false, false_or,
          if_false]
        split <;> simp
      · have hsend := State.sendBeacon_eq (s := s.setMachine { s.machine with
          availability := av, minutes := minutes.toNat, progress := progress.toNat }) (by simpa)
        have hmoved : av ≠ s.machine.availability ∨ minutes.toNat ≠ s.machine.minutes := by
          simpa [eq_comm] using hchange
        simp only [State.machineWritten, if_pos hmoved, hsend]
        split <;> simp
  · have hexec := exec_of_runs (State.runs_of_set h hpart (by decide))
    refine ⟨_, hexec, ?_⟩
    obtain ⟨u, hu, heffect⟩ := s.basepageEffect_eq page
    simp only [State.requestEffect, heffect]
    have hpage : u.agenda.basePage = State.basePageOf page := by
      obtain rfl | rfl := hu <;> simp
    have howner : u.agenda.owner =
        { s.agenda with basePage := State.basePageOf page }.chooseOwner := by
      obtain rfl | rfl := hu <;> simp
    refine ⟨?_, by simpa [State.basePageOf] using hpage, ?_, ?_, fun hnone => ?_⟩
    · obtain rfl | rfl := hu <;> simp [State.respond, State.answered]
    · obtain rfl | rfl := hu <;> simp
    · obtain rfl | rfl := hu <;> simp [State.changedIn_iff]
    · have hchosen := Agenda.chooseOwner_of_noPage (a := { s.agenda with
        basePage := State.basePageOf page }) hnone
      rw [hchosen] at howner
      by_cases hff : page = 0xFF
      · simpa [State.basePageOf, hff] using howner
      · simp only [State.basePageOf, if_neg hff] at howner ⊢
        exact howner

end Sys2Proof.Machine

/-! ## Rest control and the session (O39, O40, O41)

Outside ACTIVE nothing composes, so that an operation that selects the display owner changes the agenda's owner
alone; while an entry is PLAYING the tests after an event start nothing. -/

namespace Sys2Proof.Machine

namespace State

/-! ### The tests while an entry is PLAYING -/

/-- While an entry is PLAYING the agenda names no candidate (01 R7). -/
theorem answer_of_isPlaying {a : Agenda} (h : a.isPlaying = true) (store : Store) (e : Entry) :
    a.answer store ≠ .candidate e := by
  intro he
  rw [(Agenda.answer_candidate he).2.2.2] at h
  exact absurd h (by decide)

theorem localStart_of_isPlaying {s : State} (h : s.agenda.isPlaying = true) : s.localStart = s := by
  rw [localStart, if_neg (by simp [h])]

theorem floorTest_of_isPlaying {s : State} (h : s.agenda.isPlaying = true) : s.floorTest = s := by
  unfold floorTest
  split
  · split
    next e he => exact absurd he (answer_of_isPlaying h _ _)
    · rfl
    · rfl
  · rfl

theorem selectOwner_isPlaying (s : State) :
    s.selectOwner.agenda.isPlaying = s.agenda.isPlaying :=
  Agenda.isPlaying_of_bare_eq (by simp)

/-- While an entry is PLAYING the tests select the owner and test the idle timer, and start nothing. -/
theorem followUp_of_isPlaying {s : State} (h : s.agenda.isPlaying = true) :
    s.followUp = s.selectOwner.idleTest := by
  rw [followUp, localStart_of_isPlaying (by rwa [selectOwner_isPlaying]),
    floorTest_of_isPlaying (by rwa [selectOwner_isPlaying])]

theorem followUp_bare_of_isPlaying {s : State} (h : s.agenda.isPlaying = true) :
    s.followUp.agenda.bare = s.agenda.bare := by
  simp [followUp_of_isPlaying h]

/-! ### The display stream (08 R138, R139) -/

theorem drawSoFar_stream (s : State) (snap : Snapshot) (drawn : Drawn) :
    (s.drawSoFar snap drawn).display.blinkOn = s.display.blinkOn ∧
      (s.drawSoFar snap drawn).display.frameCount = s.display.frameCount ∧
      (s.drawSoFar snap drawn).display.front = s.display.front ∧
      (s.drawSoFar snap drawn).display.recompose = s.display.recompose ∧
      (s.drawSoFar snap drawn).display.compose = s.display.compose := by
  unfold drawSoFar
  dsimp only
  split <;> simp

@[simp] theorem advanceCompose_stream (s : State) :
    s.advanceCompose.display.blinkOn = s.display.blinkOn ∧
      s.advanceCompose.display.frameCount = s.display.frameCount ∧
      s.advanceCompose.display.front = s.display.front ∧
      s.advanceCompose.display.recompose = s.display.recompose ∧
      s.advanceCompose.display.compose = s.display.compose := by
  unfold advanceCompose
  (repeat' split) <;> simp [drawSoFar_stream]

@[simp] theorem startCompose_stream (s : State) :
    s.startCompose.display.blinkOn = s.display.blinkOn ∧
      s.startCompose.display.frameCount = s.display.frameCount ∧
      s.startCompose.display.front = s.display.front ∧
      s.startCompose.display.recompose = s.display.recompose ∧
      s.startCompose.display.compose = .composing s.snapshot [] := by
  have hsnap : (s.dropReads isComposeRead).snapshot = s.snapshot := by simp [snapshot]
  simp [startCompose, hsnap]

@[simp] theorem cause_stream (s : State) :
    s.cause.display.blinkOn = s.display.blinkOn ∧
      s.cause.display.frameCount = s.display.frameCount ∧
      s.cause.display.front = s.display.front := by
  unfold cause
  (repeat' split) <;> simp

@[simp] theorem selectOwner_stream (s : State) :
    s.selectOwner.display.blinkOn = s.display.blinkOn ∧
      s.selectOwner.display.frameCount = s.display.frameCount ∧
      s.selectOwner.display.front = s.display.front := by
  unfold selectOwner
  split <;> simp

@[simp] theorem bindingCause_stream (s : State) (ticket : Nat) :
    (s.bindingCause ticket).display.blinkOn = s.display.blinkOn ∧
      (s.bindingCause ticket).display.frameCount = s.display.frameCount ∧
      (s.bindingCause ticket).display.front = s.display.front := by
  unfold bindingCause
  split <;> simp

@[simp] theorem startPlay_stream (s : State) (e : Entry) (route : Route) :
    (s.startPlay e route).display.blinkOn = s.display.blinkOn ∧
      (s.startPlay e route).display.frameCount = s.display.frameCount ∧
      (s.startPlay e route).display.front = s.display.front := by
  unfold startPlay
  dsimp only
  split <;> simp

@[simp] theorem localStart_stream (s : State) :
    s.localStart.display.blinkOn = s.display.blinkOn ∧
      s.localStart.display.frameCount = s.display.frameCount ∧
      s.localStart.display.front = s.display.front := by
  obtain h | ⟨e, route, -, -, -, -, -, -, h⟩ := s.localStart_cases <;> rw [h] <;> simp

@[simp] theorem floorTest_stream (s : State) :
    s.floorTest.display.blinkOn = s.display.blinkOn ∧
      s.floorTest.display.frameCount = s.display.frameCount ∧
      s.floorTest.display.front = s.display.front := by
  unfold floorTest
  (repeat' split) <;> simp [isolatedStart, requestEstimate]

/-- The tests after an event leave the stream and the front buffer as they are. -/
@[simp] theorem followUp_stream (s : State) :
    s.followUp.display.blinkOn = s.display.blinkOn ∧
      s.followUp.display.frameCount = s.display.frameCount ∧
      s.followUp.display.front = s.display.front := by
  simp [followUp]

/-- The stream starts with the blink phase ON (11 R181). -/
@[simp] theorem enterActive_stream (s : State) :
    s.enterActive.display.blinkOn = true ∧ s.enterActive.display.frameCount = 0 := by
  simp [enterActive]

/-! ### Outside ACTIVE nothing composes (08 R152) -/

theorem cause_of_part {s : State} (h : s.rest.part ≠ .active) : s.cause = s := if_neg h

theorem selectOwner_of_part {s : State} (h : s.rest.part ≠ .active) :
    s.selectOwner = s.setAgenda { s.agenda with owner := s.agenda.chooseOwner } := by
  unfold selectOwner
  split
  next howner => rw [howner]; rfl
  · exact cause_of_part h

/-! ### STANDBY (11 R183) -/

/-- The floor context at STANDBY entry (04 R90). -/
theorem floorEmptied_eq {s : State} (h : s.floor.ctx.isHolding = false) :
    s.floorEmptied = s.setCtx .idle := by
  unfold floorEmptied
  split
  next hctx => simp [hctx, FloorCtx.isHolding] at h
  next hctx => rw [setCtx, ← hctx]; rfl
  all_goals rfl

theorem floorEmptied_of_holding {s : State} (h : s.floor.ctx.isHolding = true) :
    s.floorEmptied = s := by
  unfold floorEmptied
  split <;> simp_all [FloorCtx.isHolding]

/-- The idle timer runs with no user at the machine (11 R182). -/
theorem idleHolds_iff (s : State) : s.idleHolds = true ↔ s.rest.part = .active ∧
    s.agenda.entries = [] ∧ (s.panel.presence = .absent ∨ s.settings.lineOf .presence = none) := by
  simp [idleHolds, and_assoc]

/-- What STANDBY entry leaves (11 R183). -/
theorem enterStandby_effect (s : State) :
    s.enterStandby.rest = { s.rest with part := .standby, idleTimer := none } ∧
      s.enterStandby.events = (s.offer .standbyOn).events ∧
      s.enterStandby.display.front = s.display.front ∧ s.enterStandby.display.compose = .idle ∧
      s.enterStandby.renderer = { s.renderer with enable := false, dropTimer := none } ∧
      (s.floor.ctx.isHolding = false → s.enterStandby.floor = { s.floor with ctx := .idle }) ∧
      (s.floor.ctx.isHolding = true → s.enterStandby.floor = s.floor) := by
  have hevents : ((s.setRest { s.rest with part := .standby, idleTimer := none }).offer
      .standbyOn).events = (s.offer .standbyOn).events := offer_events_congr _ rfl
  refine ⟨by simp [enterStandby], by simp [enterStandby, hevents], by simp [enterStandby, abortCompose],
    by simp [enterStandby, abortCompose], by simp [enterStandby], fun h => ?_, fun h => ?_⟩
  · simp only [enterStandby]
    rw [floorEmptied_eq (by simpa using h)]
    simp [setCtx]
  · simp only [enterStandby]
    rw [floorEmptied_of_holding (by simpa using h)]
    simp

end State

/-- Settles O39: STANDBY entry, the refusals, and the return. -/
theorem standbyIsEnteredAndLeft : Obligations.StandbyIsEnteredAndLeft := by
  intro s
  refine ⟨fun command result hcommand hpart hentries => ?_, fun h hpart hentries => ?_,
    fun h hpart => ?_, fun h hpart => ?_⟩
  · obtain ⟨hrest, hevents, hfront, hcompose, hrenderer, hfree, hheld⟩ := s.enterStandby_effect
    obtain ⟨rfl, hasks, rfl⟩ | ⟨rfl, htimer, huser, rfl⟩ := hcommand
    · refine ⟨s.enterStandby.respond .ok [], ?_, ?_⟩
      · refine (exec_of_runs (State.runs_of_set hasks (by simp [hpart]) (by decide))).trans ?_
        simp [State.requestEffect, State.restStandbyEffect, hpart, hentries]
      · exact ⟨by simp [State.respond, State.answered], hrest, hevents, hfront, hcompose, hrenderer,
          hfree, hheld, by simp [State.changedIn_iff]⟩
    · refine ⟨s.enterStandby, ?_, ?_⟩
      · have hidle : s.idleHolds = true := s.idleHolds_iff.mpr ⟨hpart, hentries, huser⟩
        rw [exec_idleTimerExpiry, State.idleExpired, if_pos ⟨hpart, hidle, htimer⟩]
      · exact ⟨by simp, hrest, hevents, hfront, hcompose, hrenderer, hfree, hheld,
          by simp [State.changedIn_iff]⟩
  · refine (exec_of_runs (State.runs_of_set h (by simp [hpart]) (by decide))).trans ?_
    simp [State.requestEffect, State.restStandbyEffect, hpart, hentries, State.respond_eq]
  · refine (exec_of_runs (State.runs_of_set h (by simp [hpart]) (by decide))).trans ?_
    simp [State.requestEffect, State.restStandbyEffect, hpart, State.respond_eq]
  · have hunset : s.rest.part ≠ .unset := by
      obtain hpart | hpart := hpart <;> simp [hpart]
    refine ⟨_, exec_of_runs (State.runs_of_set h hunset (by decide)), ?_⟩
    simp only [State.requestEffect, State.restActiveEffect]
    refine ⟨by simp [State.respond, State.answered], ?_, by simp,
      by simp [State.changedIn_iff, Block.followUp], fun hstandby => ⟨?_, ?_, ?_⟩⟩
    · obtain hpart | hpart := hpart <;> simp [hpart, PartState.returned]
    · simp [State.returnActive, hstandby, EventQueue.grewFrom_refl]
    · simp [State.returnActive, hstandby]
    · simp [State.returnActive, hstandby]

/-! ### SETTLING (11 R185) -/

namespace State

/-- What SETTLING entry leaves of the agenda and the queue (01 R24). -/
theorem retireRested_effect {s : State} (h : s.rest.part ≠ .active) :
    s.retireRested.agenda.entries = [] ∧
      s.retireRested.events = (s.offerAll (s.agenda.entries.flatMap Entry.restedRecords)).events ∧
      s.retireRested.display = s.display := by
  rw [retireRested, selectOwner_of_part (by simpa using h)]
  simp

/-- The frame of a slot is removed; the others stand (03 R60). -/
theorem removeFrame_slotAt (s : State) (name other : SlotName) :
    (s.removeFrame name).slotAt other = if other = name then Slot.empty else s.slotAt other := by
  unfold removeFrame
  cases name <;> cases other <;> (dsimp only; split <;> rfl)

/-- The floor unit is IDLE at SETTLING entry (04 R90). -/
theorem floorRested_floor (s : State) : s.floorRested.floor = { s.floor with ctx := .idle } := by
  unfold floorRested
  split
  · split <;> simp [setCtx]
  next hctx => rw [← hctx]
  all_goals rfl

theorem floorRested_of_quiet {s : State} (h : s.floor.ctx.isHolding = false) :
    s.floorRested.line = s.line := by
  unfold floorRested
  split
  next hctx => simp [hctx, FloorCtx.isHolding] at h
  all_goals rfl

/-- A hold that peers may know of leaves a DONE (04 R90). -/
theorem floorRested_of_holding {s : State} {bid : Bid} {hold : Hold}
    (h : s.floor.ctx = .holding bid hold) : s.floorRested.line.doneSlot =
      if s.floor.isolated = true ∧ hold.announced = false then s.line.doneSlot
      else queuedTo s.line.doneSlot (decide (s.line.onLine = some .done)) .done := by
  simp only [floorRested, h]
  split
  · rfl
  · rw [queueFrame, if_neg (by simp), slotQueued_eq]
    rfl

/-- The slots at SETTLING entry: the DONE slot alone keeps its frames (03 R63, 11 R185). -/
theorem enterSettling_line (s : State) :
    s.enterSettling.line.talkSlot = Slot.empty ∧ s.enterSettling.line.beaconSlot = Slot.empty ∧
      s.enterSettling.line.doneSlot = (s.setRest { s.rest with
        part := .settling, idleTimer := none,
        settlingLimit := some Config.settlingLimit }).retireRested.floorRested.line.doneSlot := by
  have hslots (u : State) (name : SlotName) :
      ((u.removeFrame .talk).removeFrame .beacon).slotAt name =
        if name = .beacon then Slot.empty else if name = .talk then Slot.empty else u.slotAt name := by
    rw [removeFrame_slotAt, removeFrame_slotAt]
  refine ⟨?_, ?_, ?_⟩
  · simpa [enterSettling, slotAt] using hslots _ .talk
  · simpa [enterSettling, slotAt] using hslots _ .beacon
  · simpa [enterSettling, slotAt] using hslots _ .done

/-- A play on the renderer fades once it is asked to (06 R119). -/
theorem fadePlay_phase {s : State} (h : s.renderer.play ≠ none) : s.fadePlay.renderer.phase = .fade := by
  obtain ⟨p, hp⟩ := Option.ne_none_iff_exists'.mp h
  simp only [fadePlay, hp]
  split
  next hphase => exact hphase
  · simp

/-- What SETTLING entry leaves of the rest (11 R185, 01 R24). -/
theorem enterSettling_effect (s : State) :
    s.enterSettling.rest = { s.rest with
        part := .settling, idleTimer := none, settlingLimit := some 2000 } ∧
      s.enterSettling.agenda.entries = [] ∧
      s.enterSettling.events = (s.offerAll (s.agenda.entries.flatMap Entry.restedRecords)).events ∧
      s.enterSettling.floor = { s.floor with ctx := .idle } ∧
      s.enterSettling.roster = { s.roster with beaconTimer := none } ∧
      (s.renderer.play ≠ none → s.enterSettling.renderer.phase = .fade) ∧
      s.enterSettling.display.compose = .idle := by
  obtain ⟨hentries, hevents, -⟩ := retireRested_effect (s := s.setRest { s.rest with
    part := .settling, idleTimer := none, settlingLimit := some Config.settlingLimit }) (by simp)
  have hrecords := hevents.trans (offerAll_events_congr _ (t := s) rfl)
  refine ⟨by simp [enterSettling], by simpa [enterSettling] using hentries,
    by simpa [enterSettling] using hrecords, by simp [enterSettling, floorRested_floor],
    by simp [enterSettling], fun h => ?_, by simp [enterSettling, abortCompose]⟩
  simp only [enterSettling, abortCompose_keeps]
  exact fadePlay_phase (by simpa using h)

end State

/-- Settles O40: SETTLING entry block by block. -/
theorem restDormantSettles : Obligations.RestDormantSettles := by
  intro s h hpart
  have hunset : s.rest.part ≠ .unset := by
    obtain hpart | hpart := hpart <;> simp [hpart]
  obtain ⟨hrest, hentries, hevents, hfloor, hroster, hfade, hcompose⟩ := s.enterSettling_effect
  obtain ⟨htalk, hbeacon, hdone⟩ := s.enterSettling_line
  refine ⟨s.enterSettling.respond .ok [], exec_of_runs (State.runs_of_set h hunset (by decide)),
    by simp [State.respond, State.answered], hrest, hentries, by simp, by simp, hevents, hfloor,
    htalk, hbeacon, fun bid hold hctx hknown => ?_, fun bid hold hctx hisolated hsilent => ?_,
    fun hquiet => ?_, hroster, hfade, hcompose, by simp [State.changedIn_iff]⟩
  · rw [State.respond_eq, State.setHost_line, hdone, State.floorRested_of_holding (by simpa using hctx), if_neg ?_]
    · simp
    · obtain h | h := hknown <;> simp [h]
  · rw [State.respond_eq, State.setHost_line, hdone, State.floorRested_of_holding (by simpa using hctx), if_pos (by simp [hisolated, hsilent])]
    simp
  · rw [State.respond_eq, State.setHost_line, hdone, State.floorRested_of_quiet (by simpa using hquiet)]
    simp

/-! ### The session (09 R161 to R163) -/

/-- At a closed gate a READY entry of a gated class without the replay flag waits again (02 R39). -/
theorem Entry.gateTest_absent (e : Entry) : e.gateTest .absent =
    if e.state = .ready ∧ e.replay = false ∧
        (e.post.cls = .step ∨ e.post.cls = .hint ∨ e.post.cls = .idle) then
      ({ e with state := .waiting, wait := 0 } : Entry)
    else e := by
  have hgate : gateOpen .absent e.post.cls = false ↔
      e.post.cls = .step ∨ e.post.cls = .hint ∨ e.post.cls = .idle := by
    cases e.post.cls <;> decide
  unfold Entry.gateTest
  refine if_congr ?_ rfl rfl
  rw [hgate]
  tauto

/-- No entry stops PLAYING at a closed gate. -/
theorem State.closeGate_isPlaying (s : State) :
    s.closeGate.agenda.isPlaying = s.agenda.isPlaying := by
  have hstate (e : Entry) : ((e.gateTest s.panel.presence).state == .playing) = (e.state == .playing) := by
    unfold Entry.gateTest
    split
    next h => simp [h.1]
    · rfl
  simp [Agenda.isPlaying_eq_bare, State.closeGate_bare, List.any_map, Function.comp_def, hstate]

/-- Settles O41: the session reset, and the gate that closes. -/
theorem sessionsEnd : Obligations.SessionsEnd := by
  refine ⟨fun s command result h => ?_, fun s hhold hpresent => ?_⟩
  · have hended : s.sessionReset.sessionStopped.panel = { s.panel with
        language := min s.settings.defaultLanguage (s.flash.store.languages - 1),
        sessionTimer := none } := by
      simp [State.sessionStopped, State.sessionReset_panel]
    obtain ⟨rfl, hasks, hpart, rfl⟩ | ⟨rfl, htimer, rfl⟩ := h
    · exact ⟨s.sessionReset.sessionStopped.respond .ok [],
        exec_of_runs (State.runs_of_set hasks hpart (by decide)),
        by simp [State.respond, State.answered], hended, by simp, by simp [State.changedIn_iff]⟩
    · exact ⟨s.sessionReset.sessionStopped,
        by rw [exec_sessionTimeout, State.sessionTimedOut, if_pos htimer],
        by simp, hended, by simp, by simp [State.changedIn_iff]⟩
  · refine ⟨_, exec_presenceHoldExpiry s, ?_⟩
    rw [State.presenceHoldExpired, if_pos ⟨hhold, hpresent⟩]
    refine ⟨by simp, by simp, by simp [State.changedIn_iff, Block.followUp], fun line hline => ?_,
      fun hplaying => ?_⟩
    · have hoffer := State.offer_events_congr (t := s) (s := s.setPanel { s.panel with
        presence := .absent, holdTimer := none, sessionTimer := some 0 }) (.presence line false) rfl
      simp [hline, ← hoffer, EventQueue.grewFrom_refl]
    · rw [Agenda.credits_eq_bare, State.followUp_bare_of_isPlaying (by
        rw [State.closeGate_isPlaying]; simpa using hplaying), State.closeGate_bare, List.map_map,
        List.map_map]
      simp only [Agenda.bare, State.offer_keeps, State.setPanel_agenda, List.map_map]
      refine List.map_congr_left fun e _ => ?_
      simp only [Function.comp_apply, State.setPanel_panel, ← e.gateTest_absent,
        ← e.gateTest_bare, Entry.bare_credit]

end Sys2Proof.Machine

/-! ## The items of a play (O42, O43)

A play moves from item to item: what sounds next is what the lookup has found (06 R113, R115). -/

namespace Sys2Proof.Machine

namespace State

/-! ### The tail and the lookup (06 R113, R115) -/

/-- The tail begins with 10 ms (06 R113). -/
@[simp] theorem enterTail_renderer (s : State) :
    s.enterTail.renderer = { s.renderer with phase := .tail, timer := 80 } := by
  simp [enterTail]

theorem lookupDone_renderer {s : State} (h : s.renderer.phase ≠ .gap) (p : Play)
    (found : Option (Nat × List Span)) :
    (s.lookupDone p found).renderer.phase = s.renderer.phase ∧
      (s.lookupDone p found).renderer.timer = s.renderer.timer ∧
      (s.lookupDone p found).renderer.play.map (·.index) = some p.index := by
  unfold lookupDone
  cases found <;> simp [h]

theorem advanceLookup_renderer {s : State} {p : Play} (h : s.renderer.phase ≠ .gap)
    (hplay : s.renderer.play = some p) : s.advanceLookup.renderer.phase = s.renderer.phase ∧
      s.advanceLookup.renderer.timer = s.renderer.timer ∧
      s.advanceLookup.renderer.play.map (·.index) = some p.index := by
  simp only [advanceLookup, hplay]
  split
  · simp [hplay]
  · simp [hplay]
  split
  · simp [hplay]
  next result _ =>
    obtain ⟨hphase, htimer, hindex⟩ := lookupDone_renderer
      (s := s.reportMissing p.ticket result.missing) (by simpa using h) p result.found
    exact ⟨by simpa using hphase, by simpa using htimer, hindex⟩

/-- A lookup that starts outside the gap leaves the phase and the timer (06 R115). -/
theorem startLookup_renderer {s : State} (h : s.renderer.phase ≠ .gap) (p : Play) (index : Nat) :
    (s.startLookup p index).renderer.phase = s.renderer.phase ∧
      (s.startLookup p index).renderer.timer = s.renderer.timer ∧
      (s.startLookup p index).renderer.play.map (·.index) = some p.index :=
  advanceLookup_renderer (s := s.setRenderer { s.renderer with play := some { p with
    ahead := .looking index s.panel.language [] } }) (p := { p with
      ahead := .looking index s.panel.language [] }) h rfl

/-- A lookup past the last item ends at once, and a gap that no item follows is the tail (06 R113). -/
theorem startLookup_of_noItem {s : State} (h : s.renderer.phase = .gap) {p : Play} {index : Nat}
    (hindex : p.items.length ≤ index) :
    (s.startLookup p index).renderer.phase = .tail ∧ (s.startLookup p index).renderer.timer = 80 := by
  have hdone : ((lookupProgram s.flash.store { p with ahead := .looking index s.panel.language [] }
      index s.panel.language).resume []) = .done { missing := none, found := none } := by
    simp [lookupProgram, List.drop_eq_nil_of_le hindex, fetchItem, Fetch.resume]
  simp [startLookup, advanceLookup, hdone, reportMissing, lookupDone, h]

/-- A lookup of a PHRASE item waits for the record of its phrase (06 R110). -/
theorem startLookup_of_phrase {s : State} {d : Directory} {p : Play} {index n : Nat}
    (hstore : s.flash.store = .usable d) (hroute : p.route = .floor)
    (hitem : p.items[index]? = some (.phrase n)) (hcount : n < (d.slot s.panel.language).phrases)
    (hsize : (d.slot s.panel.language).table + 5 * n + 5 ≤ d.size) :
    s.startLookup p index = s.setRenderer { s.renderer with play := some { p with
      ahead := .looking index s.panel.language [] } } := by
  obtain ⟨next, hprogram⟩ := lookupProgram_phrase
    (p := { p with ahead := .looking index s.panel.language [] }) hroute hitem hcount hsize
  simp [startLookup, advanceLookup, hstore, hprogram, Fetch.resume, reportMissing]

/-! ### An item begins (06 R112) -/

theorem beginItem_of_speech {s : State} {p : Play} {index : Nat} {item : Item}
    (hitem : p.items[index]? = some item) (hkind : item.kind = .speech) :
    s.beginItem p index = s.setRenderer { s.renderer with
      phase := .item, play := some { p with index := index } } := by
  simp only [beginItem, hitem]
  cases item <;> simp [Item.kind] at hkind ⊢

/-- An item that is there is the current one, and sounds (06 R113). -/
theorem beginItem_renderer {s : State} {p : Play} {index : Nat} {item : Item}
    (hitem : p.items[index]? = some item) :
    (s.beginItem p index).renderer.phase = .item ∧
      (s.beginItem p index).renderer.play.map (·.index) = some index := by
  have hspeech (hkind : item.kind = .speech) :
      (s.beginItem p index).renderer.phase = .item ∧
        (s.beginItem p index).renderer.play.map (·.index) = some index := by
    rw [beginItem_of_speech hitem hkind]
    simp
  cases item with
  | tone n => simp [beginItem, hitem]
  | pause n =>
    simp only [beginItem, hitem]
    obtain ⟨hphase, -, hplay⟩ := startLookup_renderer (s := (s.setRenderer { s.renderer with
      phase := .item, play := some { p with index := index } }).setRenderer { s.renderer with
        phase := .item, play := some { p with index := index }, timer := 800 * n }) (by simp)
      { p with index := index } (index + 1)
    exact ⟨by simpa using hphase, by simpa using hplay⟩
  | phrase n => exact hspeech rfl
  | number n => exact hspeech rfl
  | minutes => exact hspeech rfl
  | refer kind => exact hspeech rfl

/-! ### The lead and the gap run out (06 R111, R113) -/

/-- The phase and its expiry: LEAD_EXPIRY and GAP_EXPIRY do the same in theirs. -/
theorem exec_leadOrGap {s : State} {p : Play} {command : Instr}
    (h : command = .leadExpiry ∧ s.renderer.phase = .lead ∨
      command = .gapExpiry ∧ s.renderer.phase = .gap)
    (hplay : s.renderer.play = some p) (htimer : s.renderer.timer = 0) :
    (p.ahead = .exhausted → exec command s = .next s.enterTail) ∧
      ∀ index, p.ahead = .sounds index → exec command s = .next (s.beginItem p index) := by
  obtain ⟨rfl, hphase⟩ | ⟨rfl, hphase⟩ := h
  · rw [exec_leadExpiry]
    refine ⟨fun hahead => ?_, fun index hahead => ?_⟩ <;>
      simp [leadExpired, playIn, hphase, hplay, htimer, hahead]
  · rw [exec_gapExpiry]
    refine ⟨fun hahead => ?_, fun index hahead => ?_⟩ <;>
      simp [gapExpired, playIn, hphase, hplay, htimer, hahead]

end State

/-- Settles O42: the tail, or the item that the lookup found. -/
theorem itemsFollowLeadAndGap : Obligations.ItemsFollowLeadAndGap := by
  intro s p command hcommand hplay htimer
  obtain ⟨htail, hnext⟩ := State.exec_leadOrGap hcommand hplay htimer
  refine ⟨fun hahead => ⟨_, htail hahead, by simp [State.changedIn_iff], by simp⟩,
    fun index hahead => ⟨fun item hitem hkind => ?_, fun n hitem => ?_, fun n hitem => ?_⟩⟩
  · rw [hnext index hahead, State.beginItem_of_speech hitem hkind]
  · rw [hnext index hahead, State.beginItem, hitem]
    rfl
  · refine ⟨_, hnext index hahead, by simp [State.changedIn_iff, State.beginItem, hitem], by simp, ?_⟩
    obtain ⟨hphase, hindex⟩ := s.beginItem_renderer hitem
    refine ⟨hphase, ?_, hindex⟩
    simp only [State.beginItem, hitem]
    rw [(State.startLookup_renderer (by simp) _ _).2.1]
    simp

/-! ### An item ends (06 R113, R118) -/

namespace State

/-- The command of an item that has sounded to its end ends it. -/
theorem exec_itemOver {s : State} {p : Play} {item : Item} {command : Instr}
    (hphase : s.renderer.phase = .item) (hplay : s.renderer.play = some p)
    (hitem : p.items[p.index]? = some item)
    (h : command = .itemEnd ∧ item.kind = .speech ∧ streamLength p.stream ≤ p.played ∨
      command = .patternEnd ∧ item.kind = .tone ∧ (∃ c, s.level.tone = some c ∧ c.value = none) ∨
      command = .pauseExpiry ∧ item.kind = .pause ∧ s.renderer.timer = 0 ∧ p.isLooking = false) :
    exec command s = .next ((s.setLevel { s.level with tone := none }).endItem p item.kind) := by
  have hended (kind : ItemKind) (hkind : item.kind = kind) (hover : s.itemOver p kind = true) :
      s.itemEnded kind = (s.setLevel { s.level with tone := none }).endItem p item.kind := by
    simp [itemEnded, playIn, hphase, hplay, hover, hkind]
  have hcurrent : p.current = some item := hitem
  obtain ⟨rfl, hkind, hplayed⟩ | ⟨rfl, hkind, c, htone, hvalue⟩ | ⟨rfl, hkind, htimer, hfound⟩ := h
  · rw [exec_itemEnd, speechItemEnded, hended _ hkind (by simp [itemOver, hcurrent, hkind, hplayed])]
  · rw [exec_patternEnd, patternEnded, hended _ hkind (by simp [itemOver, hcurrent, hkind, htone, hvalue])]
  · rw [exec_pauseExpiry, pauseExpired,
      hended _ hkind (by simp [itemOver, hcurrent, hkind, htimer, hfound])]

theorem endItem_of_cut {s : State} {p : Play} (h : p.stop = .cut) (kind : ItemKind) :
    s.endItem p kind =
      (s.setRenderer { s.renderer with play := some { p with lastPlayed := some kind } }).enterTail := by
  simp [endItem, h]

theorem endItem_of_sound {s : State} {p : Play} (h : p.stop ≠ .cut) {kind : ItemKind}
    (hkind : kind ≠ .pause) : s.endItem p kind =
      (s.setRenderer { s.renderer with play := some { p with lastPlayed := some kind } }).enterGap
        { p with lastPlayed := some kind } := by
  cases kind <;> simp_all [endItem]

end State

/-- Settles O43: the tail, the item after a PAUSE, or a gap and the next lookup. -/
theorem itemsEndInAGapOrTheTail : Obligations.ItemsEndInAGapOrTheTail := by
  intro s p item command hphase hplay hitem hcommand
  refine ⟨_, State.exec_itemOver hphase hplay hitem hcommand, by simp, by simp [State.changedIn_iff],
    fun hkind => ?_, fun hcut => ?_, fun hcut hkind hahead => ?_,
    fun index next hcut hkind hahead hnext => ?_, fun hcut hkind hlast => ?_,
    fun d n hcut hkind hstore hroute hnext hcount hsize => ?_⟩
  · by_cases hcut : p.stop = .cut
    · simp [State.endItem_of_cut hcut]
    · simp [State.endItem_of_sound hcut hkind, State.enterGap]
  · simp [State.endItem_of_cut hcut]
  · simp [State.endItem, hcut, hkind, hahead]
  · simp only [State.endItem, if_neg hcut, hkind, hahead]
    exact State.beginItem_renderer hnext
  · rw [State.endItem_of_sound hcut hkind, State.enterGap]
    exact State.startLookup_of_noItem (by simp) hlast
  · rw [State.endItem_of_sound hcut hkind, State.enterGap,
      State.startLookup_of_phrase (d := d) (p := { p with lastPlayed := some item.kind }) 
        (by simpa using hstore) hroute hnext (by simpa using hcount) (by simpa using hsize)]
    simp

end Sys2Proof.Machine

/-! ## One sample period (O45) and the end of a flash read (O27) -/

namespace Sys2Proof.Machine

/-! ### The codes (07 R131 to R133, 06 R119) -/

/-- The multiplier of a remainder, as the list of 07 7.4. -/
theorem gainMultiplier_eq {r : Nat} (h : r < 6) :
    gainMultiplier r = ([256, 228, 203, 181, 161, 144] : List Int).getD r 0 := by
  match r, h with
  | 0, _ => rfl
  | 1, _ => rfl
  | 2, _ => rfl
  | 3, _ => rfl
  | 4, _ => rfl
  | 5, _ => rfl

theorem dacCode_eq (gain : Nat) (v : Int) : dacCode gain v =
    (max 0 (min 4095 (2048 + v * ([256, 228, 203, 181, 161, 144] : List Int).getD
      ((63 - gain) % 6) 0 / 256 / 2 ^ ((63 - gain) / 6)))).toNat := by
  simp only [dacCode, gainMultiplier_eq (Nat.mod_lt (63 - gain) (by decide : 0 < 6)), Nat.cast_pow,
    Nat.cast_ofNat]

/-- The ramp's output with `n` periods left (06 R119). -/
theorem fadeCode_eq {d n : Nat} (hlow : 1 ≤ n) (hhigh : n ≤ 160) :
    (fadeCode d (160 - (n - 1)) : Int) = 2048 + (((d : Int) - 2048) * ((n : Int) - 1)).tdiv 160 := by
  have hleft : (160 : Int) - ((160 - (n - 1) : Nat) : Int) = (n : Int) - 1 := by omega
  have hbound : -(2048 * 160 : Int) ≤ ((d : Int) - 2048) * ((n : Int) - 1) := by nlinarith
  have htdiv : (-2048 : Int) ≤ (((d : Int) - 2048) * ((n : Int) - 1)).tdiv 160 := by
    rw [Int.tdiv_eq_ediv]
    have hsign : Int.sign 160 = 1 := rfl
    split <;> omega
  rw [fadeCode, hleft, Int.toNat_of_nonneg (by omega)]

namespace State

/-! ### One sample period (07 R124, R125) -/

/-- With the core clock running, in a window that is not full. -/
theorem sampleTaken_eq {s : State} (hclock : s.clocked = true) (hcount : s.level.count < 4000)
    (adc : BitVec 8) :
    s.sampleTaken adc = (s.setLevel (s.levelStepped adc)).setRenderer s.rendererStepped := by
  have hwindow : s.windowEnded = s := if_neg (Nat.ne_of_lt hcount)
  rw [sampleTaken, if_pos hclock, hwindow]

theorem dacNow_of_silence {s : State} (h : s.renderer.enable = false ∨ s.renderer.phase = .idle ∨
    s.renderer.phase = .lead ∨ s.renderer.phase = .gap ∨ s.renderer.phase = .tail) :
    s.dacNow = 2048 := by
  obtain h | h | h | h | h := h <;> simp [dacNow, sounding, h]

theorem dacNow_of_fade {s : State} {p : Play} (hplay : s.renderer.play = some p)
    (henable : s.renderer.enable = true) (hphase : s.renderer.phase = .fade) :
    s.dacNow = fadeCode p.fadeFrom (160 - (s.renderer.timer - 1)) := by
  simp [dacNow, sounding, henable, hphase, hplay]

theorem dacNow_of_item {s : State} {p : Play} (hplay : s.renderer.play = some p)
    (henable : s.renderer.enable = true) (hphase : s.renderer.phase = .item) :
    s.dacNow = (s.itemValue p).elim 2048 (dacCode s.level.gain) := by
  simp only [dacNow, sounding, henable, if_true, hphase, hplay]
  cases s.itemValue p <;> rfl

/-- The kind of the current item. -/
theorem current_kind {p : Play} {item : Item} (hitem : p.items[p.index]? = some item) :
    p.current.map Item.kind = some item.kind := by
  simp [Play.current, hitem]

theorem timerRuns_of_phase {s : State} (h : s.renderer.phase = .lead ∨ s.renderer.phase = .gap ∨
    s.renderer.phase = .tail ∨ s.renderer.phase = .fade) : s.timerRuns = true := by
  obtain h | h | h | h := h <;> simp [timerRuns, h]

end State

/-- Settles O45: the window's counts, the DAC's code and the renderer's timers. -/
theorem samplePeriodPlaysAndListens : Obligations.SamplePeriodPlaysAndListens := by
  intro s adc
  refine ⟨fun h => by simp [exec_samplePeriod, State.sampleTaken, h], fun hclock hcount => ?_⟩
  intro code
  have hcode : code = dacCode s.level.gain := funext fun v => (dacCode_eq _ v).symm
  refine ⟨_, exec_samplePeriod s adc, ?_⟩
  rw [State.sampleTaken_eq hclock hcount, hcode]
  refine ⟨by simp [State.changedIn_iff], by simp [State.levelStepped, State.sounding],
    by simp [State.rendererStepped], by simp [State.rendererStepped],
    by simp [State.rendererStepped, countDown], fun hphase => ?_, fun hsilent => ?_,
    fun p hplay henable => ⟨fun hphase hlow hhigh _ => ?_, fun item hphase hitem =>
      ⟨fun hkind hplayed => ?_, fun hkind => ?_, fun c seg hkind htone hseg => ?_⟩⟩⟩
  · simp [State.rendererStepped, State.timerRuns_of_phase hphase]
  · simp [State.levelStepped, State.dacNow_of_silence hsilent]
  · simp only [State.setRenderer_level, State.setLevel_level, State.levelStepped]
    rw [State.dacNow_of_fade hplay henable hphase]
    exact fadeCode_eq hlow hhigh
  all_goals have hcurrent := State.current_kind hitem
  · have hvalue : s.itemValue p =
        some ((s.flash.buffer.getD (p.played % 256) 0).toInt * 16) := by
      simp [State.itemValue, hcurrent, hkind, State.nextSample, hplayed]
    refine ⟨?_, ?_⟩
    · simp [State.levelStepped, State.dacNow_of_item hplay henable hphase, hvalue]
    · simp [State.rendererStepped, State.playStepped, hplay, hphase, hcurrent, hkind, hplayed]
  · have hvalue : s.itemValue p = none := by simp [State.itemValue, hcurrent, hkind]
    refine ⟨?_, ?_⟩
    · simp [State.levelStepped, State.dacNow_of_item hplay henable hphase, hvalue]
    · have hruns : s.timerRuns = true := by
        simp [State.timerRuns, hphase, hplay, Play.current, hitem, hkind]
      simp [State.rendererStepped, hruns]
  · have hvalue : s.itemValue p = some (toneValue seg.period c.sample) := by
      simp [State.itemValue, hcurrent, hkind, htone, ToneCtx.value, hseg]
    refine ⟨?_, ?_⟩
    · simp [State.levelStepped, State.dacNow_of_item hplay henable hphase, hvalue, toneValue]
    · simp [State.levelStepped, htone, ToneCtx.advance, hseg]

/-! ### FLASH_READ_DONE (06 R105, R107, R110) -/

/-- The bytes and the clock periods of a read (06 R105). -/
theorem PortRead.clocks_eq (r : PortRead) : r.clocks = 32 + 8 * r.len := by
  simp only [PortRead.clocks, PortRead.sent, List.length_cons, List.length_nil]
  omega

/-- A lookup that has found a phrase missing keeps it, at its end and at a read it needs. -/
def Fetch.Keeps (n : Nat) (program : Fetch LookupNote LookupResult) : Prop :=
  (∃ addr len, program.resume [] = .needs (some n) addr len) ∨
    ∃ found, program.resume [] = .done { missing := some n, found := found }

theorem fetchSpans_keeps (d : Directory) (language n : Nat)
    {next : LookupNote → List Span → Fetch LookupNote LookupResult}
    (hnext : ∀ spans, (next (some n) spans).Keeps n) (ps : List Nat) :
    ∀ spans, (fetchSpans d language ps (some n) spans next).Keeps n := by
  induction ps with
  | nil => exact hnext
  | cons p ps ih =>
    intro spans
    unfold fetchSpans fetchPhrase
    dsimp only
    split
    · exact ih spans
    · exact .inl ⟨_, _, rfl⟩

theorem fetchItem_keeps (d : Directory) (p : Play) (language n : Nat) (items : List Item) :
    ∀ index, (fetchItem d p language items index (some n)).Keeps n := by
  induction items with
  | nil => exact fun index => .inr ⟨_, rfl⟩
  | cons item items ih =>
    intro index
    unfold fetchItem
    split
    · exact .inr ⟨_, rfl⟩
    · exact .inr ⟨_, rfl⟩
    · split
      · refine fetchSpans_keeps d language n (fun spans => ?_) _ _
        split
        · exact ih (index + 1)
        · exact .inr ⟨_, rfl⟩
      · exact ih (index + 1)

/-- The lookup of a PHRASE item once its record has come (06 R110): the item sounds, or the lookup goes on. -/
theorem lookupProgram_resume {d : Directory} {p : Play} {index language n : Nat}
    (hroute : p.route = .floor) (hitem : p.items[index]? = some (.phrase n))
    (hcount : n < (d.slot language).phrases)
    (hsize : (d.slot language).table + 5 * n + 5 ≤ d.size) (data : List Byte) :
    (∀ span, spanOf d data = some span →
      (lookupProgram (.usable d) p index language).resume [data] =
        .done { missing := none, found := some (index, [span]) }) ∧
    (spanOf d data = none → (lookupProgram (.usable d) p index language).resume [data] =
      (fetchItem d p language (p.items.drop (index + 1)) (index + 1) (some n)).resume []) := by
  have hdrop : p.items.drop index = .phrase n :: p.items.drop (index + 1) :=
    (List.getElem?_eq_some_iff.mp hitem).elim fun hlt hget => by
      rw [← hget]
      exact List.drop_eq_getElem_cons hlt
  have hpresent : ¬ ((d.slot language).phrases ≤ n ∨
      d.size < (d.slot language).table + 5 * n + 5) := by omega
  refine ⟨fun span hspan => ?_, fun hnone => ?_⟩
  · simp only [lookupProgram, Store.directory, hdrop, fetchItem, Item.kind, hroute, if_true,
      Play.phrases, fetchSpans, fetchPhrase, if_neg hpresent, Fetch.resume, hspan]
    rfl
  · simp only [lookupProgram, Store.directory, hdrop, fetchItem, Item.kind, hroute, if_true,
      Play.phrases, fetchSpans, fetchPhrase, if_neg hpresent, Fetch.resume, hnone]
    rfl

namespace State

/-- A read that is wanted goes to its requester, with the port free. -/
theorem readDone_of_wanted {s : State} {r : PortRead} (hport : s.flash.port = some r)
    (hwanted : r.wanted = true) : s.readDone =
      (s.setFlash { s.flash with port := none }).deliver r.purpose
        (readBytes s.phraseStore r.addr r.len) := by
  simp [readDone, hport, hwanted]

theorem lookupDone_events (s : State) (p : Play) (found : Option (Nat × List Span)) :
    (s.lookupDone p found).events = s.events := by
  simp

/-- A missing phrase is reported once for an entry (06 R110). -/
theorem reportPhrase_events {s : State} {ticket phrase : Nat} {e : Entry}
    (h : s.agenda.find ticket = some e) : (s.reportPhrase ticket phrase).events =
      if e.phraseReported = true then s.events
      else (s.offer (.missingPhrase e.post.topic phrase)).events := by
  simp only [reportPhrase, h]
  split
  · rfl
  · exact offer_events_congr _ rfl

/-- A lookup that goes on with a missing phrase reports it (06 R110). -/
theorem advanceLookup_events {s : State} {p : Play} {index language n : Nat}
    {replies : List (List Byte)} (hplay : s.renderer.play = some p)
    (hahead : p.ahead = .looking index language replies)
    (h : (∃ addr len, (lookupProgram s.flash.store p index language).resume replies =
        .needs (some n) addr len) ∨
      ∃ found, (lookupProgram s.flash.store p index language).resume replies =
        .done { missing := some n, found := found }) :
    s.advanceLookup.events = (s.reportPhrase p.ticket n).events := by
  obtain ⟨addr, len, h⟩ | ⟨found, h⟩ := h
  · simp only [advanceLookup, hplay, hahead, h, reportMissing]
  · simp only [advanceLookup, hplay, hahead, h, reportMissing, lookupDone_events]

end State

/-- Settles O27: what each requester gets of the data. -/
theorem flashReadDoneDelivers : Obligations.FlashReadDoneDelivers := by
  intro s r hport free data
  refine ⟨⟨by simp [State.flashSelected, hport], by simp [State.flashSent, hport, PortRead.sent],
      r.clocks_eq, by simp [free, State.flashSelected], by simp [free, State.flashSent]⟩,
    fun hwanted => ?_, fun hwanted hpurpose => ?_, fun hwanted hpurpose => ?_,
    fun p hwanted hpurpose hplay => ?_, fun snap replies hwanted hpurpose hcompose => ?_,
    fun p d index language n hwanted hpurpose hplay hstore hroute hahead hitem hcount hsize => ?_⟩
  · simp [exec_flashReadDone, State.readDone, hport, hwanted, free]
  · rw [exec_flashReadDone, State.readDone_of_wanted hport hwanted, hpurpose]
    rfl
  · rw [exec_flashReadDone, State.readDone_of_wanted hport hwanted, hpurpose]
    rfl
  · rw [exec_flashReadDone, State.readDone_of_wanted hport hwanted, hpurpose]
    simp only [State.deliver, State.fillData, State.setFlash_renderer, hplay]
    rfl
  · refine ⟨_, exec_flashReadDone s, ?_⟩
    rw [State.readDone_of_wanted hport hwanted, hpurpose]
    simp only [State.deliver, State.composeData, State.setFlash_display, hcompose]
    exact ⟨by simp [data], by simp, by simp [State.changedIn_iff]⟩
  · intro start count
    obtain ⟨hfound, hmissing⟩ := lookupProgram_resume (p := { p with
      ahead := .looking index language [data] }) hroute hitem hcount hsize data
    have hdone : exec .flashReadDone s = .next (free.setRenderer { s.renderer with
        play := some { p with ahead := .looking index language [data] } }).advanceLookup := by
      rw [exec_flashReadDone, State.readDone_of_wanted hport hwanted, hpurpose]
      simp only [State.deliver, State.lookupData, State.setFlash_renderer, hplay, hahead]
      rfl
    refine ⟨fun hpresent => ?_, fun habsent => ?_⟩
    · have hspan : spanOf d data = some { start := start, count := count } := by
        rw [spanOf]
        exact if_neg (by omega)
      rw [hdone]
      simp only [State.advanceLookup, State.setRenderer_renderer, State.setRenderer_flash, free,
        State.setFlash_flash, hstore, hfound _ hspan, State.reportMissing, State.lookupDone]
      rfl
    · have hspan : spanOf d data = none := by
        rw [spanOf]
        exact if_pos habsent
      refine ⟨_, hdone, by simp [free], by simp [State.changedIn_iff, free], fun e he => ?_⟩
      rw [State.advanceLookup_events (p := { p with ahead := .looking index language [data] })
        (n := n) rfl rfl (by
          simp only [free, State.setRenderer_flash, State.setFlash_flash, hstore, hmissing hspan]
          exact fetchItem_keeps d _ language n _ _),
        State.reportPhrase_events (e := e) (by exact he)]
      refine ⟨fun hreported => by simp [hreported, free], fun hfresh => ?_⟩
      rw [if_neg (by simp [hfresh])]
      exact State.offer_events_congr _ rfl

end Sys2Proof.Machine

/-! ## The display (O49, O50) -/

namespace Sys2Proof.Machine

/-! ### The order of the pixels (08 R138) -/

/-- A list in rows of `m`, indexed by row and column. -/
theorem getElem?_rows {α : Type} {m x : Nat} (hx : x < m) (f : Nat → Nat → α) (n : Nat) :
    ((List.range n).flatMap fun y => (List.range m).map fun x => f x y).length = m * n ∧
      ∀ y, y < n → ((List.range n).flatMap fun y =>
        (List.range m).map fun x => f x y)[m * y + x]? = some (f x y) := by
  induction n with
  | zero => simp
  | succ n ih =>
    obtain ⟨hlength, hget⟩ := ih
    rw [List.range_succ, List.flatMap_append]
    refine ⟨by simp [hlength, Nat.mul_succ], fun y hy => ?_⟩
    obtain hy | rfl := Nat.lt_succ_iff_lt_or_eq.mp hy
    · have hlt : m * y + x < m * n := by nlinarith
      rw [List.getElem?_append_left (by rwa [hlength]), hget y hy]
    · rw [List.getElem?_append_right (by rw [hlength]; omega), hlength]
      simp [hx]

theorem frameOrder_length : frameOrder.length = 4096 :=
  (getElem?_rows (m := 128) (x := 0) (by decide) (fun x y => (x, y)) 32).1

theorem frameOrder_get {x y : Nat} (hx : x < 128) (hy : y < 32) :
    frameOrder[128 * y + x]? = some (x, y) :=
  (getElem?_rows hx (fun x y => (x, y)) 32).2 y hy

namespace State

/-! ### The frame sent (08 R138) -/

theorem frameStream_length {s : State} (h : s.rest.part = .active) : s.frameStream.length = 4096 := by
  simp [frameStream, h, frameOrder_length]

theorem frameStream_get {s : State} (h : s.rest.part = .active) {x y : Nat} (hx : x < 128)
    (hy : y < 32) : s.frameStream[128 * y + x]? = some (s.driveLevel x y) := by
  simp [frameStream, h, frameOrder_get hx hy]

/-- The drive level of a pixel is that of its palette entry, or 0 where it blinks OFF (08 R137). -/
theorem driveLevel_eq {s : State} {x y : Nat} {colour : PaletteEntry}
    (h : s.settings.palette[2 * (s.display.front.plane1.getLsbD (128 * y + x)).toNat +
      (s.display.front.plane0.getLsbD (128 * y + x)).toNat]? = some colour) :
    s.driveLevel x y =
      if colour.blink = true ∧ s.display.blinkOn = false then 0 else colour.level := by
  have hcolour : s.settings.palette.getD (s.display.front.pixel x y) { level := 0, blink := false } =
      colour := by
    have hget : s.settings.palette[s.display.front.pixel x y]? = some colour := h
    rw [List.getD_eq_getElem?_getD, hget]
    rfl
  simp only [driveLevel, hcolour]

/-! ### A frame boundary (08 R137, R139) -/

theorem snapshot_setDisplay (s : State) (b : Display) : (s.setDisplay b).snapshot = s.snapshot := rfl

theorem swapped_of_idle {s : State} (h : s.display.compose ≠ .swapPending) : s.swapped = s :=
  if_neg h

/-- The buffers are exchanged, and a flagged recompose starts (08 R139). -/
theorem swapped_of_pending {s : State} (h : s.display.compose = .swapPending) :
    s.swapped.display.front = s.display.back ∧ s.swapped.display.recompose = false ∧
      s.swapped.display.frameCount = s.display.frameCount ∧
      s.swapped.display.blinkOn = s.display.blinkOn ∧
      (s.display.recompose = false → s.swapped.display.back = s.display.front ∧
        s.swapped.display.compose = .idle) ∧
      (s.display.recompose = true → s.swapped.display.compose = .composing s.snapshot []) := by
  rw [swapped, if_pos h]
  cases hrecompose : s.display.recompose <;> simp [snapshot_setDisplay]

theorem blinkStepped_display (s : State) : s.blinkStepped.display = { s.display with
    frameCount := if s.display.frameCount + 1 < 42 then s.display.frameCount + 1 else 0,
    blinkOn := if s.display.frameCount + 1 < 42 then s.display.blinkOn else !s.display.blinkOn } := by
  by_cases h : s.display.frameCount + 1 < 42 <;> simp [blinkStepped, h]

theorem swapped_stream (s : State) : s.swapped.display.frameCount = s.display.frameCount ∧
    s.swapped.display.blinkOn = s.display.blinkOn := by
  by_cases h : s.display.compose = .swapPending
  · obtain ⟨-, -, hcount, hblink, -⟩ := swapped_of_pending h
    exact ⟨hcount, hblink⟩
  · simp [swapped_of_idle h]

end State

/-- Settles O49: the compose that is over, the swap, and the bits of the frame. -/
theorem framesSwapAndBlink : Obligations.FramesSwapAndBlink := by
  intro s
  refine ⟨fun snap replies drawn hcompose hdone => ?_, fun hpart => ⟨?_, ?_, fun n => ?_⟩,
    fun hpart => ?_⟩
  · have hover : s.composeOver = true := by
      simp [State.composeOver, hcompose, hdone, Progress.isDone]
    rw [exec_composeEnd, State.composeEnded, if_pos hover]
  · rw [exec_frameBoundary, State.frameBegun, if_neg hpart]
  · simp [State.frameStream, hpart]
  · simp [State.displayPins, State.frameStream, hpart]
  · refine ⟨_, exec_frameBoundary s, ?_⟩
    have hactive : s.frameBegun.rest.part = .active := by simpa using hpart
    have hbegun : s.frameBegun = s.swapped.blinkStepped := if_pos hpart
    obtain ⟨hcount, hblink⟩ := s.swapped_stream
    refine ⟨by simp, by simp [State.changedIn_iff], State.frameStream_length hactive,
      fun x y hx hy colour hcolour => ?_, fun n hn => ?_, ?_, ?_, fun hidle => ?_, fun hpending => ?_⟩
    · have hlevel := State.frameStream_get hactive hx hy
      rw [State.driveLevel_eq (by simpa using hcolour)] at hlevel
      refine ⟨hlevel, fun bit hbit => ?_⟩
      rw [State.displayPins_pixel _ _ _ _ hbit hlevel]
      have hfirst : (128 * y + x = 0 ∧ bit = 0) = (x = 0 ∧ y = 0 ∧ bit = 0) :=
        propext ⟨by omega, by omega⟩
      simp only [hfirst]
    · exact State.displayPins_rest _ _ (by rw [State.frameStream_length hactive]; omega)
    · rw [hbegun, State.blinkStepped_display, hcount]
    · rw [hbegun, State.blinkStepped_display, hcount, hblink]
    · rw [hbegun, State.blinkStepped_display, State.swapped_of_idle hidle]
    · obtain ⟨hfront, hrecompose, -, -, hfalse, htrue⟩ := State.swapped_of_pending hpending
      rw [hbegun, State.blinkStepped_display]
      exact ⟨hfront, hrecompose, hfalse, htrue⟩

/-! ### Drawing an item (08 R145) -/

/-- A row of columns holds its own pixels alone. -/
theorem rowPlane_getLsbD (y columns : Nat) {px py : Nat} (hx : px < 128) (hy : py < 32) :
    (rowPlane y columns).getLsbD (128 * py + px) = (decide (py = y) && columns.testBit px) := by
  unfold rowPlane
  by_cases hrow : y < 32
  · rw [if_pos hrow, BitVec.getLsbD_shiftLeft, BitVec.getLsbD_setWidth, BitVec.getLsbD_ofNat]
    obtain hlt | rfl | hgt := Nat.lt_trichotomy py y
    · have : 128 * py + px < 128 * y := by omega
      simp [this, Nat.ne_of_lt hlt]
    · have : 128 * py + px < 4096 := by omega
      simp [this, hx]
      omega
    · have : ¬ 128 * py + px - 128 * y < 128 := by omega
      simp [this, Nat.ne_of_gt hgt]
  · rw [if_neg hrow]
    have : py ≠ y := by omega
    simp [this]

/-- Rows of columns, pixel by pixel. -/
theorem rowsPlane_getLsbD (x : Nat) {px py : Nat} (hx : px < 128) (hy : py < 32) (rows : List Nat) :
    ∀ y, (rowsPlane x y rows).getLsbD (128 * py + px) =
      (decide (y ≤ py ∧ py < y + rows.length) && (rows.getD (py - y) 0 * 2 ^ x).testBit px) := by
  induction rows with
  | nil =>
    intro y
    simp [rowsPlane]
  | cons row rows ih =>
    intro y
    rw [rowsPlane, BitVec.getLsbD_or, rowPlane_getLsbD _ _ hx hy, ih]
    obtain hlt | rfl | hgt := Nat.lt_trichotomy py y
    · have h1 : ¬ (y + 1 ≤ py) := by omega
      have h2 : ¬ (y ≤ py) := by omega
      simp [h1, h2, Nat.ne_of_lt hlt]
    · simp
    · have hsub : py - y = py - (y + 1) + 1 := by omega
      have hend : y + 1 + rows.length = y + (rows.length + 1) := by omega
      simp [hsub, hend, hgt, Nat.le_of_lt hgt, Nat.ne_of_gt hgt]

/-- A row shifted to its column. -/
theorem testBit_shifted (row x px : Nat) :
    (row * 2 ^ x).testBit px = (decide (x ≤ px) && row.testBit (px - x)) := by
  rw [← Nat.shiftLeft_eq, Nat.testBit_shiftLeft]

/-- A plane after an item, pixel by pixel (08 R145). -/
theorem paintPlane_getLsbD (paint : Paint) (colourBit : Bool) {shape box old : Plane} {i : Nat}
    (hi : i < 4096) (hin : shape.getLsbD i = true → box.getLsbD i = true) :
    (paintPlane paint colourBit shape box old).getLsbD i =
      if shape.getLsbD i = true then
        (match paint.op with
         | .replace => colourBit
         | .and => colourBit && old.getLsbD i
         | .or => colourBit || old.getLsbD i
         | .xor => xor colourBit (old.getLsbD i))
      else if box.getLsbD i = true ∧ paint.opaqueBox = true then false
      else old.getLsbD i := by
  have hfill : (fill colourBit).getLsbD i = colourBit := by
    cases colourBit
    · simp [fill]
    · rw [fill, if_pos rfl, BitVec.getLsbD_allOnes, decide_eq_true hi]
  have hcombine : (paint.op.combine (fill colourBit) old).getLsbD i =
      match paint.op with
      | .replace => colourBit
      | .and => colourBit && old.getLsbD i
      | .or => colourBit || old.getLsbD i
      | .xor => xor colourBit (old.getLsbD i) := by
    cases paint.op <;> simp [RasterOp.combine, hfill]
  simp only [paintPlane, BitVec.getLsbD_or, BitVec.getLsbD_and, BitVec.getLsbD_not, hcombine, hi,
    decide_true, Bool.true_and]
  cases hshape : shape.getLsbD i with
  | true => simp only [hin hshape, Bool.true_and, Bool.not_true, Bool.and_false, Bool.false_and,
      Bool.or_false, if_true]
  | false =>
    cases hbox : box.getLsbD i with
    | false => simp only [Bool.false_and, Bool.not_false, Bool.true_and, Bool.false_or,
        Bool.false_eq_true, false_and, if_false]
    | true => cases hopaque : paint.opaqueBox <;> simp

/-- Settles O50: each plane, pixel by pixel. -/
theorem itemsPaintTheirBox : Obligations.ItemsPaintTheirBox := by
  intro paint x y width rows p px py hx hy inBox covered i after q
  have hi : i < 4096 := by omega
  have hsplit : inBox = (decide (y ≤ py ∧ py < y + rows.length) &&
      (decide (x ≤ px) && decide (px - x < width))) := by
    simp only [inBox, ← Bool.decide_and]
    exact decide_eq_decide.mpr (by omega)
  have hbits (f : Nat → Nat) (h : decide (y ≤ py ∧ py < y + rows.length) = true) :
      ((rows.map f).getD (py - y) 0 * 2 ^ x).testBit px =
        (decide (x ≤ px) && (f (rows.getD (py - y) 0)).testBit (px - x)) := by
    have hlt : py - y < rows.length := by
      have := of_decide_eq_true h
      omega
    rw [testBit_shifted]
    simp [hlt]
  have hshape : (rowsPlane x y (rows.map (· % 2 ^ width))).getLsbD i = covered := by
    rw [rowsPlane_getLsbD x hx hy, List.length_map]
    simp only [covered, hsplit]
    cases hrange : decide (y ≤ py ∧ py < y + rows.length) with
    | false => rfl
    | true => rw [hbits _ hrange, Nat.testBit_mod_two_pow, Bool.true_and, Bool.true_and, Bool.and_assoc]
  have hbox : (rowsPlane x y (rows.map fun _ => 2 ^ width - 1)).getLsbD i = inBox := by
    rw [rowsPlane_getLsbD x hx hy, List.length_map, hsplit]
    cases hrange : decide (y ≤ py ∧ py < y + rows.length) with
    | false => rfl
    | true => rw [hbits _ hrange, Nat.testBit_two_pow_sub_one]
  have hin : covered = true → inBox = true := fun h => by
    simpa using (Bool.and_eq_true_iff.mp h).1
  have hplane (enabled colourBit : Bool) (old : Plane) :
      (if enabled = true then paintPlane paint colourBit (rowsPlane x y (rows.map (· % 2 ^ width)))
          (rowsPlane x y (rows.map fun _ => 2 ^ width - 1)) old
        else old).getLsbD i = after enabled colourBit (old.getLsbD i) := by
    cases enabled with
    | false => simp [after]
    | true =>
      rw [if_pos rfl, paintPlane_getLsbD paint colourBit hi (by rwa [hshape, hbox]), hshape, hbox]
      simp only [after, true_and] <;> rfl
  exact ⟨hplane _ _ _, hplane _ _ _⟩

end Sys2Proof.Machine

/-! ## Entering ACTIVE and DORMANT (O32, O53, O54)

SETUP and the end of WAKING enter ACTIVE in the same way: the compose and the stream start, a BEACON is queued, and
the tests after an event are made (11 R181, R187). -/

namespace Sys2Proof.Machine

/-- The part enters ACTIVE and queues a BEACON, and the tests are made (11 R181, R187). -/
def State.activated (s : State) : State := s.enterActive.sendBeacon.followUp

namespace State

/-! ### With an empty agenda (11 R182) -/

theorem entries_eq_nil_of_ids {s t : State} (h : t.agenda.ids = s.agenda.ids) :
    t.agenda.entries = [] ↔ s.agenda.entries = [] := by
  rw [← List.map_eq_nil_iff (f := Entry.id), ← List.map_eq_nil_iff (f := Entry.id)]
  exact iff_of_eq (congrArg (· = []) h)

/-- With an empty agenda the tests select the owner and test the idle timer. -/
theorem followUp_of_empty {s : State} (h : s.agenda.entries = []) :
    s.followUp = s.selectOwner.idleTest := by
  have hempty : s.selectOwner.agenda.entries = [] :=
    (entries_eq_nil_of_ids (by simp)).mpr h
  have hlocal : s.selectOwner.localStart = s.selectOwner := by
    unfold localStart Agenda.localCandidate
    simp [hempty, topEntry]
  have hfloor : s.selectOwner.floorTest = s.selectOwner := by
    unfold floorTest Agenda.answer Agenda.floorEntries
    simp [hempty, topEntry]
  rw [followUp, hlocal, hfloor]

/-- With empty agendas the snapshot sees the owner, the base page, the language and the machine record
(08 R140). -/
theorem snapshot_of_empty {s t : State} (hs : s.agenda.entries = []) (ht : t.agenda.entries = [])
    (howner : t.agenda.owner = s.agenda.owner) (hbase : t.agenda.basePage = s.agenda.basePage)
    (hpanel : t.panel.language = s.panel.language) (hmachine : t.machine = s.machine) :
    t.snapshot = s.snapshot := by
  simp only [snapshot, howner, hbase, hpanel, hmachine, Agenda.find, hs, ht]

/-- A compose that starts draws from the values that stand (08 R140). -/
theorem startCompose_of_empty {s : State} (h : s.agenda.entries = []) :
    s.startCompose.display.compose = .composing s.startCompose.snapshot [] := by
  have hsnap : s.startCompose.snapshot = s.snapshot :=
    snapshot_of_empty h ((entries_eq_nil_of_ids (by simp)).mpr h) (by simp) (by simp) (by simp)
      (by simp)
  rw [hsnap, s.startCompose_stream.2.2.2.2]

theorem idleTest_snapshot (s : State) : s.idleTest.snapshot = s.snapshot := by
  unfold idleTest
  split <;> rfl

theorem enterActive_compose {s : State} (h : s.agenda.entries = []) (hidle : s.display.compose = .idle) :
    s.enterActive.display.compose = .composing s.enterActive.snapshot [] := by
  have hstart : s.enterActive = ((s.setRest { s.rest with part := .active }).setDisplay
      { s.display with blinkOn := true, frameCount := 0 }).startCompose.idleTest := by
    simp [enterActive, cause, hidle]
  have hdisplay (u : State) : u.idleTest.display = u.display := by simp
  rw [hstart, idleTest_snapshot, hdisplay]
  exact startCompose_of_empty h

theorem selectOwner_compose {s : State} (h : s.agenda.entries = []) (hpart : s.rest.part = .active)
    (hcompose : s.display.compose = .composing s.snapshot []) :
    s.selectOwner.display.compose = .composing s.selectOwner.snapshot [] := by
  unfold selectOwner
  split
  · exact hcompose
  · rw [cause]
    simp only [setAgenda_rest, hpart, if_true, setAgenda_display, hcompose]
    exact startCompose_of_empty (by simpa using h)

/-! ### Entering ACTIVE -/

@[simp] theorem activated_keeps (s : State) :
    s.activated.timebase.station = s.timebase.station ∧ s.activated.host = s.host ∧
      s.activated.machine = s.machine ∧ s.activated.settings = s.settings ∧
      s.activated.agenda.ids = s.agenda.ids ∧ s.activated.floor.claims = s.floor.claims ∧
      s.activated.floor.holders = s.floor.holders ∧ s.activated.panel = s.panel ∧
      s.activated.rest.part = .active ∧ s.activated.rest.warm = s.rest.warm ∧
      s.activated.phraseStore = s.phraseStore ∧ s.activated.pending = s.pending := by
  simp [activated]

@[simp] theorem activated_grew (s : State) (q : EventQueue) (hq : s.events.grewFrom q) :
    s.activated.events.grewFrom q := by
  simp [activated, hq]

theorem activated_line (s : State) : s.activated.line = s.line.withBeacon
    (.beacon s.machine.kind s.machine.availability s.settings.zone s.machine.minutes) := by
  simp [activated, sendBeacon_eq]

theorem activated_roster (s : State) :
    s.activated.roster = { s.roster with beaconTimer := some s.settings.beaconPeriod } := by
  simp [activated, sendBeacon_eq]

theorem activated_stream (s : State) :
    s.activated.display.blinkOn = true ∧ s.activated.display.frameCount = 0 := by
  simp [activated]

theorem activated_compose {s : State} (h : s.agenda.entries = []) (hidle : s.display.compose = .idle) :
    s.activated.display.compose = .composing s.activated.snapshot [] := by
  have hsend : s.enterActive.sendBeacon.display = s.enterActive.display ∧
      s.enterActive.sendBeacon.snapshot = s.enterActive.snapshot := by
    rw [sendBeacon_eq (by simp)]
    exact ⟨rfl, rfl⟩
  have hempty : s.enterActive.sendBeacon.agenda.entries = [] :=
    (entries_eq_nil_of_ids (by simp)).mpr h
  have hcompose := enterActive_compose h hidle
  rw [← hsend.1, ← hsend.2] at hcompose
  have howner := selectOwner_compose hempty (by simp) hcompose
  rw [activated, followUp_of_empty hempty, idleTest_snapshot]
  simpa using howner

/-- The idle timer after the tests (11 R182). -/
theorem idleTest_idleTimer (s : State) : s.idleTest.rest.idleTimer =
    if s.idleHolds = true then some (s.rest.idleTimer.getD 0) else none := by
  unfold idleTest
  split <;> simp [*]

theorem followUp_idleTimer (s : State) : s.followUp.rest.idleTimer =
    if s.rest.part = .active ∧ s.agenda.entries = [] ∧
        (s.panel.presence = .absent ∨ s.settings.lineOf .presence = none) then
      some (s.rest.idleTimer.getD 0)
    else none := by
  have hempty : s.selectOwner.localStart.floorTest.agenda.entries = [] ↔ s.agenda.entries = [] :=
    entries_eq_nil_of_ids (by simp)
  simp only [followUp, idleTest_idleTimer, idleHolds_iff, hempty]
  simp

theorem activated_idleTimer (s : State) : s.activated.rest.idleTimer =
    if s.agenda.entries = [] ∧ (s.panel.presence = .absent ∨ s.settings.lineOf .presence = none) then
      some (s.rest.idleTimer.getD 0)
    else none := by
  have hempty : s.enterActive.sendBeacon.agenda.entries = [] ↔ s.agenda.entries = [] :=
    entries_eq_nil_of_ids (by simp)
  have hstarted : ((s.setRest { s.rest with part := .active }).setDisplay
      { s.display with blinkOn := true, frameCount := 0 }).cause.agenda.entries = [] ↔
        s.agenda.entries = [] := entries_eq_nil_of_ids (by simp)
  have hentered : s.enterActive.sendBeacon.rest.idleTimer = if s.agenda.entries = [] ∧
      (s.panel.presence = .absent ∨ s.settings.lineOf .presence = none) then
        some (s.rest.idleTimer.getD 0) else none := by
    simp only [sendBeacon_keeps, enterActive, idleTest_idleTimer, idleHolds_iff]
    simpa using if_congr (and_congr_left' hstarted) rfl rfl
  simp only [activated, followUp_idleTimer, hempty, hentered]
  by_cases h : s.agenda.entries = [] ∧ (s.panel.presence = .absent ∨ s.settings.lineOf .presence = none) <;>
    simp [h]

/-! ### The panel's states from the filtered levels (09 R153) -/

theorem keyDown_eq_none (p : Panel) (cfg : Settings) : p.keyDown cfg = none ↔
    ∀ k, k < 8 → (cfg.roles.getD k .unused).isKey = true → p.atRest cfg k = true := by
  simp [Panel.keyDown, List.find?_eq_none]

/-- Lines are at rest by their filters alone. -/
theorem atRest_congr {p q : Panel} (h : q.filters = p.filters) (cfg : Settings) :
    q.atRest cfg = p.atRest cfg :=
  funext fun line => by simp only [Panel.atRest, h]

theorem keyDown_congr {p q : Panel} (h : q.filters = p.filters) (cfg : Settings) :
    q.keyDown cfg = p.keyDown cfg := by
  simp only [Panel.keyDown, atRest_congr h]

theorem doorTaken_panel (s : State) : s.doorTaken.panel = { s.panel with
    door := (s.settings.lineOf .door).elim .closed fun line =>
      if s.panel.atRest s.settings line = true then .closed else .opened } := by
  unfold doorTaken
  cases s.settings.lineOf .door <;> rfl

theorem presenceTaken_panel (s : State) : s.presenceTaken.panel = { s.panel with
    presence := (s.settings.lineOf .presence).elim .present fun line =>
      if s.panel.atRest s.settings line = true then .absent else .present } := by
  unfold presenceTaken
  cases s.settings.lineOf .presence <;> rfl

theorem sessionStarted_panel (s : State) : s.sessionStarted.panel = { s.panel with
    sessionTimer := if s.panel.presence = .absent then some 0 else none } := by
  unfold sessionStarted
  cases s.panel.presence <;> rfl

/-! ### SETUP (11 R181) -/

/-- The part as SETUP enters ACTIVE: settings, machine kind, warm flag, lists and panel are taken. -/
def configured (s : State) (cfg : Settings) (kind : MachineKind) : State :=
  let s1 := (s.setSettings cfg).setMachine { s.machine with kind := kind }
  let s2 := s1.setRest { s1.rest with warm := true }
  (s2.hearMaskTaken.doorTaken.presenceTaken.keysTaken.sessionStarted).languageTaken

theorem setUp_eq (s : State) (cfg : Settings) (kind : MachineKind) :
    s.setUp cfg kind = (s.configured cfg kind).activated.respond .ok [] := rfl

@[simp] theorem configured_keeps (s : State) (cfg : Settings) (kind : MachineKind) :
    (s.configured cfg kind).host = s.host ∧
      (s.configured cfg kind).machine = { s.machine with kind := kind } ∧
      (s.configured cfg kind).settings = cfg ∧ (s.configured cfg kind).agenda = s.agenda ∧
      (s.configured cfg kind).line = s.line ∧ (s.configured cfg kind).roster = s.roster ∧
      (s.configured cfg kind).display = s.display ∧ (s.configured cfg kind).events = s.events ∧
      (s.configured cfg kind).rest = { s.rest with warm := true } ∧
      (s.configured cfg kind).phraseStore = s.phraseStore ∧
      (s.configured cfg kind).pending = s.pending := by
  simp [configured]

/-- The lists keep what the new hear mask shares (04 R65). -/
theorem configured_lists (s : State) (cfg : Settings) (kind : MachineKind) :
    (s.configured cfg kind).floor.claims =
        s.floor.claims.filter (fun r => cfg.hearMask &&& r.mask != 0) ∧
      (s.configured cfg kind).floor.holders =
        s.floor.holders.filter (fun r => cfg.hearMask &&& r.mask != 0) := by
  simp [configured, hearMaskTaken, conflicts]

theorem respond_snapshot (s : State) (result : ResultCode) (body : List Byte) :
    (s.respond result body).snapshot = s.snapshot := rfl

theorem configured_panel (s : State) (cfg : Settings) (kind : MachineKind) :
    (s.configured cfg kind).panel.filters = s.panel.filters ∧
      (s.configured cfg kind).panel.language =
        min cfg.defaultLanguage (s.flash.store.languages - 1) ∧
      (s.configured cfg kind).panel.sessionTimer =
        (if (s.configured cfg kind).panel.presence = .absent then some 0 else none) ∧
      (s.configured cfg kind).panel.door = ((cfg.lineOf .door).elim .closed fun line =>
        if s.panel.atRest cfg line = true then .closed else .opened) ∧
      (s.configured cfg kind).panel.presence = ((cfg.lineOf .presence).elim .present fun line =>
        if s.panel.atRest cfg line = true then .absent else .present) ∧
      (s.configured cfg kind).panel.keysAtRest = (s.panel.keyDown cfg).isNone := by
  simp [configured, languageTaken, sessionStarted_panel, keysTaken, presenceTaken_panel,
    doorTaken_panel, hearMaskTaken, defaultInUse]
  exact ⟨rfl, rfl, rfl, rfl⟩

end State

/-- Settles O32: what SETUP takes, and the entry to ACTIVE. -/
theorem setupConfiguresThePart : Obligations.SetupConfiguresThePart := by
  intro s body cfg kind h hpart hwarm hread
  have hruns : s.runs .setup body := ⟨h, by simp [State.stateRefusal, hwarm]⟩
  obtain ⟨hfilters, hlanguage, hsession, hdoor, hpresence, hkeys⟩ := s.configured_panel cfg kind
  obtain ⟨hclaims, hholders⟩ := s.configured_lists cfg kind
  obtain ⟨hblink, hcount⟩ := (s.configured cfg kind).activated_stream
  have hpanel : ((s.configured cfg kind).activated.respond .ok []).panel =
      (s.configured cfg kind).panel := by
    simp
  refine ⟨(s.configured cfg kind).activated.respond .ok [], (exec_of_runs hruns).trans (by
      simp only [State.requestEffect, State.setupEffect, hread, State.setUp_eq]), ?_⟩
  rw [hpanel]
  refine ⟨by simp, by simp, by simp, by simp, by simp [State.respond, State.answered],
    by simpa using hclaims, by simpa using hholders, ?_, ?_, hlanguage, hfilters, hsession, fun hline => ?_,
    fun hline => ?_, fun line hline => ?_, fun line hline => ?_, ?_, fun hempty hidle => ?_, ?_,
    by simpa using hblink, by simpa using hcount,
    by simp, by simp [EventQueue.grewFrom_refl], by simp, by simp⟩
  · rw [State.respond_eq, State.setHost_line, State.activated_line]
    simp
  · rw [State.respond_eq, State.setHost_roster, State.activated_roster]
    simp
  · rw [hpresence, hline]
    rfl
  · rw [hdoor, hline]
    rfl
  · rw [hdoor, hline]
    rfl
  · rw [hpresence, hline]
    rfl
  · rw [hkeys, Option.isNone_iff_eq_none, State.keyDown_eq_none]
  · rw [State.respond_snapshot, State.respond_eq, State.setHost_display]
    exact State.activated_compose (by simpa using hempty) (by simpa using hidle)
  · rw [State.respond_eq, State.setHost_rest, State.activated_idleTimer]
    simp

/-! ### DORMANT entry (11 R186) -/

namespace State

theorem flashRested_of_scanning {s : State} (h : s.flash.store = .scanning) : s.flashRested = s := by
  simp [flashRested, h]

theorem flashRested_of_judged {s : State} (h : s.flash.store ≠ .scanning) :
    s.flashRested = s.setFlash { s.flash with port := none, estimate := [] } := by
  unfold flashRested
  cases hstore : s.flash.store <;> simp_all

/-- What DORMANT entry leaves, block by block (11 R186). -/
theorem enterDormant_effect (s : State) :
    s.enterDormant.rest = { s.rest with
        part := .dormant, idleTimer := none, settlingLimit := none, wakeReport := none } ∧
      s.enterDormant.line = Line.initial ∧
      s.enterDormant.floor =
        { s.floor with ctx := .idle, claims := [], holders := [], quietAge := 0 } ∧
      s.enterDormant.roster = { records := [], beaconTimer := none, duplicateTimer := none } ∧
      s.enterDormant.renderer = { phase := .idle, timer := 0, play := none, enable := false,
                                  dropTimer := none, report := s.renderer.report } ∧
      s.enterDormant.level = { s.level with
        count := 0, sum := 0, soundingSeen := false, holderSeen := false, dac := 2048,
        tone := none } ∧
      s.enterDormant.display = { s.display with
        front := Picture.blank, back := Picture.blank, compose := .idle, recompose := false,
        fallback := false } ∧
      s.enterDormant.panel = { s.panel with
        holdTimer := none, sessionTimer := none,
        language := min s.settings.defaultLanguage (s.flash.store.languages - 1),
        presence := if s.settings.lineOf .presence = none then s.panel.presence else .absent } ∧
      (s.flash.store = .scanning → s.enterDormant.flash = s.flash) ∧
      (s.flash.store ≠ .scanning →
        s.enterDormant.flash = { s.flash with port := none, estimate := [] }) := by
  refine ⟨by simp [enterDormant], by simp [enterDormant, listsRested], by simp [enterDormant, listsRested],
    by simp [enterDormant, listsRested], by simp [enterDormant, rendererIdle, listsRested],
    by simp [enterDormant, levelRested, listsRested], by simp [enterDormant, displayRested, listsRested], ?_,
    fun h => ?_, fun h => ?_⟩
  · cases hline : s.settings.lineOf .presence <;>
      simp [enterDormant, panelRested, listsRested, hline, defaultInUse]
  · simp only [enterDormant]
    rw [flashRested_of_scanning (by simpa using h)]
    simp
  · simp only [enterDormant]
    rw [flashRested_of_judged (by simpa using h)]
    simp

end State

/-- Settles O53: each block at DORMANT entry. -/
theorem dormantEntryStopsTheBlocks : Obligations.DormantEntryStopsTheBlocks := by
  intro s command events hpart hcommand
  obtain ⟨rfl, hdone, hphase, henable, rfl⟩ | ⟨rfl, hlimit, hdone, rfl⟩ := hcommand
  · obtain ⟨hrest, hline, hfloor, hroster, hrenderer, hlevel, hdisplay, hpanel, hscan, hjudged⟩ :=
      s.enterDormant_effect
    refine ⟨s.enterDormant, ?_, by simp, by simp, hrest, hline, hfloor, hroster,
      State.transmitOut_silent _ (by rw [hline]; rfl), hrenderer, hlevel, hdisplay, hpanel, hscan,
      fun h => ⟨hjudged h, by simp [State.flashSelected, hjudged h], by simp [State.flashSent, hjudged h]⟩,
      by simp [State.changedIn_iff]⟩
    have hspeaker : s.speakerAtRest = true := by simp [State.speakerAtRest, hphase, henable]
    rw [exec_dormantEntry, State.dormantTaken, if_pos ⟨hpart, hdone, hspeaker⟩]
  · obtain ⟨hrest, hline, hfloor, hroster, hrenderer, hlevel, hdisplay, hpanel, hscan, hjudged⟩ :=
      ((s.removeFrame .done).offer (.lineAbandoned .done)).enterDormant_effect
    have hevents : ((s.removeFrame .done).offer (.lineAbandoned .done)).events =
        (s.offer (.lineAbandoned .done)).events := State.offer_events_congr _ (by simp)
    refine ⟨_, ?_, by simpa using hevents, by simp, by simpa using hrest, hline, by simpa using hfloor,
      hroster, State.transmitOut_silent _ (by rw [hline]; rfl), by simpa using hrenderer,
      by simpa using hlevel, by simpa using hdisplay, by simpa using hpanel, fun h => ?_,
      fun h => ⟨?_, ?_, ?_⟩, by simp [State.changedIn_iff]⟩
    · rw [exec_settlingLimit, State.settlingRanOut,
        if_pos ⟨hpart, hlimit, Option.isSome_iff_ne_none.mpr hdone⟩]
    · simpa using hscan (by simpa using h)
    all_goals have hflash := hjudged (by simpa using h)
    · simpa using hflash
    · simp [State.flashSelected, hflash]
    · simp [State.flashSent, hflash]

end Sys2Proof.Machine

/-! ## The wake (O54) -/

namespace Sys2Proof.Machine

namespace State

/-! ### A wake is taken (11 R187) -/

/-- The record of a wake, and WAKING for 5 ms. -/
theorem wokenBy_eq (s : State) (source : WakeSource) : s.wokenBy source =
    ((s.setEvents (s.offer (.woke source)).events).setRest
      { s.rest with part := .waking, wakeReport := none }).setTimebase
        { s.timebase with wakeSettle := some 5 } := by
  simp only [wokenBy]
  rw [offer_eq_setEvents]
  rfl

/-- A discarded transaction keeps its mark over the wake (10 R169). -/
theorem wokenBy_selectDiscarded (s : State) (source : WakeSource) :
    s.selectDiscarded.wokenBy source =
      (((s.setEvents (s.offer (.woke source)).events).setRest
        { s.rest with part := .waking, wakeReport := none }).setTimebase
          { s.timebase with wakeSettle := some 5 }).setHost { s.host with discard := true } := by
  have hevents : (s.selectDiscarded.offer (.woke source)).events = (s.offer (.woke source)).events :=
    offer_events_congr _ rfl
  rw [wokenBy_eq, hevents]
  rfl

/-! ### The panel after a wake (09 R164) -/

theorem isSampled_of_waking {s : State} (h : s.rest.part = .waking) (k : Nat) :
    s.isSampled k = true ↔ s.roleOf k = .door ∧ s.settings.wakeSources.door = true ∨
      s.roleOf k = .presence ∧ s.settings.wakeSources.presence = true := by
  simp only [isSampled, h, WakeSources.wakesOn]
  cases s.roleOf k <;> simp

/-- The part as the wake enters ACTIVE: the panel's states from the lines' levels. -/
def awakened (s : State) (levels : BitVec 8) : State :=
  (s.setTimebase { s.timebase with wakeSettle := none }).panelWoken levels

theorem awoken_eq (s : State) (levels : BitVec 8) :
    s.awoken levels = (s.awakened levels).activated.executeHeld := rfl

/-- The levels that the wake finds: a line that is a wake source keeps its filter (09 R164). -/
theorem unsampledTaken_filters {s : State} (h : s.rest.part = .waking) (levels : BitVec 8) :
    (s.unsampledTaken levels).panel.filters = (List.range 8).map fun k =>
      let role := s.settings.roles.getD k .unused
      if role = .door ∧ s.settings.wakeSources.door = true ∨
          role = .presence ∧ s.settings.wakeSources.presence = true then
        s.panel.filters.getD k { level := .low, count := 0, primed := false }
      else { level := if levels.getLsbD k = true then .high else .low, count := 0,
             primed := true } :=
  List.map_congr_left fun k _ => if_congr (isSampled_of_waking h k) rfl rfl

/-- The panel after a wake, from the levels found (09 R164). -/
theorem panelWoken_panel (s : State) (levels : BitVec 8) :
    let found := (s.unsampledTaken levels).panel
    let presence := if s.settings.wakeSources.presence = true then s.panel.presence
      else (s.settings.lineOf .presence).elim .present fun line =>
        if found.atRest s.settings line = true then .absent else .present
    (s.panelWoken levels).panel = { found with
      keysAtRest := (found.keyDown s.settings).isNone,
      door := if s.settings.wakeSources.door = true then s.panel.door
        else (s.settings.lineOf .door).elim .closed fun line =>
          if found.atRest s.settings line = true then .closed else .opened,
      presence := presence,
      sessionTimer := if presence = .absent then some 0 else none } := by
  intro found presence
  rw [panelWoken, sessionStarted_panel]
  cases hdoor : s.settings.wakeSources.door <;> cases hpresence : s.settings.wakeSources.presence <;>
    simp only [presence, hpresence, Bool.false_eq_true, if_false, if_true, presenceTaken_panel,
      doorTaken_panel, doorTaken_keeps] <;> rfl

/-- The panel after a wake, line by line. -/
theorem panelWoken_states (s : State) (levels : BitVec 8) :
    (s.panelWoken levels).panel.filters = (s.unsampledTaken levels).panel.filters ∧
      ((s.panelWoken levels).panel.keysAtRest = true ↔
        ∀ k, k < 8 → (s.settings.roles.getD k .unused).isKey = true →
          (s.panelWoken levels).panel.atRest s.settings k = true) ∧
      (s.panelWoken levels).panel.door = (if s.settings.wakeSources.door = true then s.panel.door
        else (s.settings.lineOf .door).elim .closed fun line =>
          if (s.panelWoken levels).panel.atRest s.settings line = true then .closed else .opened) ∧
      (s.panelWoken levels).panel.presence = (if s.settings.wakeSources.presence = true then
          s.panel.presence
        else (s.settings.lineOf .presence).elim .present fun line =>
          if (s.panelWoken levels).panel.atRest s.settings line = true then .absent else .present) ∧
      (s.panelWoken levels).panel.sessionTimer =
        (if (s.panelWoken levels).panel.presence = .absent then some 0 else none) ∧
      (s.panelWoken levels).panel.language = s.panel.language ∧
      (s.panelWoken levels).panel.holdTimer = s.panel.holdTimer := by
  have hpanel := s.panelWoken_panel levels
  have hfilters : (s.panelWoken levels).panel.filters = (s.unsampledTaken levels).panel.filters := by
    rw [hpanel]
  rw [atRest_congr hfilters, hpanel]
  refine ⟨rfl, ?_, rfl, rfl, rfl, rfl, rfl⟩
  rw [Option.isNone_iff_eq_none, keyDown_eq_none]

@[simp] theorem awakened_keeps (s : State) (levels : BitVec 8) :
    (s.awakened levels).host = s.host ∧ (s.awakened levels).machine = s.machine ∧
      (s.awakened levels).settings = s.settings ∧ (s.awakened levels).agenda = s.agenda ∧
      (s.awakened levels).floor = s.floor ∧ (s.awakened levels).line = s.line ∧
      (s.awakened levels).roster = s.roster ∧ (s.awakened levels).display = s.display ∧
      (s.awakened levels).events = s.events ∧ (s.awakened levels).rest = s.rest ∧
      (s.awakened levels).phraseStore = s.phraseStore ∧ (s.awakened levels).pending = s.pending := by
  simp [awakened]

theorem awakened_panel (s : State) (levels : BitVec 8) :
    (s.awakened levels).panel = (s.panelWoken levels).panel := by
  unfold awakened
  rw [panelWoken_panel, panelWoken_panel]
  rfl

/-- What the entry to ACTIVE changes, before a held request (11 R187). -/
theorem awakened_changedIn (s : State) (levels : BitVec 8) :
    (s.awakened levels).activated.changedIn s (.line :: .roster :: .panel :: Block.followUp) := by
  simp [changedIn_iff, Block.followUp, activated, awakened]

/-- A held request that names a row is executed by the row's command (10 R169). -/
theorem executeHeld_of_row {s : State} {buffer : List Byte} {row : RequestRow}
    (hbuf : s.host.request = some buffer) (hrow : requestRow buffer = some row) :
    exec row.command s = .next s.executeHeld := by
  rw [exec_command, executeHeld]
  simp only [hbuf, hrow]

/-- A held request writes neither the phrase store nor the queue of commands. -/
theorem executeHeld_outside (s : State) : s.executeHeld.phraseStore = s.phraseStore ∧
    s.executeHeld.pending = s.pending :=
  executeHeld_keeps (P := fun u => u.phraseStore = s.phraseStore ∧ u.pending = s.pending) ⟨rfl, rfl⟩
    (fun _ => ⟨rfl, rfl⟩) fun row body _ => by cases row <;> simp [requestEffect]

theorem executeHeld_of_unnamed {s : State} {buffer : List Byte} (hpart : s.rest.part = .active)
    (hbuf : s.host.request = some buffer) (hrow : requestRow buffer = none) :
    s.executeHeld = s.respond .malformed [] := by
  have hexec : s.executes = true := by simp [executes, hpart]
  simp only [executeHeld, hbuf, hrow, hexec, if_true, answerUnnamed_eq, hpart, reduceCtorEq, and_false,
    if_false]

end State

/-- Settles O54: the wake, and the entry to ACTIVE with a held request. -/
theorem wakeLeadsToActive : Obligations.WakeLeadsToActive := by
  refine ⟨fun s event source hpart hreport => ?_, fun s hpart hreport => ⟨?_, fun hhost => ?_,
    fun pin hpin => ?_⟩, fun s levels hpart hsettle => ?_⟩
  · simp only [exec_wake, State.wakeTaken, if_pos hpart, hreport, State.wokenBy_eq]
  · simp only [exec_wake, State.wakeTaken, if_pos hpart, hreport]
  · simp only [exec_wake, State.wakeTaken, if_pos hpart, hreport, State.selectFell,
      hhost, and_self, if_true, State.wokenBy_selectDiscarded]
  · have hno : ¬ (s.settings.wakeSources.host = true ∧ pin = s.settings.qualifier) := by
      rintro ⟨hhost, rfl⟩
      simp [hhost] at hpin
    simp only [exec_wake, State.wakeTaken, if_pos hpart, hreport, State.selectFell, if_neg hno,
      State.selectDiscarded]
  · obtain ⟨hfilters, hkeys, hdoor, hpresence, hsession, hlanguage, hhold⟩ := s.panelWoken_states levels
    rw [State.unsampledTaken_filters hpart] at hfilters
    obtain ⟨hblink, hcount⟩ := (s.awakened levels).activated_stream
    have hended : exec (.wakingEnd levels) s = .next (s.awakened levels).activated.executeHeld := by
      rw [exec_wakingEnd, State.wakingEnded, if_pos ⟨hpart, hsettle⟩, State.awoken_eq]
    have hline := (s.awakened levels).activated_line
    have hroster := (s.awakened levels).activated_roster
    have hchanged := s.awakened_changedIn levels
    obtain ⟨hstore, hpending⟩ := (s.awakened levels).activated.executeHeld_outside
    refine ⟨_, hended, by simpa using hstore, by simpa using hpending, fun hnone => ?_, fun buffer hbuf hrow => ?_,
      fun buffer row hbuf hrow => ?_, fun buffer hbuf hrow code hread => ?_⟩
    · have hheld : (s.awakened levels).activated.executeHeld = (s.awakened levels).activated := by
        simp [State.executeHeld, hnone]
      rw [hheld]
      refine ⟨by simp, by simp [EventQueue.grewFrom_refl], by simp, by simp, by simp, by simpa using hline,
        by simpa using hroster, hblink, hcount, fun hempty hidle => ?_, ?_⟩
      · exact State.activated_compose (by simpa using hempty) (by simpa using hidle)
      · rw [(State.activated_keeps _).2.2.2.2.2.2.2.1, State.awakened_panel]
        refine ⟨hfilters, hkeys, fun h => ?_, fun h => ?_, fun h => ?_, fun h => ?_, hsession, hlanguage,
          hhold, hchanged⟩
        · rw [hdoor, if_pos h]
        · rw [hdoor, if_neg (by simp [h])]
          cases s.settings.lineOf .door <;> rfl
        · rw [hpresence, if_pos h]
        · rw [hpresence, if_neg (by simp [h])]
          cases s.settings.lineOf .presence <;> rfl
    · rw [State.executeHeld_of_unnamed (by simp) (by simpa using hbuf) hrow]
      refine ⟨by simp [State.respond, State.answered], by simp, by simp, State.changedIn_trans ?_
        (State.changedIn_mono hchanged (List.subset_cons_self _ _))⟩
      simp [State.changedIn_iff]
    · exact ⟨_, State.executeHeld_of_row (by simpa using hbuf) hrow, by simp, by simp, by simp,
        by simp [EventQueue.grewFrom_refl], by simp, by simpa using hline, by simpa using hroster, hchanged⟩
    · have hstatus : (s.awakened levels).activated.executeHeld =
          (s.awakened levels).activated.statusEffect [] := by
        have hruns : (s.awakened levels).activated.runs .status [] :=
          ⟨⟨by simp [State.executes], buffer, code, by simpa using hbuf, hrow, hread⟩, rfl⟩
        have hrow := State.executeHeld_of_row (s := (s.awakened levels).activated) (by simpa using hbuf) hrow
        rw [exec_of_runs hruns] at hrow
        exact (Host.Outcome.next.inj hrow).symm
      rw [hstatus]
      refine ⟨by simp [State.statusEffect], by simp [State.statusEffect, State.respond],
        (s.awakened levels).activated.statusHeader ++
          (s.awakened levels).activated.agenda.entries.flatMap Entry.bytes, ?_⟩
      simp [State.statusEffect, State.respond]

end Sys2Proof.Machine

/-! ## SETUP's values (O31) -/

namespace Sys2Proof.Machine

/-! ### Two roles that one line has at most (09 R153) -/

/-- A line keeps its role but for a later line of the role that is kept first. -/
theorem keepFirst_get {r : Role} {rs : List Role} : ∀ {k : Nat} {q : Role}, rs[k]? = some q →
    (keepFirst r rs)[k]? = some q ∨
      (keepFirst r rs)[k]? = some .unused ∧ q = r ∧ ∃ j, j < k ∧ rs[j]? = some r := by
  induction rs with
  | nil => simp
  | cons p rs ih =>
    intro k q hq
    unfold keepFirst
    split
    next hp =>
      cases k with
      | zero => exact .inl hq
      | succ k =>
        rw [List.getElem?_cons_succ] at hq ⊢
        rw [List.getElem?_map, hq]
        by_cases hqr : q = r
        · exact .inr ⟨by simp [hqr], hqr, 0, by omega, by simp [hp]⟩
        · exact .inl (by simp [hqr])
    next hp =>
      cases k with
      | zero => exact .inl hq
      | succ k =>
        rw [List.getElem?_cons_succ] at hq ⊢
        obtain h | ⟨h, hqr, j, hj, hget⟩ := ih hq
        · exact .inl h
        · exact .inr ⟨h, hqr, j + 1, by omega, by simpa using hget⟩

@[simp] theorem keepFirst_length (r : Role) (rs : List Role) :
    (keepFirst r rs).length = rs.length := by
  induction rs with
  | nil => rfl
  | cons p rs ih =>
    unfold keepFirst
    split <;> simp [ih]

/-- A role that a line still has is the line's own. -/
theorem get_of_keepFirst {r q : Role} {rs : List Role} {k : Nat} (hq : q ≠ .unused)
    (h : (keepFirst r rs)[k]? = some q) : rs[k]? = some q := by
  obtain ⟨hlt, -⟩ := List.getElem?_eq_some_iff.mp h
  rw [keepFirst_length] at hlt
  obtain hkept | ⟨hlost, -⟩ := keepFirst_get (r := r) (List.getElem?_eq_getElem hlt)
  · rw [List.getElem?_eq_getElem hlt, ← h, hkept]
  · exact absurd (Option.some.inj (h.symm.trans hlost)) hq

/-- The first line of a role keeps it, and so does a line of another role. -/
theorem keepFirst_first {r q : Role} {rs : List Role} {k : Nat} (hq : rs[k]? = some q)
    (h : q = r → ∀ j, j < k → rs[j]? ≠ some r) : (keepFirst r rs)[k]? = some q := by
  obtain hkept | ⟨-, hqr, j, hj, hget⟩ := keepFirst_get (r := r) hq
  · exact hkept
  · exact absurd hget (h hqr j hj)

/-- One line at most has the role. -/
theorem keepFirst_unique {r : Role} (hr : r ≠ .unused) {rs : List Role} :
    ∀ {i j : Nat}, (keepFirst r rs)[i]? = some r → (keepFirst r rs)[j]? = some r → i = j := by
  induction rs with
  | nil => simp [keepFirst]
  | cons p rs ih =>
    have hnone (k : Nat) : (rs.map fun q => if q = r then Role.unused else q)[k]? ≠ some r := by
      intro h
      rw [List.getElem?_map] at h
      obtain ⟨q, -, hq⟩ := Option.map_eq_some_iff.mp h
      by_cases hqr : q = r
      · exact hr (by simpa [hqr] using hq.symm)
      · simp [hqr] at hq
    intro i j hi hj
    unfold keepFirst at hi hj
    split at hi
    next hp =>
      rw [if_pos hp] at hj
      cases i with
      | zero =>
        cases j with
        | zero => rfl
        | succ j => exact absurd hj (hnone j)
      | succ i => exact absurd hi (hnone i)
    next hp =>
      rw [if_neg hp] at hj
      cases i with
      | zero => exact absurd (Option.some.inj hi) hp
      | succ i =>
        cases j with
        | zero => exact absurd (Option.some.inj hj) hp
        | succ j => exact congrArg _ (ih hi hj)

/-! ### The role codes of eight lines (12 R189) -/

theorem readRoles_eq_none {bs : List Byte} :
    readRoles bs = none ↔ ∃ b ∈ bs, roleOfCode b.toNat = none := by
  induction bs with
  | nil => simp [readRoles]
  | cons b bs ih =>
    unfold readRoles
    cases hb : roleOfCode b.toNat <;> cases hbs : readRoles bs <;> simp_all

theorem readRoles_get {bs : List Byte} : ∀ {roles : List Role}, readRoles bs = some roles →
    roles.length = bs.length ∧ ∀ (k : Nat) (b : Byte), bs[k]? = some b → roles[k]? = roleOfCode b.toNat := by
  induction bs with
  | nil => simp [readRoles]
  | cons b bs ih =>
    intro roles h
    unfold readRoles at h
    split at h
    next r rs hr hrs =>
      obtain rfl := Option.some.inj h
      obtain ⟨hlength, hget⟩ := ih hrs
      refine ⟨by simp [hlength], fun k c hk => ?_⟩
      cases k with
      | zero =>
        obtain rfl := Option.some.inj hk
        exact hr.symm
      | succ k => exact hget k c hk
    · cases h

/-- The bytes of a field of a body. -/
theorem getElem?_field {body : List Byte} {start count k : Nat} (h : start + count ≤ body.length)
    (hk : k < count) : ((body.drop start).take count)[k]? = some (body.getD (start + k) 0) := by
  have hlt : start + k < body.length := by omega
  simp [hk, List.getElem?_drop, hlt]

theorem kindOfCode_eq_none {n : Nat} : kindOfCode n = none ↔ 2 < n := by
  match n with
  | 0 | 1 | 2 => simp [kindOfCode]
  | n + 3 => simp [kindOfCode]

theorem roleOfCode_eq_none {n : Nat} : roleOfCode n = none ↔ 6 < n := by
  match n with
  | 0 | 1 | 2 | 3 | 4 | 5 | 6 => simp [roleOfCode]
  | n + 7 => simp [roleOfCode]

/-! ### The fields of the body (11 R180, 12 R189) -/

/-- The own zone joins the hear mask; the other zones stand. -/
theorem withOwnZone_getLsbD (mask : BitVec 4) {zone : Nat} (hzone : zone ≤ 3) :
    (withOwnZone mask zone).getLsbD zone = true ∧
      ∀ z, z < 4 → z ≠ zone → (withOwnZone mask zone).getLsbD z = mask.getLsbD z := by
  have hshift (z : Nat) (hz : z < 4) : (1#4 <<< zone).getLsbD z = decide (z = zone) := by
    interval_cases zone <;> interval_cases z <;> rfl
  refine ⟨?_, fun z hz hne => ?_⟩
  · simp [withOwnZone, hshift zone (by omega)]
  · simp [withOwnZone, hshift z hz, hne]

/-- A body is MALFORMED for a machine kind, a role, a wake source set or a qualifier outside its set. -/
theorem readSetup_eq_none {body : List Byte} : readSetup body = none ↔
    kindOfCode (body.getD 2 0).toNat = none ∨ readRoles ((body.drop 15).take 8) = none ∨
      8 ≤ (body.getD 28 0).toNat ∨ 2 ≤ (body.getD 29 0).toNat := by
  unfold readSetup
  dsimp only
  split
  next kind roles hkind hroles =>
    rw [hkind, hroles]
    simp only [reduceCtorEq, false_or]
    split <;> simp_all
  next hno =>
    refine ⟨fun _ => ?_, fun _ => rfl⟩
    cases hkind : kindOfCode (body.getD 2 0).toNat with
    | none => exact .inl rfl
    | some kind =>
      cases hroles : readRoles ((body.drop 15).take 8) with
      | none => exact .inr (.inl rfl)
      | some roles => exact absurd hroles (hno kind roles hkind)

/-- The roles of the eight lines. -/
theorem keptRoles_get {roles : List Role} {k : Nat} {role : Role} (h : roles[k]? = some role) :
    ((keepFirst .presence (keepFirst .door roles))[k]? = some role ∨
      (keepFirst .presence (keepFirst .door roles))[k]? = some .unused ∧
        (role = .door ∨ role = .presence) ∧ ∃ j, j < k ∧ roles[j]? = some role) ∧
    ((∀ j, j < k → roles[j]? ≠ some role) →
      (keepFirst .presence (keepFirst .door roles))[k]? = some role) := by
  refine ⟨?_, fun hfirst => ?_⟩
  · obtain hdoor | ⟨hlost, rfl, j, hj, hget⟩ := keepFirst_get (r := .door) h
    · obtain hkept | ⟨hlost, rfl, j, hj, hget⟩ := keepFirst_get (r := .presence) hdoor
      · exact .inl hkept
      · exact .inr ⟨hlost, .inr rfl, j, hj, get_of_keepFirst (by decide) hget⟩
    · exact .inr ⟨keepFirst_first hlost (by simp), .inl rfl, j, hj, hget⟩
  · refine keepFirst_first (keepFirst_first h fun hrole j hj => hrole ▸ hfirst j hj) fun hrole j hj hget => ?_
    exact hfirst j hj (hrole ▸ get_of_keepFirst (by decide) hget)

/-- Settles O31: the ranges, the roles and the bits, field by field. -/
theorem setupValuesAreClamped : Obligations.SetupValuesAreClamped := by
  constructor
  · intro body hlength n
    have hroles : readRoles ((body.drop 15).take 8) = none ↔ ∃ k, k < 8 ∧ 6 < n (15 + k) := by
      rw [readRoles_eq_none]
      simp only [roleOfCode_eq_none]
      constructor
      · rintro ⟨b, hb, hcode⟩
        obtain ⟨k, hk⟩ := List.mem_iff_getElem?.mp hb
        have hlt : k < 8 := by
          have := (List.getElem?_eq_some_iff.mp hk).1
          simp at this
          omega
        rw [getElem?_field (by omega) hlt] at hk
        obtain rfl := Option.some.inj hk
        exact ⟨k, hlt, hcode⟩
      · rintro ⟨k, hlt, hcode⟩
        exact ⟨_, List.mem_of_getElem? (getElem?_field (by omega) hlt), hcode⟩
    rw [readSetup_eq_none, hroles, kindOfCode_eq_none]
  · intro body cfg kind h n
    unfold readSetup at h
    dsimp only at h
    split at h
    next kind' roles hkind hroles =>
      split at h
      · cases h
      obtain ⟨rfl, rfl⟩ := Prod.mk.inj (Option.some.inj h)
      obtain ⟨hzone, hothers⟩ := withOwnZone_getLsbD ((body.getD 1 0).setWidth 4)
        (zone := min (n 0) 3) (by omega)
      refine ⟨rfl, hzone, fun z hz hne => ?_, hkind.symm, rfl, rfl, rfl, rfl, rfl, rfl, rfl, rfl, rfl, rfl,
        fun i j hi hj => ?_, fun i j hi hj => keepFirst_unique (by decide) hi hj, fun k => ⟨rfl, fun hk => ?_⟩,
        rfl, rfl, rfl, rfl, fun hlength => ?_⟩
      · rw [hothers z hz hne]
        simp [hz]
      · exact keepFirst_unique (by decide) (get_of_keepFirst (by decide) hi) (get_of_keepFirst (by decide) hj)
      · interval_cases k <;> rfl
      · obtain ⟨hcount, hget⟩ := readRoles_get hroles
        have hrole (k : Nat) (role : Role) (hk : k < 8) (hcode : roleOfCode (n (15 + k)) = some role) :
            roles[k]? = some role := by
          rw [hget k _ (getElem?_field (by omega) hk), hcode]
        have hcode (k : Nat) (role : Role) (hk : k < 8) (hrole : roles[k]? = some role) :
            roleOfCode (n (15 + k)) = some role := by
          rw [← hrole, hget k _ (getElem?_field (by omega) hk)]
        refine ⟨by simp [hcount, hlength], ⟨roles, hroles, rfl⟩, fun k role hk h => ?_,
          fun k role hk h hfirst => ?_, ?_⟩
        · obtain hkept | ⟨hlost, hkey, j, hj, hearlier⟩ := (keptRoles_get (hrole k role hk h)).1
          · exact .inl hkept
          · exact .inr ⟨hlost, hkey, j, hj, hcode j role (by omega) hearlier⟩
        · exact (keptRoles_get (hrole k role hk h)).2 fun j hj hearlier =>
            hfirst j hj (hcode j role (by omega) hearlier)
        · refine List.ext_getElem? fun k => ?_
          by_cases hk : k < 4
          · rw [List.getElem?_map, getElem?_field (by omega) hk, List.getElem?_map,
              List.getElem?_range hk]
            rfl
          · simp [hk]
    · cases h

end Sys2Proof.Machine

/-! ## Entries through the tests, the second and the cadence (O6, O7, O8) -/

namespace Sys2Proof.Machine

/-- An entry after the tests is the one before, but for its marks, or its play has begun (01 R7, R8). -/
def Entry.StandsOrPlays (q' q : Entry) : Prop :=
  q'.bare = q.bare ∨ ∃ u : State, q'.bare = u.playing q.bare

namespace Entry.StandsOrPlays

theorem refl (q : Entry) : q.StandsOrPlays q := .inl rfl

theorem trans {a b c : Entry} (h : a.StandsOrPlays b) (g : b.StandsOrPlays c) : a.StandsOrPlays c := by
  obtain h | ⟨u, h⟩ := h
  · obtain g | ⟨v, g⟩ := g
    · exact .inl (h.trans g)
    · exact .inr ⟨v, h.trans g⟩
  · obtain g | ⟨v, g⟩ := g
    · exact .inr ⟨u, h.trans (congrArg u.playing g)⟩
    · exact .inr ⟨u, h.trans ((congrArg u.playing g).trans rfl)⟩

/-- A play that begins leaves ticket, credit, counts and the replay flag, and sets the wait to 0. -/
theorem fields {q' q : Entry} (h : q'.StandsOrPlays q) :
    q'.ticket = q.ticket ∧ q'.due = q.due ∧ q'.remaining = q.remaining ∧ q'.plays = q.plays ∧
      q'.replay = q.replay ∧ q'.post = q.post ∧
      (q'.wait = q.wait ∧ q'.state = q.state ∨ q'.wait = 0 ∧ q'.state = .playing) := by
  obtain h | ⟨u, h⟩ := h
  all_goals have hfield {α : Type} (f : Entry → α) := congrArg f h
  · exact ⟨hfield Entry.ticket, hfield Entry.due, hfield Entry.remaining, hfield Entry.plays,
      hfield Entry.replay, hfield Entry.post, .inl ⟨hfield Entry.wait, hfield Entry.state⟩⟩
  · exact ⟨hfield Entry.ticket, hfield Entry.due, hfield Entry.remaining, hfield Entry.plays,
      hfield Entry.replay, hfield Entry.post, .inr ⟨hfield Entry.wait, hfield Entry.state⟩⟩

end Entry.StandsOrPlays

namespace State

/-! ### A play that starts: the dues and each entry -/

theorem dues_of_started {s t u : State} {ticket : Nat}
    (h : t.agenda.bare = s.agenda.bare.map fun q => if q.ticket = ticket then u.playing q else q) :
    t.agenda.dues = s.agenda.dues := by
  rw [Agenda.dues_eq_bare, h, Agenda.dues_eq_bare, List.map_map]
  refine List.map_congr_left fun q _ => ?_
  rw [Function.comp_apply, apply_ite Entry.due]
  exact ite_id _

theorem find_of_started {s t u : State} {ticket ticket' : Nat} {q : Entry}
    (h : t.agenda.bare = s.agenda.bare.map fun q => if q.ticket = ticket then u.playing q else q)
    (hq : s.agenda.find ticket' = some q) :
    ∃ q', t.agenda.find ticket' = some q' ∧ q'.StandsOrPlays q := by
  have hticket : ((fun e : Entry => e.ticket == ticket') ∘ fun q =>
      if q.ticket = ticket then u.playing q else q) = fun e => e.ticket == ticket' := by
    funext e
    rw [Function.comp_apply]
    split <;> rfl
  have hfind : (t.agenda.find ticket').map Entry.bare =
      some (if q.bare.ticket = ticket then u.playing q.bare else q.bare) := by
    rw [Agenda.find_bare, h, List.find?_map, hticket, ← Agenda.find_bare, hq]
    rfl
  obtain ⟨q', hq', hbare⟩ := Option.map_eq_some_iff.mp hfind
  refine ⟨q', hq', ?_⟩
  by_cases hplays : q.bare.ticket = ticket
  · exact .inr ⟨u, by rw [hbare, if_pos hplays]⟩
  · exact .inl (by rw [hbare, if_neg hplays])

theorem find_of_bare {s t : State} {ticket : Nat} {q : Entry} (h : t.agenda.bare = s.agenda.bare)
    (hq : s.agenda.find ticket = some q) :
    ∃ q', t.agenda.find ticket = some q' ∧ q'.StandsOrPlays q := by
  obtain ⟨q', hq', hbare⟩ := Agenda.find_of_bare_eq h hq
  exact ⟨q', hq', .inl hbare⟩

/-- The floor unit's test starts a play, or leaves the entries. -/
theorem floorTest_bare (s : State) : s.floorTest.agenda.bare = s.agenda.bare ∨ ∃ ticket,
    s.floorTest.agenda.bare =
      s.agenda.bare.map fun q => if q.ticket = ticket then s.playing q else q := by
  unfold floorTest
  split
  · split
    next e _ =>
      split
      · exact .inr ⟨e.ticket, s.isolatedStart_bare e⟩
      · split
        · exact .inl (by simp)
        · exact .inl rfl
    · exact .inl rfl
    · exact .inl rfl
  · exact .inl rfl

theorem localStart_bare (s : State) : s.localStart.agenda.bare = s.agenda.bare ∨ ∃ ticket,
    s.localStart.agenda.bare =
      s.agenda.bare.map fun q => if q.ticket = ticket then s.playing q else q := by
  obtain h | ⟨e, route, -, -, -, -, -, -, h⟩ := s.localStart_cases
  · exact .inl (by rw [h])
  · exact .inr ⟨e.ticket, by rw [h, s.startPlay_bare e route]⟩

/-- The tests after an event leave the dues. -/
@[simp] theorem followUp_dues (s : State) : s.followUp.agenda.dues = s.agenda.dues := by
  have hfloor (u : State) : u.floorTest.agenda.dues = u.agenda.dues := by
    obtain h | ⟨ticket, h⟩ := u.floorTest_bare
    · rw [Agenda.dues_eq_bare, h, Agenda.dues_eq_bare]
    · exact dues_of_started h
  have hlocal (u : State) : u.localStart.agenda.dues = u.agenda.dues := by
    obtain h | ⟨ticket, h⟩ := u.localStart_bare
    · rw [Agenda.dues_eq_bare, h, Agenda.dues_eq_bare]
    · exact dues_of_started h
  simp [followUp, hfloor, hlocal, Agenda.dues_eq_bare]

/-- An entry is found after the tests: it stands, or its play has begun. -/
theorem followUp_find {s : State} {ticket : Nat} {q : Entry} (hq : s.agenda.find ticket = some q) :
    ∃ q', s.followUp.agenda.find ticket = some q' ∧ q'.StandsOrPlays q := by
  obtain ⟨q1, hq1, h1⟩ := find_of_bare (t := s.selectOwner) (by simp) hq
  obtain ⟨q2, hq2, h2⟩ : ∃ q', s.selectOwner.localStart.agenda.find ticket = some q' ∧
      q'.StandsOrPlays q1 := by
    obtain h | ⟨_, h⟩ := s.selectOwner.localStart_bare
    exacts [find_of_bare h hq1, find_of_started h hq1]
  obtain ⟨q3, hq3, h3⟩ : ∃ q', s.selectOwner.localStart.floorTest.agenda.find ticket = some q' ∧
      q'.StandsOrPlays q2 := by
    obtain h | ⟨_, h⟩ := s.selectOwner.localStart.floorTest_bare
    exacts [find_of_bare h hq2, find_of_started h hq2]
  exact ⟨q3, by simpa [followUp] using hq3, (h3.trans h2).trans h1⟩

theorem mem_of_started {s t u : State} {ticket : Nat} {q : Entry}
    (h : t.agenda.bare = s.agenda.bare.map fun q => if q.ticket = ticket then u.playing q else q)
    (hq : q ∈ s.agenda.entries) : ∃ q' ∈ t.agenda.entries, q'.StandsOrPlays q := by
  have hmem : (if q.bare.ticket = ticket then u.playing q.bare else q.bare) ∈ t.agenda.bare := by
    rw [h]
    exact List.mem_map.mpr ⟨q.bare, List.mem_map.mpr ⟨q, hq, rfl⟩, rfl⟩
  obtain ⟨q', hq', hbare⟩ := List.mem_map.mp hmem
  refine ⟨q', hq', ?_⟩
  by_cases hplays : q.bare.ticket = ticket
  · exact .inr ⟨u, by rw [hbare, if_pos hplays]⟩
  · exact .inl (by rw [hbare, if_neg hplays])

theorem mem_of_bare {s t : State} {q : Entry} (h : t.agenda.bare = s.agenda.bare)
    (hq : q ∈ s.agenda.entries) : ∃ q' ∈ t.agenda.entries, q'.StandsOrPlays q := by
  obtain ⟨q', hq', hbare⟩ := Agenda.mem_of_bare_eq h hq
  exact ⟨q', hq', .inl hbare⟩

/-- An entry of the agenda is there after the tests: it stands, or its play has begun. -/
theorem followUp_mem {s : State} {q : Entry} (hq : q ∈ s.agenda.entries) :
    ∃ q' ∈ s.followUp.agenda.entries, q'.StandsOrPlays q := by
  obtain ⟨q1, hq1, h1⟩ := mem_of_bare (t := s.selectOwner) (by simp) hq
  obtain ⟨q2, hq2, h2⟩ : ∃ q' ∈ s.selectOwner.localStart.agenda.entries, q'.StandsOrPlays q1 := by
    obtain h | ⟨_, h⟩ := s.selectOwner.localStart_bare
    exacts [mem_of_bare h hq1, mem_of_started h hq1]
  obtain ⟨q3, hq3, h3⟩ : ∃ q' ∈ s.selectOwner.localStart.floorTest.agenda.entries,
      q'.StandsOrPlays q2 := by
    obtain h | ⟨_, h⟩ := s.selectOwner.localStart.floorTest_bare
    exacts [mem_of_bare h hq2, mem_of_started h hq2]
  exact ⟨q3, by simpa [followUp] using hq3, (h3.trans h2).trans h1⟩

/-- The tests change the idle timer alone of rest control (11 R182). -/
theorem followUp_rest (s : State) :
    s.followUp.rest = { s.rest with idleTimer := s.followUp.rest.idleTimer } := by
  have hidle (u : State) : u.idleTest.rest = { u.rest with idleTimer := u.idleTest.rest.idleTimer } := by
    unfold idleTest
    split <;> rfl
  rw [followUp, hidle]
  simp

/-- The tests leave the quiet age (02 R38). -/
@[simp] theorem followUp_quietAge (s : State) : s.followUp.floor.quietAge = s.floor.quietAge := by
  have hfloor (u : State) : u.floorTest.floor.quietAge = u.floor.quietAge := by
    unfold floorTest
    (repeat' split) <;> simp [isolatedStart, setCtx, requestEstimate]
  simp [followUp, hfloor]

/-! ### The agenda's test while an entry is PLAYING (02 R37) -/

/-- While an entry is PLAYING a due reminder and the replay flag make an entry READY, and a pull-in does not. -/
theorem tested_of_isPlaying {s : State} (h : s.agenda.isPlaying = true) (e : Entry) :
    e.tested s = e.madeReady s.panel.presence := by
  have heligible : s.eligible e = true ↔ e.post.isSilent = false ∧
      ((1 ≤ e.owed ∧ gateOpen s.panel.presence e.post.cls = true) ∨ e.replay = true) := by
    simp [eligible, Entry.eligible, Entry.pullsIn, h]
  simp only [Entry.tested, Entry.madeReady, heligible]

@[simp] theorem testEligible_isPlaying (s : State) :
    s.testEligible.agenda.isPlaying = s.agenda.isPlaying := by
  have hstate (e : Entry) : ((e.tested s).state == .playing) = (e.state == .playing) := by
    unfold Entry.tested
    split
    next h => simp [h.1]
    · rfl
  simp [Agenda.isPlaying_eq_bare, testEligible_bare, List.any_map, Function.comp_def, hstate]

@[simp] theorem testEligible_dues (s : State) : s.testEligible.agenda.dues = s.agenda.dues := by
  rw [Agenda.dues_eq_bare, testEligible_bare, List.map_map, Agenda.dues_eq_bare]
  refine List.map_congr_left fun e _ => ?_
  rw [Function.comp_apply, Entry.tested, apply_ite Entry.due]
  exact ite_id _

/-- While an entry is PLAYING the agenda's test and the tests after it make the due entries READY. -/
theorem credits_of_isPlaying {s : State} (h : s.agenda.isPlaying = true) :
    s.testEligible.followUp.agenda.credits =
      s.agenda.bare.map fun e => (e.madeReady s.panel.presence).credit := by
  rw [Agenda.credits_eq_bare, followUp_bare_of_isPlaying (by simpa using h), testEligible_bare,
    List.map_map]
  exact List.map_congr_left fun e _ => congrArg Entry.credit (tested_of_isPlaying h e)

end State

theorem Entry.madeReady_bare (e : Entry) (presence : Presence) :
    (e.madeReady presence).bare = e.bare.madeReady presence := by
  unfold Entry.madeReady
  exact apply_ite bare _ _ _

/-- The gate is open for every class with a user at the machine, and for the others always (02 R39). -/
theorem gateOpen_iff {presence : Presence} {cls : PromptClass} : gateOpen presence cls = true ↔
    presence = .present ∨ cls = .safety ∨ cls = .action ∨ cls = .ending := by
  cases presence <;> cases cls <;> decide

/-! ### The second (02 R27, R34, R38) -/

namespace State

theorem secondCounted_isPlaying (s : State) :
    s.secondCounted.agenda.isPlaying = s.agenda.isPlaying := by
  simp [Agenda.isPlaying_eq_bare, secondCounted_bare, List.any_map, Function.comp_def, Entry.second]

theorem secondCounted_blocks (s : State) :
    s.secondCounted.timebase.seconds = s.timebase.seconds + 1 ∧
      s.secondCounted.floor.quietAge =
        (if s.floor.holders = [] then min 255 (s.floor.quietAge + 1) else 0) ∧
      s.secondCounted.roster = { s.roster with
        beaconTimer := s.roster.beaconTimer.map (· - 1),
        duplicateTimer := s.roster.duplicateTimer.map (· - 1) } ∧
      s.secondCounted.panel = { s.panel with
        sessionTimer := s.panel.sessionTimer.map fun n => min 120 (n + 1) } ∧
      s.secondCounted.rest = { s.rest with
        idleTimer := countUp s.settings.idleTime s.rest.idleTimer } := by
  refine ⟨by simp [secondCounted], ?_, by simp [secondCounted, countDown], by simp [secondCounted, countUp],
    by simp [secondCounted]⟩
  simp [secondCounted]

/-- The tests of an agenda leave the seconds that have been counted. -/
@[simp] theorem followUp_seconds (s : State) :
    s.followUp.timebase.seconds = s.timebase.seconds := by
  have hstart (u : State) (e : Entry) (route : Route) :
      (u.startPlay e route).timebase.seconds = u.timebase.seconds := by
    unfold startPlay
    dsimp only
    split <;> simp
  have hlocal (u : State) : u.localStart.timebase.seconds = u.timebase.seconds := by
    obtain h | ⟨e, route, -, -, -, -, -, -, h⟩ := u.localStart_cases <;> rw [h]
    exact hstart _ _ _
  have hfloor (u : State) : u.floorTest.timebase.seconds = u.timebase.seconds := by
    unfold floorTest
    (repeat' split) <;> simp [isolatedStart, hstart, requestEstimate]
  simp [followUp, hfloor, hlocal]

end State

/-- Settles O6: the counts of the second, and what the agenda's test makes READY. -/
theorem secondTickAgesEntriesAndTimers : Obligations.SecondTickAgesEntriesAndTimers := by
  intro s hclock
  obtain ⟨hseconds, hquiet, hroster, hpanel, hrest⟩ := s.secondCounted_blocks
  refine ⟨_, exec_tick1s s, ?_⟩
  rw [State.secondTicked, if_pos hclock]
  refine ⟨by simp, by simpa using hseconds, by simpa using hquiet, by simp, by simp, by simpa using hroster,
    by simpa using hpanel, ?_, ?_, by simp [State.changedIn_iff, Block.followUp], ?_,
    fun e he start hidle hwaiting hsilent howed hahead hinterval hremaining hstart hpast hgate hquietGap => ?_,
    fun hplaying => ?_⟩
  · rw [State.followUp_rest]
    simp [hrest]
  · have hempty : s.secondCounted.testEligible.agenda.entries = [] ↔ s.agenda.entries = [] :=
      State.entries_eq_nil_of_ids (by simp)
    simp only [State.followUp_idleTimer, hempty]
    cases htimer : s.rest.idleTimer <;> simp [hrest, hpanel, countUp, htimer]
  · simp only [State.followUp_dues, State.testEligible_dues]
    rw [Agenda.dues_eq_bare, State.secondCounted_bare, List.map_map, Agenda.bare, List.map_map]
    rfl
  · have hmem : (e.second).tested s.secondCounted ∈ s.secondCounted.testEligible.agenda.entries :=
      List.mem_map_of_mem (List.mem_map_of_mem he)
    have heligible : s.secondCounted.eligible e.second = true := by
      have hopen := gateOpen_iff.mpr hgate
      have hplays := s.secondCounted_isPlaying.trans hidle
      simp only [State.followUp_quietAge, State.testEligible_keeps] at hquietGap
      simp [State.eligible, Entry.eligible, Entry.pullsIn, Entry.second, hseconds, hpanel, hsilent, howed, hahead,
        hinterval, hremaining, hstart, hpast, hopen, hplays, hquietGap]
    obtain ⟨q, hq, hstands⟩ := State.followUp_mem hmem
    have htested : (e.second).tested s.secondCounted = { e.second with state := .ready, wait := 0 } :=
      if_pos ⟨hwaiting, heligible⟩
    rw [htested] at hstands
    obtain ⟨hticket, -, -, -, -, -, ⟨hwait, hstate⟩ | ⟨hwait, hstate⟩⟩ := hstands.fields
    · exact ⟨q, hq, hticket, hwait, .inl hstate⟩
    · exact ⟨q, hq, hticket, hwait, .inr hstate⟩
  · rw [State.credits_of_isPlaying (by rwa [State.secondCounted_isPlaying]), State.secondCounted_bare]
    simp only [Agenda.bare, List.map_map]
    refine List.map_congr_left fun e _ => ?_
    have hpresence : s.secondCounted.panel.presence = s.panel.presence := by rw [hpanel]
    change ((e.second.bare).madeReady s.secondCounted.panel.presence).credit =
      (e.second.madeReady s.panel.presence).credit
    rw [hpresence, ← Entry.madeReady_bare, Entry.bare_credit]

/-! ### The cadence (02 R35, R40) -/

theorem Entry.cadenceStep_eq (e : Entry) : e.cadenceStep = { e with
    cadence := some e.post.interval, ahead := e.ahead - 1,
    owed := if e.ahead = 0 ∧ e.owed < 8 then e.owed + 1 else e.owed } := by
  unfold Entry.cadenceStep
  by_cases hahead : e.ahead = 0
  · by_cases howed : e.owed < 8 <;> simp [hahead, howed]
  · simp [hahead, Nat.pos_of_ne_zero hahead]

/-- Settles O7: the cadence step, and the accounting of a play by its kind. -/
theorem creditIsRaisedAndSpent : Obligations.CreditIsRaisedAndSpent := by
  refine ⟨fun s e he hcadence => ?_, fun e => ⟨fun hkind => ?_, fun hkind => ?_⟩⟩
  · refine ⟨_, exec_cadenceExpiry s e.ticket, ?_⟩
    simp only [State.cadenceExpired, he, if_pos hcadence]
    have hstep (q : Entry) : (if q.ticket = e.ticket then q.cadenceStep else q) =
        if q.ticket = e.ticket then
          { q with cadence := some q.post.interval, ahead := q.ahead - 1,
                   owed := if q.ahead = 0 ∧ q.owed < 8 then q.owed + 1 else q.owed }
        else q := by
      rw [Entry.cadenceStep_eq]
    refine ⟨by simp, by simp [State.changedIn_iff, Block.followUp], ?_, fun hplaying => ?_⟩
    · rw [State.followUp_dues, State.testEligible_dues]
      simp only [State.setAgenda_agenda, Agenda.dues, Agenda.modify, List.map_map]
      refine List.map_congr_left fun q _ => ?_
      rw [Function.comp_apply, hstep]
      split <;> rfl
    · have hstill : (s.setAgenda (s.agenda.modify e.ticket Entry.cadenceStep)).agenda.isPlaying =
          true := by
        simp only [State.setAgenda_agenda, Agenda.isPlaying, Agenda.modify, List.any_map] at hplaying ⊢
        rw [← hplaying]
        refine congrArg s.agenda.entries.any (funext fun q => ?_)
        rw [Function.comp_apply, hstep]
        split <;> rfl
      rw [State.credits_of_isPlaying hstill]
      simp only [State.setAgenda_agenda, State.setAgenda_panel, Agenda.bare, Agenda.modify, List.map_map]
      refine List.map_congr_left fun q _ => ?_
      simp only [Function.comp_apply, hstep, ← Entry.madeReady_bare, Entry.bare_credit]
  · obtain hkind | hkind := hkind
    · simp [Entry.account, hkind]
    · by_cases howed : e.owed = 0 <;> simp [Entry.account, hkind, howed]
  · simp [Entry.account, hkind]

end Sys2Proof.Machine

/-! ## Entries that retire, and the requests to the agenda (O8, O33, O34, O35, O36)

A PLAYING entry that retires stays until its play ends, and its renderer is asked to stop; any other leaves at once,
with its record (01 R9, R19, R20). -/

namespace Sys2Proof.Machine

/-! ### End requests and the renderer's stop (01 R9, 06 R118, R119) -/

theorem EndRequest.merge_eq_asked (old new : EndRequest) : old.merge new = old.asked new := by
  cases old with
  | none => rfl
  | interrupt => cases new <;> rfl
  | retire o =>
    cases new with
    | none => cases o <;> rfl
    | interrupt => cases o <;> rfl
    | retire o' => cases o <;> cases o' <;> rfl

/-- An end request set on an entry merges with the one that stands. -/
theorem Entry.request_endRequest (e : Entry) (r : EndRequest) :
    (e.request r).endRequest = e.endRequest.asked r := by
  rw [← EndRequest.merge_eq_asked]
  unfold Entry.request
  split <;> simp_all

/-- An end request changes neither the credit of an entry nor its successor. -/
theorem Entry.request_fields (e : Entry) (r : EndRequest) :
    (e.request r).credit = e.credit ∧ (e.request r).id = e.id ∧ (e.request r).state = e.state ∧
      (e.request r).ticket = e.ticket := by
  unfold Entry.request
  split <;> exact ⟨rfl, rfl, rfl, rfl⟩

/-- A retirement request stops the expiry timer (01 R21). -/
theorem Entry.request_retire (e : Entry) (o : Retirement) :
    (e.request (.retire o)).expiryTimer = none := by
  unfold Entry.request
  cases h : e.endRequest with
  | none => rfl
  | interrupt => rfl
  | retire o' => cases o' <;> cases o <;> rfl

namespace State

/-- A cut request, as the renderer sees it (06 R118). -/
theorem cutPlay_renderer (s : State) : s.cutPlay.renderer = s.renderer.cut := by
  cases hplay : s.renderer.play with
  | none => simp [cutPlay, Renderer.cut, hplay]
  | some p =>
    simp only [cutPlay, Renderer.cut, hplay]
    cases s.renderer.phase <;> simp

/-- A fade request, as the renderer sees it (06 R119). -/
theorem fadePlay_renderer (s : State) : s.fadePlay.renderer = s.renderer.faded s.level.dac := by
  cases hplay : s.renderer.play with
  | none => simp [fadePlay, Renderer.faded, hplay]
  | some p =>
    simp only [fadePlay, Renderer.faded, hplay]
    split <;> simp

theorem stopEntry_agenda (s : State) (ticket : Nat) (r : EndRequest) (how : StopKind) :
    (s.stopEntry ticket r how).agenda = s.agenda.modify ticket fun e => e.request r := by
  cases how <;> simp [stopEntry]

theorem stopEntry_renderer (s : State) (ticket : Nat) (r : EndRequest) :
    (s.stopEntry ticket r .cut).renderer = s.renderer.cut := by
  simp [stopEntry, cutPlay_renderer]

end State

/-- The entry of a ticket, once an update that keeps tickets is made to it. -/
theorem Agenda.find_modify (a : Agenda) (ticket ticket' : Nat) {f : Entry → Entry}
    (hf : ∀ e, (f e).ticket = e.ticket) : (a.modify ticket f).find ticket' =
      (a.find ticket').map fun e => if e.ticket = ticket then f e else e := by
  have hticket : ((fun e : Entry => e.ticket == ticket') ∘ fun e =>
      if e.ticket = ticket then f e else e) = fun e => e.ticket == ticket' := by
    funext e
    rw [Function.comp_apply]
    split <;> simp [hf]
  rw [Agenda.find, Agenda.modify, List.find?_map, hticket]
  rfl

theorem Agenda.find_ticket {a : Agenda} {ticket : Nat} {e : Entry} (h : a.find ticket = some e) :
    e.ticket = ticket := by
  simpa using List.find?_some h

theorem Agenda.isPlaying_of_find {a : Agenda} {ticket : Nat} {e : Entry} (h : a.find ticket = some e)
    (hplaying : e.state = .playing) : a.isPlaying = true :=
  List.any_eq_true.mpr ⟨e, List.mem_of_find?_eq_some h, by simp [hplaying]⟩

namespace State

theorem stopEntry_isPlaying (s : State) (ticket : Nat) (r : EndRequest) (how : StopKind) :
    (s.stopEntry ticket r how).agenda.isPlaying = s.agenda.isPlaying := by
  rw [stopEntry_agenda, Agenda.isPlaying, Agenda.modify, List.any_map, Agenda.isPlaying]
  refine congrArg s.agenda.entries.any (funext fun q => ?_)
  rw [Function.comp_apply]
  split
  · rw [(q.request_fields r).2.2.1]
  · rfl

/-- What a stop leaves of the agenda: ids, credits and the end request of the entry (01 R9). -/
theorem stopEntry_credits (s : State) (ticket : Nat) (r : EndRequest) (how : StopKind) :
    (s.stopEntry ticket r how).agenda.credits = s.agenda.credits := by
  rw [stopEntry_agenda, Agenda.credits, Agenda.modify, List.map_map, Agenda.credits]
  refine List.map_congr_left fun q _ => ?_
  rw [Function.comp_apply]
  split <;> simp [Entry.request_fields]

theorem stopEntry_find {s : State} {ticket : Nat} {e : Entry} (h : s.agenda.find ticket = some e)
    (r : EndRequest) (how : StopKind) :
    (s.stopEntry ticket r how).agenda.find ticket = some (e.request r) := by
  rw [stopEntry_agenda, Agenda.find_modify _ _ _ fun q => (q.request_fields r).2.2.2, h]
  exact congrArg some (if_pos (Agenda.find_ticket h))

/-- While an entry is PLAYING the tests leave what the bare entries show, and the renderer. -/
theorem followUp_renderer_of_isPlaying {s : State} (h : s.agenda.isPlaying = true) :
    s.followUp.renderer = s.renderer := by
  simp [followUp_of_isPlaying h]

theorem followUp_credits_of_isPlaying {s : State} (h : s.agenda.isPlaying = true) :
    s.followUp.agenda.credits = s.agenda.credits := by
  rw [Agenda.credits_eq_bare, followUp_bare_of_isPlaying h, ← Agenda.credits_eq_bare]

theorem followUp_find_of_isPlaying {s : State} (h : s.agenda.isPlaying = true) {ticket : Nat}
    {q q' : Entry} (hq : s.agenda.find ticket = some q)
    (hq' : s.followUp.agenda.find ticket = some q') : q'.bare = q.bare := by
  obtain ⟨q'', hfind, hbare⟩ := Agenda.find_of_bare_eq (followUp_bare_of_isPlaying h) hq
  rwa [Option.some.inj (hq'.symm.trans hfind)]

/-- While an entry is PLAYING, a stop and the tests after it: the entry of the ticket takes the request, and the
renderer the cut (01 R9, 06 R118). -/
theorem stopEntry_followUp {s : State} (h : s.agenda.isPlaying = true) (ticket : Nat) (r : EndRequest) :
    (s.stopEntry ticket r .cut).followUp.agenda.ids = s.agenda.ids ∧
      (s.stopEntry ticket r .cut).followUp.agenda.credits = s.agenda.credits ∧
      (s.stopEntry ticket r .cut).followUp.renderer = s.renderer.cut ∧
      ∀ was q, s.agenda.find ticket = some was →
        (s.stopEntry ticket r .cut).followUp.agenda.find ticket = some q →
        q.bare = (was.request r).bare := by
  have hplaying : (s.stopEntry ticket r .cut).agenda.isPlaying = true := by
    rwa [stopEntry_isPlaying]
  refine ⟨by simp, ?_, ?_, fun was q hwas hq => ?_⟩
  · rw [followUp_credits_of_isPlaying hplaying, stopEntry_credits]
  · rw [followUp_renderer_of_isPlaying hplaying, stopEntry_renderer]
  · exact followUp_find_of_isPlaying hplaying (stopEntry_find hwas r .cut) hq

/-! ### An entry that is not PLAYING retires (01 R19, R20) -/

theorem dropEntry_events (s t : State) (e : Entry) (outcome : Retirement) (h : s.events = t.events)
    (q : EventQueue) (hq : (t.offer (.retired e.ticket e.post.topic outcome e.plays)).events.grewFrom q) :
    (s.dropEntry e outcome).events.grewFrom q := by
  have hleave : (s.leaveEntry e outcome).events =
      (t.offer (.retired e.ticket e.post.topic outcome e.plays)).events :=
    offer_events_congr _ h
  refine selectOwner_grew _ _ ?_
  rwa [hleave]

/-- An entry that is not PLAYING leaves with its record. -/
theorem retireEntry_of_not_playing {s : State} {e : Entry} (h : e.state ≠ .playing)
    (outcome : Retirement) :
    (s.retireEntry e outcome).agenda.ids = s.agenda.ids.filter (·.1 != e.ticket) ∧
      (s.retireEntry e outcome).events.grewFrom
        (s.offer (.retired e.ticket e.post.topic outcome e.plays)).events := by
  refine ⟨by rw [retireEntry_ids, if_neg h], ?_⟩
  have hdrop (u : State) (hu : u.events = s.events) := dropEntry_events u s e outcome hu _
    (EventQueue.grewFrom_refl _)
  unfold retireEntry
  cases hstate : e.state with
  | waiting => exact hdrop s rfl
  | ready => exact hdrop s rfl
  | bidding => exact hdrop s.lostCandidate (by simp)
  | playing => exact absurd hstate h

theorem retireEntry_of_playing {s : State} {e : Entry} (h : e.state = .playing) (outcome : Retirement) :
    s.retireEntry e outcome = s.stopEntry e.ticket (.retire outcome) .cut := by
  simp [retireEntry, h]

end State

/-- Settles O8: the entry leaves, or its play is asked to end. -/
theorem expiryRetiresTheEntry : Obligations.ExpiryRetiresTheEntry := by
  intro s e he htimer
  have htaken : s.expiryTaken e.ticket = (s.retireEntry e .expired).followUp := by
    simp only [State.expiryTaken, he, if_pos htimer]
  refine ⟨_, exec_expired s e.ticket, ?_⟩
  rw [htaken]
  refine ⟨by simp [State.changedIn_iff, Block.followUp], fun hstate => ?_, fun hstate => ?_⟩
  · obtain ⟨hids, hevents⟩ := State.retireEntry_of_not_playing (s := s) hstate .expired
    exact ⟨by simpa using hids, State.followUp_grew _ _ hevents⟩
  · rw [State.retireEntry_of_playing hstate]
    obtain ⟨hids, hcredits, hrenderer, hfind⟩ := State.stopEntry_followUp
      (Agenda.isPlaying_of_find he hstate) e.ticket (.retire .expired)
    refine ⟨hids, hcredits, hrenderer, fun e' he' => ?_⟩
    have hbare := hfind e e' he he'
    have hend : e'.endRequest = e.endRequest.asked (.retire .expired) :=
      (congrArg Entry.endRequest hbare).trans (e.request_endRequest _)
    refine ⟨(congrArg Entry.expiryTimer hbare).trans (e.request_retire _), fun h => ?_, fun o h => ?_⟩
    · rw [hend]
      obtain h | h := h <;> rw [h] <;> rfl
    · rw [hend, h]
      cases o <;> rfl

end Sys2Proof.Machine

/-! ## WITHDRAW (O36) -/

namespace Sys2Proof.Machine

namespace State

/-! ### WITHDRAW (01 R22) -/

/-- A staged successor retires first, with plays 0. -/
theorem retireSuccessor_eq (s : State) (q : Option Successor) (outcome : Retirement) :
    s.retireSuccessor q outcome =
      q.elim s fun q => s.offer (.retired q.ticket q.post.topic outcome 0) := by
  cases q <;> rfl

/-- An entry once its staged successor has left. -/
def unstaged (s : State) (e : Entry) (outcome : Retirement) : State :=
  let s1 := s.retireSuccessor e.successor outcome
  s1.setAgenda (s1.agenda.modify e.ticket (Entry.staged none))

theorem unstaged_ids (s : State) (e : Entry) (outcome : Retirement) :
    (s.unstaged e outcome).agenda.ids =
      s.agenda.ids.map fun i => if i.1 = e.ticket then (i.1, i.2.1, none) else i := by
  simp [unstaged, ids_modify_staged]

theorem unstaged_events (s : State) (e : Entry) (outcome : Retirement) :
    (s.unstaged e outcome).events = (s.retireSuccessor e.successor outcome).events := rfl

theorem unstaged_agenda (s : State) (e : Entry) (outcome : Retirement) :
    (s.unstaged e outcome).agenda = s.agenda.modify e.ticket (Entry.staged none) := by
  simp [unstaged]

theorem unstaged_renderer (s : State) (e : Entry) (outcome : Retirement) :
    (s.unstaged e outcome).renderer = s.renderer := by
  simp [unstaged]

theorem withdrawEntry_eq (s : State) (e : Entry) : s.withdrawEntry e =
    (((s.unstaged e .withdrawn).retireEntry (e.staged none) .withdrawn).followUp).respond
      .ok [] := rfl

end State

/-- Staging changes neither the states nor the credits of the entries. -/
theorem Agenda.modify_staged (a : Agenda) (ticket : Nat) (q : Option Successor) :
    (a.modify ticket (Entry.staged q)).isPlaying = a.isPlaying ∧
      (a.modify ticket (Entry.staged q)).credits = a.credits := by
  have hcredit : (a.modify ticket (Entry.staged q)).credits = a.credits := by
    rw [Agenda.credits, Agenda.modify, List.map_map, Agenda.credits]
    refine List.map_congr_left fun e _ => ?_
    rw [Function.comp_apply]
    split <;> rfl
  refine ⟨?_, hcredit⟩
  rw [Agenda.isPlaying, Agenda.modify, List.any_map, Agenda.isPlaying]
  refine congrArg a.entries.any (funext fun e => ?_)
  rw [Function.comp_apply]
  split <;> rfl

/-- The entry of a ticket after staging. -/
theorem Agenda.find_staged {a : Agenda} {ticket : Nat} {e : Entry} (h : a.find ticket = some e)
    (q : Option Successor) :
    (a.modify ticket (Entry.staged q)).find ticket = some (e.staged q) := by
  rw [Agenda.find_modify _ _ _ (f := Entry.staged q) fun _ => rfl, h]
  exact congrArg some (if_pos (Agenda.find_ticket h))

/-- What is asked of a PLAYING entry whose POST is withdrawn or replaced (01 R9). -/
theorem EndRequest.asked_withdrawn (r : EndRequest) : r.asked (.retire .withdrawn) = (match r with
    | .none => .retire .withdrawn
    | .interrupt => .retire .withdrawn
    | .retire o => .retire (if o = .replaced then .withdrawn else o)) := by
  cases r with
  | none => rfl
  | interrupt => rfl
  | retire o => cases o <;> rfl

theorem EndRequest.asked_replaced (r : EndRequest) : r.asked (.retire .replaced) = (match r with
    | .none => .retire .replaced
    | .interrupt => .retire .replaced
    | .retire o => .retire o) := by
  cases r with
  | none => rfl
  | interrupt => rfl
  | retire o => cases o <;> rfl

/-- Settles O36: the refusals, the entry that leaves, and the play that is asked to end. -/
theorem withdrawRetiresTheTopic : Obligations.WithdrawRetiresTheTopic := by
  intro s topic h hpart
  have hexec := exec_of_runs (State.runs_of_set h hpart (by decide))
  have hzero : topic.toNat = 0 ↔ topic = 0 := by
    simp [BitVec.toNat_eq]
  refine ⟨fun htopic => hexec.trans ?_, fun htopic hnone => hexec.trans ?_, fun e htopic he => ?_⟩
  · subst htopic
    rfl
  · simp only [State.requestEffect, State.withdrawEffect, List.headD_cons, hzero, if_neg htopic, hnone]
    rfl
  · intro first
    have hfirst : (s.unstaged e .withdrawn).events = first.events := by
      rw [State.unstaged_events, State.retireSuccessor_eq]
      cases hs : e.successor <;> simp only [first, hs] <;> rfl
    have heffect : s.withdrawEffect [topic] = s.withdrawEntry e := by
      simp only [State.withdrawEffect, List.headD_cons, hzero, if_neg htopic, he]
    refine ⟨_, hexec.trans (congrArg _ heffect), ?_⟩
    rw [State.withdrawEntry_eq]
    refine ⟨?_, ?_, fun hstate => ?_, fun hstate => ?_⟩
    · simp [State.respond, State.answered, State.unstaged]
    · simp [State.changedIn_iff, Block.followUp, State.unstaged]
    · obtain ⟨hids, hevents⟩ := State.retireEntry_of_not_playing (s := s.unstaged e .withdrawn)
        (e := e.staged none) hstate .withdrawn
      rw [State.offer_events_congr _ hfirst] at hevents
      rw [State.respond_eq, State.setHost_agenda, State.setHost_events]
      refine ⟨?_, State.followUp_grew _ _ hevents⟩
      rw [State.unstaged_ids, List.filter_map] at hids
      have hkept : ((s.agenda.ids.filter ((fun i => i.1 != e.ticket) ∘ fun i =>
          if i.1 = e.ticket then (i.1, i.2.1, none) else i)).map fun i =>
            if i.1 = e.ticket then (i.1, i.2.1, none) else i) =
          s.agenda.ids.filter fun i => i.1 != e.ticket := by
        have hfilter : ((fun i : Nat × Post × Option Successor => i.1 != e.ticket) ∘ fun i =>
            if i.1 = e.ticket then (i.1, i.2.1, none) else i) = fun i => i.1 != e.ticket := by
          funext i
          rw [Function.comp_apply]
          split <;> rfl
        rw [hfilter]
        refine (List.map_congr_left fun i hi => ?_).trans (List.map_id _)
        exact if_neg (by simpa using (List.mem_filter.mp hi).2)
      simpa using hids.trans hkept
    · rw [State.retireEntry_of_playing (e := e.staged none) hstate]
      have hplaying : (s.unstaged e .withdrawn).agenda.isPlaying = true := by
        rw [State.unstaged_agenda, (Agenda.modify_staged _ _ _).1]
        exact List.any_eq_true.mpr ⟨e, (State.findTopic_mem he).1, by simp [hstate]⟩
      obtain ⟨hids, -, hrenderer, hfind⟩ := State.stopEntry_followUp hplaying e.ticket (.retire .withdrawn)
      rw [State.respond_eq, State.setHost_agenda, State.setHost_events, State.setHost_renderer]
      refine ⟨?_, ?_, ?_, fun q hq was hwas => ?_⟩
      · exact hids.trans (s.unstaged_ids e .withdrawn)
      · have hgrew := EventQueue.grewFrom_refl first.events
        rw [← hfirst] at hgrew
        rw [← hfirst]
        simp [hgrew]
      · exact hrenderer.trans (by rw [State.unstaged_renderer])
      · have hbare := hfind (was.staged none) q
          (by rw [State.unstaged_agenda]; exact Agenda.find_staged hwas none) hq
        refine (congrArg Entry.endRequest hbare).trans (((was.staged none).request_endRequest _).trans ?_)
        exact EndRequest.asked_withdrawn was.endRequest

end Sys2Proof.Machine

/-! ## POST of a topic that an entry has, and to a full agenda (O34, O35) -/

namespace Sys2Proof.Machine

namespace State

theorem respond_host (s : State) (result : ResultCode) (body : List Byte) :
    (s.respond result body).host = s.answered result body := rfl

/-- A POST that is admitted: its ticket is the one that the agenda issues (01 R2, R3). -/
theorem admitPost_effect (s : State) (p : Post) :
    (s.admitPost p).host = s.answered .admitted (bytes2 s.agenda.issue) ∧
      (s.admitPost p).agenda.ids = s.agenda.ids ++ [(s.agenda.issue, p, none)] ∧
      (s.admitPost p).agenda.nextTicket = ticketAfter s.agenda.issue ∧
      (s.admitPost p).changedIn s (.host :: Block.followUp) ∧
      ∀ q, s.events.grewFrom q → (s.admitPost p).events.grewFrom q := by
  refine ⟨by simp [admitPost, respond_host, answered], by simp [admitPost, admission_ids],
    by simp [admitPost, ticketUsed], by simp [changedIn_iff, Block.followUp], fun q hq => by simp [hq]⟩

/-- A request in ACTIVE is not preceded by the return from STANDBY (11 R184). -/
theorem returnActive_of_active {s : State} (h : s.rest.part = .active) : s.returnActive = s := by
  rw [returnActive, if_neg (by simp [h])]

theorem exec_post {s : State} {body : List Byte} {p : Post} (h : s.asks .post body)
    (hpart : s.rest.part = .active) (hread : readPost body = some p) :
    exec .post s = .next (s.posted p) := by
  refine (exec_of_runs (State.runs_of_set h (by simp [hpart]) (by decide))).trans ?_
  simp only [requestEffect, postEffect, hread, returnActive_of_active hpart]

/-- An agenda without the entries of a ticket. -/
theorem ids_filter (a : Agenda) (ticket : Nat) :
    ({ a with entries := a.entries.filter (·.ticket != ticket) } : Agenda).ids =
      a.ids.filter (·.1 != ticket) := by
  simp only [Agenda.ids, List.filter_map]
  rfl

/-- The entry of a PLAYING topic with the POST staged as its successor (01 R14). -/
def restaged (s : State) (e : Entry) (p : Post) : State :=
  let u := s.unstaged e .replaced
  u.setAgenda (u.agenda.modify e.ticket
    (Entry.staged (some { post := p, ticket := u.agenda.issue })))

theorem stagePost_eq (s : State) (e : Entry) (p : Post) : s.stagePost e p =
    (((s.restaged e p).stopEntry e.ticket (.retire .replaced) .cut).ticketUsed
      (s.unstaged e .replaced).agenda.issue).respond .staged
        (bytes2 (s.unstaged e .replaced).agenda.issue) := rfl

/-- What staging leaves: the ids with the successor staged, the credits, the cut renderer, and the entry with its
end request. -/
theorem stagePost_effect (s : State) (e : Entry) (p : Post) :
    (s.stagePost e p).agenda.ids = (s.unstaged e .replaced).agenda.ids.map (fun i =>
        if i.1 = e.ticket then
          (i.1, i.2.1, some { post := p, ticket := (s.unstaged e .replaced).agenda.issue }) else i) ∧
      (s.stagePost e p).events = (s.retireSuccessor e.successor .replaced).events ∧
      (s.stagePost e p).agenda.credits = s.agenda.credits ∧
      (s.stagePost e p).renderer = s.renderer.cut ∧
      ∀ first, s.agenda.find e.ticket = some first →
        ((s.stagePost e p).agenda.find e.ticket).map (·.endRequest) =
          some (first.endRequest.asked (.retire .replaced)) := by
  rw [stagePost_eq, respond_eq, setHost_agenda, setHost_events, setHost_renderer]
  refine ⟨?_, ?_, ?_, ?_, fun first hfirst => ?_⟩
  · simp [restaged, ids_modify_staged]
  · simp [restaged, unstaged_events]
  · refine ((s.restaged e p).stopEntry_credits e.ticket (.retire .replaced) .cut).trans ?_
    refine (Agenda.modify_staged _ _ _).2.trans ?_
    rw [unstaged_agenda, (Agenda.modify_staged _ _ _).2]
  · have hrenderer := (s.restaged e p).stopEntry_renderer e.ticket (.retire .replaced)
    rw [show (s.restaged e p).renderer = s.renderer from s.unstaged_renderer e .replaced] at hrenderer
    simpa using hrenderer
  · have hunstaged : (s.unstaged e .replaced).agenda.find e.ticket = some (first.staged none) := by
      rw [unstaged_agenda]
      exact Agenda.find_staged hfirst none
    have hstop := stopEntry_find (s := s.restaged e p) (Agenda.find_staged hunstaged _)
      (.retire .replaced) .cut
    exact (congrArg (Option.map (·.endRequest)) hstop).trans
      (congrArg some (Entry.request_endRequest _ _))

theorem stagePost_changedIn (s : State) (e : Entry) (p : Post) :
    (s.stagePost e p).changedIn s [.host, .agenda, .renderer, .flash, .events] := by
  simp [stagePost_eq, changedIn_iff, restaged, unstaged, stopEntry]

end State

/-- Settles O34: the entry that leaves before the admission, and the successor that is staged. -/
theorem postReplacesOrIsStaged : Obligations.PostReplacesOrIsStaged := by
  intro s body p e h hpart hread he
  have hexec := State.exec_post h hpart hread
  constructor
  · intro hstate left
    obtain ⟨hids, hevents⟩ := State.retireEntry_of_not_playing (s := s) hstate .replaced
    obtain ⟨hhost, hadmitted, -, hchanged, hgrew⟩ := (s.retireEntry e .replaced).admitPost_effect p
    have hleft : (s.retireEntry e .replaced).agenda.ids = left.ids :=
      hids.trans (State.ids_filter s.agenda e.ticket).symm
    have hissue : (s.retireEntry e .replaced).agenda.issue = left.issue :=
      State.issue_congr hleft (by simp [left])
    refine ⟨(s.retireEntry e .replaced).admitPost p, hexec.trans ?_, ?_, ?_, hgrew _ hevents, ?_⟩
    · simp only [State.posted, he, if_neg hstate]
    · rw [hhost, hissue]
      simp [State.answered]
    · rw [hadmitted, hleft, hissue]
    · exact State.changedIn_trans (State.changedIn_mono hchanged (by simp [Block.followUp]))
        (by simp [State.changedIn_iff, Block.followUp])
  · intro hstate old
    have hold : (s.unstaged e .replaced).agenda = old := s.unstaged_agenda e .replaced
    obtain ⟨hids, hevents, hcredits, hrenderer, hrequest⟩ := s.stagePost_effect e p
    rw [hold] at hids
    refine ⟨s.stagePost e p, hexec.trans ?_, ?_, hids, hevents.trans ?_, hcredits, hrenderer,
      fun q hq first hfirst => ?_, s.stagePost_changedIn e p⟩
    · simp only [State.posted, he, if_pos hstate]
    · rw [State.stagePost_eq, hold, State.respond_host]
      simp [State.answered, State.restaged, State.unstaged]
    · rw [State.retireSuccessor_eq]
      cases e.successor <;> rfl
    · have hend := hrequest first hfirst
      rw [hq] at hend
      exact (Option.some.inj hend).trans (EndRequest.asked_replaced first.endRequest)

/-! ### A full agenda (01 R16) -/

/-- The lowest of a list: no entry before it is lower, and every entry after it is higher. -/
theorem lowestEntry_append {low : Entry} (before : List Entry) {after : List Entry}
    (hbefore : ∀ q ∈ before, low.key ≤ q.key) (hafter : ∀ q ∈ after, low.key < q.key) :
    lowestEntry (before ++ low :: after) = some low := by
  induction before with
  | nil =>
    cases hlow : lowestEntry after with
    | none => simp [lowestEntry, hlow]
    | some q =>
      have hkey := hafter q (lowestEntry_mem hlow)
      simp [lowestEntry, hlow, hkey]
  | cons e before ih =>
    have hkey := hbefore e (by simp)
    rw [List.cons_append, lowestEntry, ih fun q hq => hbefore q (by simp [hq])]
    simp [Nat.not_lt.mpr hkey]

/-- The WAITING or READY entry that a full agenda displaces. -/
theorem State.displaced_append {s : State} {before after : List Entry} {low : Entry}
    (hentries : s.agenda.entries = before ++ low :: after)
    (hlow : low.state = .waiting ∨ low.state = .ready)
    (hbefore : ∀ q ∈ before, q.state = .waiting ∨ q.state = .ready → low.key ≤ q.key)
    (hafter : ∀ q ∈ after, q.state = .waiting ∨ q.state = .ready → low.key < q.key) :
    s.displaced = some low := by
  rw [State.displaced, hentries, List.filter_append, List.filter_cons_of_pos (by simpa using hlow)]
  refine lowestEntry_append _ (fun q hq => ?_) fun q hq => ?_
  · obtain ⟨hmem, hstate⟩ := List.mem_filter.mp hq
    exact hbefore q hmem (by simpa using hstate)
  · obtain ⟨hmem, hstate⟩ := List.mem_filter.mp hq
    exact hafter q hmem (by simpa using hstate)

/-- Settles O35: the lowest entry is found, and it leaves only for a greater key. -/
theorem fullAgendaDisplacesTheLowest : Obligations.FullAgendaDisplacesTheLowest := by
  intro s body p before after low h hpart hread htopic hfull hentries hlow hbefore hafter
  have hexec := State.exec_post h hpart hread
  have hposted : s.posted p = s.displacePost p := by
    have hlength : ¬ s.agenda.entries.length < Config.agendaSize := Nat.not_lt.mpr hfull
    simp only [State.posted, htopic, if_neg hlength]
  have hdisplaced := State.displaced_append hentries hlow hbefore hafter
  constructor
  · intro hkey left
    have hplan : s.displacePost p = (s.dropEntry low .displaced).admitPost p := by
      simp only [State.displacePost, hdisplaced, if_pos hkey]
    have hleft : (s.dropEntry low .displaced).agenda.ids = left.ids :=
      (State.dropEntry_ids s low .displaced).trans (State.ids_filter s.agenda low.ticket).symm
    have hissue : (s.dropEntry low .displaced).agenda.issue = left.issue :=
      State.issue_congr hleft (by simp [left])
    have hevents := State.dropEntry_events s s low .displaced rfl _ (EventQueue.grewFrom_refl _)
    obtain ⟨hhost, hadmitted, -, hchanged, hgrew⟩ := (s.dropEntry low .displaced).admitPost_effect p
    refine ⟨(s.dropEntry low .displaced).admitPost p, hexec.trans (by rw [hposted, hplan]), ?_, ?_,
      hgrew _ hevents, ?_⟩
    · rw [hhost, hissue]
      simp [State.answered]
    · rw [hadmitted, hleft, hissue]
    · exact State.changedIn_trans hchanged (by simp [State.changedIn_iff, Block.followUp])
  · intro hkey
    have hplan : s.displacePost p = s.respond .agendaFull [] := by
      simp only [State.displacePost, hdisplaced, if_neg (Nat.not_lt.mpr hkey)]
    rw [hexec, hposted, hplan, State.respond_eq]

end Sys2Proof.Machine

/-! ## The fields of a POST, and its admission (O33) -/

namespace Sys2Proof.Machine

/-! ### The tokens of a body (01 R1, 12 R189) -/

/-- A token is bad for a kind outside its set, or an argument of PHRASE, REFER or TONE outside its range. -/
theorem readToken_eq_none (hi lo : Byte) :
    let kind := hi.toNat / 16
    let arg := hi.toNat % 16 * 256 + lo.toNat
    readToken hi lo = none ↔ kind = 0 ∨ 6 < kind ∨ (kind = 1 ∧ 1023 < arg) ∨
      (kind = 4 ∧ arg ≠ 1 ∧ arg ≠ 2) ∨ (kind = 6 ∧ (arg = 0 ∨ 8 < arg)) := by
  simp only [readToken]
  generalize hi.toNat / 16 = kind
  generalize hi.toNat % 16 * 256 + lo.toNat = arg
  match kind with
  | 0 => simp
  | 1 => simp
  | 2 => simp
  | 3 => simp
  | 4 =>
    match arg with
    | 0 => simp
    | 1 => simp
    | 2 => simp
    | arg + 3 => simp
  | 5 => simp
  | 6 =>
    simp
    omega
  | kind + 7 => simp

/-- The token of each kind, its argument in its range. -/
theorem readToken_get {hi lo : Byte} {t : Token} (h : readToken hi lo = some t) :
    let arg := hi.toNat % 16 * 256 + lo.toNat
    [Token.phrase arg, .number (min arg 99), .minutes, .refer (if arg = 1 then .washer else .dryer),
      .pause (max 1 (min arg 20)), .tone arg][hi.toNat / 16 - 1]? = some t := by
  simp only [readToken] at h ⊢
  generalize hi.toNat / 16 = kind at h ⊢
  generalize hi.toNat % 16 * 256 + lo.toNat = arg at h ⊢
  match kind, h with
  | 1, h => exact (Option.ite_none_right_eq_some.mp h).2
  | 2, h => exact h
  | 3, h => exact h
  | 4, h =>
    match arg, h with
    | 1, h => exact h
    | 2, h => exact h
  | 5, h => exact h
  | 6, h => exact (Option.ite_none_right_eq_some.mp h).2

/-- The tokens of a body are its pairs of bytes, each checked. -/
theorem readTokens_spec : ∀ {m : Nat} {bs : List Byte}, bs.length = 2 * m →
    (readTokens bs = none ↔ ∃ k, k < m ∧ readToken (bs.getD (2 * k) 0) (bs.getD (2 * k + 1) 0) = none) ∧
    ∀ ts, readTokens bs = some ts → ts.length = m ∧
      ∀ k, k < m → ts[k]? = readToken (bs.getD (2 * k) 0) (bs.getD (2 * k + 1) 0)
  | 0, bs, h => by
    obtain rfl := List.eq_nil_of_length_eq_zero h
    simp [readTokens]
  | m + 1, [], h => by simp at h
  | m + 1, [_], h => by simp at h; omega
  | m + 1, hi :: lo :: rest, h => by
    obtain ⟨hnone, hsome⟩ := readTokens_spec (m := m) (bs := rest) (by simp at h; omega)
    have hpair (k : Nat) : (hi :: lo :: rest).getD (2 * (k + 1)) 0 = rest.getD (2 * k) 0 ∧
        (hi :: lo :: rest).getD (2 * (k + 1) + 1) 0 = rest.getD (2 * k + 1) 0 := ⟨rfl, rfl⟩
    have hexists : (∃ k, k < m + 1 ∧ readToken ((hi :: lo :: rest).getD (2 * k) 0)
        ((hi :: lo :: rest).getD (2 * k + 1) 0) = none) ↔
        readToken hi lo = none ∨ readTokens rest = none := by
      rw [Nat.exists_lt_succ_left, hnone]
      rfl
    rw [hexists, readTokens]
    cases ht : readToken hi lo with
    | none => simp
    | some t =>
      cases hts : readTokens rest with
      | none => simp
      | some ts =>
        obtain ⟨hlength, hget⟩ := hsome ts hts
        refine ⟨by simp, fun ts' hts' => ?_⟩
        obtain rfl := Option.some.inj hts'
        refine ⟨by simp [hlength], fun k hk => ?_⟩
        cases k with
        | zero => exact ht.symm
        | succ k => exact hget k (by omega)

theorem classOfCode_get : ∀ n : Nat,
    classOfCode n = [PromptClass.safety, .action, .ending, .step, .hint, .idle][n]?
  | 0 | 1 | 2 | 3 | 4 | 5 => rfl
  | n + 6 => by simp [classOfCode]

theorem retireOnOfCode_get : ∀ n : Nat,
    retireOnOfCode n = [RetireOn.never, .doorOpens, .doorCloses, .ackKey][n]?
  | 0 | 1 | 2 | 3 => rfl
  | n + 4 => by simp [retireOnOfCode]

theorem classOfCode_eq_none (n : Nat) : classOfCode n = none ↔ 5 < n := by
  rw [classOfCode_get, List.getElem?_eq_none_iff]
  exact Nat.succ_le_iff

theorem retireOnOfCode_eq_none (n : Nat) : retireOnOfCode n = none ↔ 3 < n := by
  rw [retireOnOfCode_get, List.getElem?_eq_none_iff]
  exact Nat.succ_le_iff

/-! ### The fields of a body (01 R1) -/

theorem readPost_eq_none {body : List Byte} : readPost body = none ↔
    (body.getD 0 0).toNat = 0 ∨ 12 < (body.getD 10 0).toNat ∨
      classOfCode (body.getD 1 0).toNat = none ∨ retireOnOfCode (body.getD 9 0).toNat = none ∨
      readTokens (body.drop 11) = none := by
  simp only [readPost]
  by_cases hbad : (body.getD 0 0).toNat = 0 ∨ 12 < (body.getD 10 0).toNat
  · rw [if_pos hbad]
    tauto
  · rw [if_neg hbad]
    cases classOfCode (body.getD 1 0).toNat <;> cases retireOnOfCode (body.getD 9 0).toNat <;>
      cases readTokens (body.drop 11) <;> simp_all

/-- A POST that is read has the fields of its body, each in its range. -/
theorem readPost_fields {body : List Byte} {p : Post} (h : readPost body = some p) :
    let n := fun k => (body.getD k 0).toNat
    let interval := normalInterval (256 * n 4 + n 5)
    classOfCode (n 1) = some p.cls ∧ retireOnOfCode (n 9) = some p.retireOn ∧
      readTokens (body.drop 11) = some p.tokens ∧ p.topic = n 0 ∧ p.page = n 2 ∧
      p.tone = (if 8 < n 3 then 0 else n 3) ∧ p.interval = interval ∧
      p.count = normalCount interval (n 6 % 16) ∧ p.expiry = min (256 * n 7 + n 8) 3600 := by
  simp only [readPost] at h
  split at h
  · cases h
  · split at h
    next hcls hretire htokens =>
      obtain rfl := Option.some.inj h
      exact ⟨hcls, hretire, htokens, rfl, rfl, rfl, rfl, rfl, rfl⟩
    · cases h

/-- The stored count is one play without an interval (01 R1). -/
theorem normalCount_normalInterval (i count : Nat) : normalCount (normalInterval i) count =
    if i = 0 then some 1 else if count = 0 then none else some count := by
  unfold normalCount normalInterval
  by_cases hi : i = 0
  · simp [hi]
  · simp [hi]

/-- The two bytes of a token in a POST body. -/
theorem getD_tokens (body : List Byte) (k : Nat) :
    (body.drop 11).getD (2 * k) 0 = body.getD (11 + 2 * k) 0 ∧
      (body.drop 11).getD (2 * k + 1) 0 = body.getD (12 + 2 * k) 0 := by
  have h : 12 + 2 * k = 11 + (2 * k + 1) := by omega
  simp only [h, List.getD_eq_getElem?_getD, List.getElem?_drop, and_self]

/-- The fields of a POST, and the bodies that are MALFORMED (01 R1). -/
theorem readPost_spec {body : List Byte} (hlength : body.length = 11 + 2 * (body.getD 10 0).toNat) :
    let n := fun k => (body.getD k 0).toNat
    let kind := fun k => n (11 + 2 * k) / 16
    let arg := fun k => n (11 + 2 * k) % 16 * 256 + n (12 + 2 * k)
    let interval := 256 * n 4 + n 5
    (readPost body = none ↔ n 0 = 0 ∨ 5 < n 1 ∨ 3 < n 9 ∨ 12 < n 10 ∨
      ∃ k, k < n 10 ∧ (kind k = 0 ∨ 6 < kind k ∨ (kind k = 1 ∧ 1023 < arg k) ∨
        (kind k = 4 ∧ arg k ≠ 1 ∧ arg k ≠ 2) ∨ (kind k = 6 ∧ (arg k = 0 ∨ 8 < arg k)))) ∧
    ∀ p, readPost body = some p →
      p.topic = n 0 ∧
      [PromptClass.safety, .action, .ending, .step, .hint, .idle][n 1]? = some p.cls ∧
      p.page = n 2 ∧ p.tone = (if 8 < n 3 then 0 else n 3) ∧
      p.interval = (if interval = 0 then 0 else max 5 (min interval 600)) ∧
      p.count = (if interval = 0 then some 1 else if n 6 % 16 = 0 then none
        else some (n 6 % 16)) ∧
      p.expiry = min (256 * n 7 + n 8) 3600 ∧
      [RetireOn.never, .doorOpens, .doorCloses, .ackKey][n 9]? = some p.retireOn ∧
      p.tokens.length = n 10 ∧
      ∀ k, k < n 10 → p.tokens[k]? = [Token.phrase (arg k), .number (min (arg k) 99), .minutes,
        .refer (if arg k = 1 then .washer else .dryer), .pause (max 1 (min (arg k) 20)),
        .tone (arg k)][kind k - 1]? := by
  intro n kind arg interval
  have htokens : (body.drop 11).length = 2 * n 10 := by
    rw [List.length_drop, hlength]
    exact Nat.add_sub_cancel_left _ _
  obtain ⟨hnone, hsome⟩ := readTokens_spec htokens
  simp only [getD_tokens] at hnone hsome
  refine ⟨?_, fun p hp => ?_⟩
  · rw [readPost_eq_none, hnone, classOfCode_eq_none, retireOnOfCode_eq_none]
    simp only [readToken_eq_none]
    exact or_congr_right (or_left_comm.trans (or_congr_right or_left_comm))
  · obtain ⟨hcls, hretire, hread, htopic, hpage, htone, hinterval, hcount, hexpiry⟩ := readPost_fields hp
    obtain ⟨htokens, hget⟩ := hsome _ hread
    rw [classOfCode_get] at hcls
    rw [retireOnOfCode_get] at hretire
    rw [normalCount_normalInterval] at hcount
    refine ⟨htopic, hcls, hpage, htone, hinterval, hcount, hexpiry, hretire, htokens, fun k hk => ?_⟩
    have htoken := hget k hk
    rw [List.getElem?_eq_getElem (htokens ▸ hk)] at htoken
    rw [List.getElem?_eq_getElem (htokens ▸ hk)]
    exact (readToken_get htoken.symm).symm

/-! ### Admission (01 R2, R3, R11) -/

namespace State

/-- A POST in ACTIVE or STANDBY is taken once the part has returned from STANDBY (11 R184). -/
theorem exec_post_returned {s : State} {body : List Byte} (h : s.asks .post body)
    (hpart : s.rest.part = .active ∨ s.rest.part = .standby) :
    exec .post s = .next (s.postEffect body) ∧ s.returnActive.rest.part = .active := by
  refine ⟨exec_of_runs (runs_of_set h ?_ (by decide)), ?_⟩
  · obtain hpart | hpart := hpart <;> simp [hpart]
  · rw [returnActive_part]
    obtain hpart | hpart := hpart <;> rw [hpart] <;> rfl

/-- The return from STANDBY offers its record first (11 R184). -/
theorem returnActive_of_standby {s : State} (h : s.rest.part = .standby) :
    s.returnActive.events.grewFrom (s.offer .standbyOff).events := by
  rw [returnActive, if_pos h]
  simp [EventQueue.grewFrom_refl]

end State

/-- A topic that no entry has, among entries with the same ids. -/
theorem Agenda.findTopic_congr {a b : Agenda} (h : b.ids = a.ids) {topic : Nat}
    (hnone : a.findTopic topic = none) : b.findTopic topic = none := by
  cases hb : b.findTopic topic with
  | none => rfl
  | some e =>
    obtain ⟨he, htopic⟩ := State.findTopic_mem hb
    have hmem : e.id ∈ a.ids := h ▸ List.mem_map_of_mem he
    exact absurd (htopic ▸ List.mem_map_of_mem hmem) (State.findTopic_none hnone)

theorem Agenda.length_of_ids {a b : Agenda} (h : b.ids = a.ids) :
    b.entries.length = a.entries.length := by
  simpa [Agenda.ids] using congrArg List.length h

/-- At most 16 entries, and a successor each, leave a ticket free (01 R3). -/
theorem Agenda.issue_not_mem {a : Agenda} (h : a.lawful) : a.issue ∉ a.tickets := by
  refine a.issue_fresh (a.tickets_length.trans ?_)
  have hsize : a.entries.length ≤ 16 := h.1
  omega

namespace State

/-- An admission appends the new entry to the entries, which stand (01 R2, 02 R33). -/
theorem admitPost_entries (s : State) (p : Post) :
    (s.admitPost p).agenda.dues = s.agenda.dues ++ [(s.agenda.issue, 1, 0, none)] ∧
      (s.agenda.isPlaying = true → (s.admitPost p).agenda.credits =
        s.agenda.credits ++ [(s.newEntry p s.agenda.issue).credit]) := by
  have hbare := s.admission_bare p s.agenda.issue
  rw [← ticketUsed_bare _ s.agenda.issue] at hbare
  rw [admitPost, respond_eq, setHost_agenda]
  refine ⟨?_, fun hplaying => ?_⟩
  · rw [followUp_dues, Agenda.dues_eq_bare, hbare, List.map_append, ← Agenda.dues_eq_bare]
    rfl
  · rw [followUp_credits_of_isPlaying, Agenda.credits_eq_bare, hbare, List.map_append,
      ← Agenda.credits_eq_bare]
    · rfl
    · rw [Agenda.isPlaying_eq_bare, hbare, List.any_append, ← Agenda.isPlaying_eq_bare, hplaying]
      rfl

/-- The first state of an entry (01 R2, 02 R39). -/
theorem firstState_eq (s : State) (p : Post) : s.firstState p =
    if (p.tokens ≠ [] ∨ p.tone ≠ 0) ∧ (s.panel.presence = .present ∨ p.cls = .safety ∨
      p.cls = .action ∨ p.cls = .ending) then .ready else .waiting := by
  have hsilent : p.isSilent = false ↔ p.tokens ≠ [] ∨ p.tone ≠ 0 := by
    simp only [Post.isSilent, Bool.and_eq_false_iff, List.isEmpty_eq_false_iff, beq_eq_false_iff_ne]
  rw [firstState]
  simp only [hsilent, gateOpen_iff]

/-- A POST whose fields are bad returns the part from STANDBY all the same. -/
theorem posted_malformed (s : State) (h : s.returnActive.rest.part = .active) :
    let t := s.returnActive.respond .malformed []
    t.host = s.answered .malformed [] ∧ t.rest.part = .active ∧ t.agenda.ids = s.agenda.ids ∧
      t.changedIn s [.host, .agenda, .flash, .display, .events, .rest] := by
  refine ⟨by simp [respond_host, answered], by simpa using h, by simp, by simp [changedIn_iff]⟩

end State

/-- Settles O33: the fields that are read, and the entry that is admitted. -/
theorem postIsAdmitted : Obligations.PostIsAdmitted := by
  refine ⟨fun body hlength => readPost_spec hlength, fun s body h hpart => ?_⟩
  obtain ⟨hexec, hactive⟩ := State.exec_post_returned h hpart
  refine ⟨fun hread => ?_, fun p hread htopic hroom => ?_⟩
  · have heffect : s.postEffect body = s.returnActive.respond .malformed [] := by
      simp only [State.postEffect, hread]
    obtain ⟨hhost, hpart', hids, hchanged⟩ := s.posted_malformed hactive
    refine ⟨_, hexec.trans (congrArg _ heffect), hhost, hpart', hids, hchanged, fun hstill => ?_⟩
    rw [State.returnActive_of_active hstill, State.respond_eq]
  · obtain ⟨-, -, -, -, hids, -⟩ := s.returnActive_keeps
    have hissue : s.returnActive.agenda.issue = s.agenda.issue := State.issue_congr hids (by simp)
    have heffect : s.postEffect body = s.returnActive.admitPost p := by
      have hnone := Agenda.findTopic_congr hids htopic
      have hlength : s.returnActive.agenda.entries.length < Config.agendaSize := by
        rw [Agenda.length_of_ids hids]
        exact hroom
      simp only [State.postEffect, hread, State.posted, hnone, if_pos hlength]
    obtain ⟨hhost, hadmitted, hnext, hchanged, hgrew⟩ := s.returnActive.admitPost_effect p
    obtain ⟨hdues, hcredits⟩ := s.returnActive.admitPost_entries p
    rw [hissue] at hhost hadmitted hnext hdues hcredits
    rw [hids] at hadmitted
    have hbare := s.returnActive_bare
    refine ⟨_, hexec.trans (congrArg _ heffect), ?_, hadmitted, Agenda.issue_not_mem, ?_, ?_, ?_,
      hgrew _ ?_, fun hstandby => hgrew _ (State.returnActive_of_standby hstandby), ?_, fun hplaying => ?_⟩
    · rw [hhost]
      simp [State.answered, bytes2]
    · rw [hnext, ticketAfter]
      split <;> split <;> omega
    · simpa [State.admitPost] using hactive
    · exact State.changedIn_trans hchanged (by simp [State.changedIn_iff, Block.followUp])
    · simp [EventQueue.grewFrom_refl]
    · rw [hdues, Agenda.dues_eq_bare, hbare, ← Agenda.dues_eq_bare]
    · rw [hcredits (by rw [Agenda.isPlaying_eq_bare, hbare, ← Agenda.isPlaying_eq_bare, hplaying]),
        Agenda.credits_eq_bare, hbare, ← Agenda.credits_eq_bare]
      rw [Entry.credit]
      simp [State.newEntry, State.firstState_eq]

end Sys2Proof.Machine

/-! ## Frames abandoned and transmitted (03 R56 to R59, R62; O12, O13) -/

namespace Sys2Proof.Machine

namespace State

/-! ### The abandon run (03 R59, R62) -/

/-- The states in which the owner of an abandoned frame takes its bid back (04 R86). -/
def abandonsBid (s : State) (kind : FrameKind) (bid : Bid) : Prop :=
  kind = .claim ∧ s.floor.ctx = .pending bid ∨ kind = .talk ∧ s.floor.ctx = .announcing bid

theorem floorAbandoned_of_bid {s : State} {kind : FrameKind} {bid : Bid} (h : s.abandonsBid kind bid) :
    s.floorAbandoned kind = s.deferBid := by
  obtain ⟨rfl, hctx⟩ | ⟨rfl, hctx⟩ := h <;> simp only [floorAbandoned, hctx]

theorem floorAbandoned_cases (s : State) (kind : FrameKind) :
    (∃ bid, s.abandonsBid kind bid) ∨ s.floorAbandoned kind = s := by
  unfold floorAbandoned
  split
  next bid hctx => exact .inl ⟨bid, .inl ⟨rfl, hctx⟩⟩
  next bid hctx => exact .inl ⟨bid, .inr ⟨rfl, hctx⟩⟩
  · exact .inr rfl

/-- With nothing on the line, an isolate report empties the TALK/CLAIM slot at most, for a bid (04 R87). -/
theorem isolateReport_line {s : State} (h : s.line.onLine = none) :
    s.isolateReport.line = s.line ∨ s.isolateReport.line = { s.line with talkSlot := Slot.empty } ∧
      ∃ bid, s.floor.ctx = .pending bid ∨ s.floor.ctx = .announcing bid := by
  have hremoved (u : State) (hu : u.line = s.line) :
      (u.removeFrame .talk).deferBid.line = { s.line with talkSlot := Slot.empty } := by
    rw [removeFrame_off _ _ (by rw [hu, h]), ← hu]
    simp [setSlot]
  unfold isolateReport
  split
  · exact .inl rfl
  · cases hctx : s.floor.ctx with
    | idle => exact .inl (by simp)
    | deferring n => exact .inl (by simp)
    | claiming bid window => exact .inl (by simp)
    | holding bid hold => exact .inl (by simp)
    | pending bid => exact .inr ⟨hremoved _ (by simp), bid, .inl rfl⟩
    | announcing bid => exact .inr ⟨hremoved _ (by simp), bid, .inr rfl⟩

/-- An abandonment that does not isolate counts, and changes nothing else. -/
theorem countAbandon_of_still {s : State} (h : s.line.abandonRun ≠ 2 ∨ s.floor.isolated = true) :
    s.countAbandon = s.setLine { s.line with
      abandonRun := if s.line.abandonRun < 3 then s.line.abandonRun + 1 else s.line.abandonRun } := by
  by_cases hrun : s.line.abandonRun < 3
  · simp only [countAbandon, if_pos hrun]
    by_cases htwo : s.line.abandonRun = 2
    · rw [if_pos htwo]
      exact isolateReport_of_isolated _ (h.resolve_left (not_not_intro htwo))
    · rw [if_neg htwo]
  · rw [countAbandon, if_neg hrun, if_neg hrun]
    rfl

/-- The third abandonment in a row makes an isolate report. -/
theorem countAbandon_of_two {s : State} (h : s.line.abandonRun = 2) :
    s.countAbandon = (s.setLine { s.line with abandonRun := 3 }).isolateReport := by
  simp only [countAbandon, h]
  rfl

/-- The line after an abandonment (03 R59): the run counted, and the TALK/CLAIM slot empty after an isolate
report for a bid. -/
theorem countAbandon_line {s : State} (h : s.line.onLine = none) :
    s.countAbandon.line.onLine = none ∧ s.countAbandon.line.backoff = s.line.backoff ∧
      s.countAbandon.line.abandonRun =
        (if s.line.abandonRun < 3 then s.line.abandonRun + 1 else s.line.abandonRun) ∧
      ∀ name, (name = .talk → ∀ bid, s.floor.ctx ≠ .pending bid ∧ s.floor.ctx ≠ .announcing bid) →
        s.countAbandon.slotAt name = s.slotAt name := by
  by_cases htwo : s.line.abandonRun = 2
  · rw [countAbandon_of_two htwo, htwo]
    have hslots {line : Line} (name : SlotName) (hdone : line.doneSlot = s.line.doneSlot)
        (hbeacon : line.beaconSlot = s.line.beaconSlot)
        (htalk : name = .talk → line.talkSlot = s.line.talkSlot) :
        (s.setLine line).slotAt name = s.slotAt name := by
      cases name
      exacts [hdone, htalk rfl, hbeacon]
    obtain hline | ⟨hline, bid, hctx⟩ := isolateReport_line
      (s := s.setLine { s.line with abandonRun := 3 }) h
    · refine ⟨by rw [hline]; exact h, by rw [hline]; rfl, by rw [hline]; rfl, fun name _ => ?_⟩
      rw [slotAt_congr (t := s.setLine { s.line with abandonRun := 3 }) hline]
      exact hslots name rfl rfl fun _ => rfl
    · refine ⟨by rw [hline]; exact h, by rw [hline]; rfl, by rw [hline]; rfl, fun name hname => ?_⟩
      rw [slotAt_congr (t := s.setLine { s.line with abandonRun := 3, talkSlot := Slot.empty }) hline]
      refine hslots name rfl rfl fun htalk => ?_
      obtain ⟨hpending, hannouncing⟩ := hname htalk bid
      exact (hctx.elim hpending hannouncing).elim
  · rw [countAbandon_of_still (.inl htwo)]
    exact ⟨h, rfl, rfl, fun name _ => slotAt_of_slots rfl rfl rfl name⟩

/-- The events and the floor unit's lists after an abandonment. -/
theorem countAbandon_effect (s : State) :
    (s.line.abandonRun ≠ 2 ∨ s.floor.isolated = true → s.countAbandon.floor = s.floor ∧
      s.countAbandon.events = s.events) ∧
    (s.line.abandonRun = 2 → s.floor.isolated = false →
      s.countAbandon.floor.isolated = true ∧ s.countAbandon.floor.claims = [] ∧
        s.countAbandon.floor.holders = [] ∧ s.countAbandon.events = (s.offer .isolatedOn).events) := by
  refine ⟨fun h => ?_, fun h hiso => ?_⟩
  · rw [countAbandon_of_still h]
    exact ⟨rfl, rfl⟩
  · rw [countAbandon_of_two h]
    obtain ⟨hon, hclaims, hholders, hevents⟩ := isolateReport_effect
      (s.setLine { s.line with abandonRun := 3 }) hiso
    exact ⟨hon, hclaims, hholders, hevents.trans (offer_events_congr _ rfl)⟩

/-- A bid that was taken back stays so: no entry bids, and the floor context is DEFERRING from 0. -/
theorem countAbandon_deferred {s : State} (hbid : ∀ q ∈ s.agenda.bare, q.state ≠ .bidding)
    (hctx : s.floor.ctx = .deferring 0) :
    (∀ q ∈ s.countAbandon.agenda.bare, q.state ≠ .bidding) ∧
      s.countAbandon.floor.ctx = .deferring 0 := by
  by_cases htwo : s.line.abandonRun = 2
  · rw [countAbandon_of_two htwo, isolateReport]
    split
    · exact ⟨hbid, hctx⟩
    · simp only [setLine_floor, hctx]
      exact ⟨by simpa using hbid, rfl⟩
  · rw [countAbandon_of_still (.inl htwo)]
    exact ⟨hbid, hctx⟩

theorem deferBid_not_bidding (s : State) : ∀ q ∈ s.deferBid.agenda.bare, q.state ≠ .bidding := by
  intro q hq
  rw [deferBid_bare] at hq
  obtain ⟨e, -, rfl⟩ := List.mem_map.mp hq
  exact deferred_not_bidding e _

/-! ### The eighth failure (03 R56) -/

/-- The frame has left its slot, and its record is queued (03 R59). -/
def frameGone (s : State) (name : SlotName) (kind : FrameKind) : State :=
  ((s.breakFrame.setLine { s.breakFrame.line with backoff := true }).setSlot name
    (slotNext (s.slotAt name))).offer (.lineAbandoned kind)

theorem transmitFailed_of_eight {s : State} {name : SlotName} {f : LineFrame}
    (hline : s.line.onLine = some name) (hframe : (s.slotAt name).frame = some f)
    (hmany : 7 ≤ (s.slotAt name).failures) : s.transmitFailed =
      ((s.frameGone name f.kind).floorAbandoned f.kind).countAbandon.followUp := by
  have hlimit : Config.failureLimit ≤ (s.slotAt name).failures + 1 := Nat.succ_le_succ hmany
  have hslot : (s.breakFrame.setLine { s.breakFrame.line with backoff := true }).slotAt name =
      s.slotAt name := slotAt_of_slots rfl rfl rfl name
  simp only [transmitFailed, hline, hframe, if_pos hlimit, abandonFrame, hslot, frameGone]

/-- The line, the slots and the floor unit once the frame has gone. -/
theorem frameGone_effect (s : State) (name : SlotName) (kind : FrameKind) :
    (s.frameGone name kind).line.onLine = none ∧ (s.frameGone name kind).line.backoff = true ∧
      (s.frameGone name kind).line.abandonRun = s.line.abandonRun ∧
      (s.frameGone name kind).slotAt name =
        { frame := (s.slotAt name).next, next := none, failures := 0 } ∧
      (s.frameGone name kind).floor = s.floor ∧
      (s.frameGone name kind).events = (s.offer (.lineAbandoned kind)).events := by
  refine ⟨by simp [frameGone, breakFrame], by simp [frameGone], by simp [frameGone, breakFrame], ?_,
    by simp [frameGone], offer_events_congr _ (by simp)⟩
  have hslot : (s.frameGone name kind).slotAt name =
      ((s.breakFrame.setLine { s.breakFrame.line with backoff := true }).setSlot name
        (slotNext (s.slotAt name))).slotAt name := slotAt_congr (by simp [frameGone]) name
  rw [hslot, slotAt_setSlot, if_pos rfl]
  rfl

end State

/-- Settles O12: the frame that has gone, the owner that is told, and the run that is counted. -/
theorem eighthFailureAbandonsTheFrame : Obligations.EighthFailureAbandonsTheFrame := by
  intro s name f hline hframe hmany
  refine ⟨_, exec_transmitFailure s, ?_⟩
  rw [State.transmitFailed_of_eight hline hframe hmany]
  obtain ⟨hoff, hbackoff, hrun, hslot, hfloor, hevents⟩ := s.frameGone_effect name f.kind
  have hchanged : (s.frameGone name f.kind).changedIn s (.line :: Block.followUp) := by
    simp [State.changedIn_iff, State.frameGone, Block.followUp]
  have hids : (s.frameGone name f.kind).agenda.ids = s.agenda.ids := by simp [State.frameGone]
  generalize s.frameGone name f.kind = u at *
  obtain ⟨honLine, hback, hcount, hslots⟩ := (u.floorAbandoned f.kind).countAbandon_line (by simpa using hoff)
  obtain ⟨hstill, hisolates⟩ := (u.floorAbandoned f.kind).countAbandon_effect
  simp only [State.floorAbandoned_keeps, hrun, hfloor] at hstill hisolates hcount hback
  simp only [State.followUp_keeps]
  refine ⟨State.changedIn_trans (by simp [State.changedIn_iff, Block.followUp]) hchanged, honLine,
    hback.trans hbackoff, by simpa using hids, fun htalk => ?_, fun hfew => hcount.trans (if_pos hfew),
    fun hmany => hcount.trans (if_neg (Nat.not_lt.mpr hmany)), fun h => ?_, fun htwo hiso => ?_,
    fun bid hbid => ?_⟩
  · have hkept : (u.floorAbandoned f.kind).slotAt name = u.slotAt name :=
      State.slotAt_congr (by simp) name
    have hfollow : (u.floorAbandoned f.kind).countAbandon.followUp.slotAt name =
        (u.floorAbandoned f.kind).countAbandon.slotAt name := State.slotAt_congr (by simp) name
    rw [hfollow, hslots name, hkept, hslot]
    intro hname bid
    obtain ⟨hpending, hannouncing⟩ := htalk.resolve_left (not_not_intro hname)
    obtain ⟨bid', hbid⟩ | hsame := u.floorAbandoned_cases f.kind
    · simp [State.floorAbandoned_of_bid hbid]
    · by_contra hctx
      have hbid : u.abandonsBid f.kind bid := by
        rw [State.abandonsBid, hfloor]
        rw [hsame, hfloor, not_and_or, not_not, not_not] at hctx
        exact hctx.imp (fun h => ⟨hpending bid h, h⟩) fun h => ⟨hannouncing bid h, h⟩
      simp [State.floorAbandoned_of_bid hbid] at hctx
  · obtain ⟨hsame, hquiet⟩ := hstill h
    rw [hsame]
    refine ⟨by simp [hfloor], by simp [hfloor], by simp [hfloor], State.followUp_grew _ _ ?_⟩
    rw [hquiet, hevents]
    exact EventQueue.grewFrom_refl _
  · obtain ⟨hon, hclaims, hholders, hqueue⟩ := hisolates htwo hiso
    refine ⟨hon, hclaims, hholders, State.followUp_grew _ _ ?_⟩
    have hoffer : (u.floorAbandoned f.kind).events = (s.offer (.lineAbandoned f.kind)).events := by
      simpa using hevents
    rw [hqueue, State.offer_events_congr _ hoffer]
    exact EventQueue.grewFrom_refl _
  · have hdefer : u.floorAbandoned f.kind = u.deferBid := by
      refine State.floorAbandoned_of_bid (bid := bid) ?_
      rw [State.abandonsBid, hfloor]
      exact hbid
    rw [hdefer]
    obtain ⟨hnone, hctx⟩ := State.countAbandon_deferred u.deferBid_not_bidding u.deferBid_ctx
    exact ⟨State.followUp_not_bidding hnone, fun hiso =>
      (congrArg Floor.ctx (State.followUp_floor_of_deferring hiso hctx)).trans hctx⟩

end Sys2Proof.Machine

/-! ## Plays that start by the tests after an event (01 R7, R8, 04 R88), and frames transmitted (O13) -/

namespace Sys2Proof.Machine

/-- An entry of the agenda is found by its ticket. -/
theorem Agenda.find_of_mem {a : Agenda} {e : Entry} (he : e ∈ a.entries) :
    ∃ q, a.find e.ticket = some q :=
  Option.isSome_iff_exists.mp (List.find?_isSome.mpr ⟨e, he, by simp⟩)

namespace State

/-! ### A play that starts (01 R8, 07 R130) -/

/-- The entry whose play starts. -/
theorem startPlay_find {s : State} {e q : Entry} (route : Route) (hq : s.agenda.find e.ticket = some q) :
    ∃ q', (s.startPlay e route).agenda.find e.ticket = some q' ∧ q'.bare = s.playing q.bare := by
  have hticket : ((fun r : Entry => r.ticket == e.ticket) ∘ fun r =>
      if r.ticket = e.ticket then s.playing r else r) = fun r => r.ticket == e.ticket := by
    funext r
    rw [Function.comp_apply]
    split <;> rfl
  have hfind : ((s.startPlay e route).agenda.find e.ticket).map Entry.bare =
      some (if q.bare.ticket = e.ticket then s.playing q.bare else q.bare) := by
    rw [Agenda.find_bare, startPlay_bare, List.find?_map, hticket, ← Agenda.find_bare, hq]
    rfl
  obtain ⟨q', hq', hbare⟩ := Option.map_eq_some_iff.mp hfind
  exact ⟨q', hq', hbare.trans (if_pos (Agenda.find_ticket hq))⟩

/-- An entry is PLAYING once its play has started. -/
theorem startPlay_isPlaying {s : State} {e : Entry} (route : Route) (he : e ∈ s.agenda.entries) :
    (s.startPlay e route).agenda.isPlaying = true := by
  obtain ⟨q, hq⟩ := Agenda.find_of_mem he
  obtain ⟨q', hq', hbare⟩ := startPlay_find route hq
  exact Agenda.isPlaying_of_find hq' (congrArg Entry.state hbare)

/-- The gain of a play is that of its class now (07 R129, R130). -/
theorem startPlay_gain (s : State) (e : Entry) (route : Route) : (s.startPlay e route).level.gain =
    gainCode s.settings s.level.amb e.post.cls s.floor.isolated := by
  unfold startPlay
  dsimp only
  split <;> simp

/-! ### The tests that start a play (01 R7, 04 R88) -/

theorem selectOwner_localCandidate {s : State} {e : Entry}
    (he : s.agenda.localCandidate s.flash.store = some e) :
    ∃ q, s.selectOwner.agenda.localCandidate s.selectOwner.flash.store = some q ∧ q.bare = e.bare := by
  have hsame := Agenda.localCandidate_of_bare_eq (b := s.selectOwner.agenda) (a := s.agenda)
    (by simp) s.flash.store
  rw [he] at hsame
  obtain ⟨q, hq, hbare⟩ := Option.map_eq_some_iff.mp hsame
  exact ⟨q, by simpa using hq, hbare⟩

/-- The first local entry starts its play, and no other play starts (01 R7). -/
theorem followUp_of_localCandidate {s : State} {e : Entry} (hactive : s.rest.part = .active)
    (hplay : s.agenda.isPlaying = false) (hfree : s.floorFree = true)
    (he : s.agenda.localCandidate s.flash.store = some e) : ∃ q ∈ s.selectOwner.agenda.entries,
      q.bare = e.bare ∧ s.followUp = (s.selectOwner.startPlay q
        (if e.post.isSpeech = true then .degraded else .local)).idleTest := by
  obtain ⟨q, hq, hbare⟩ := selectOwner_localCandidate he
  have hpost : q.bare.post = e.bare.post := congrArg Entry.post hbare
  rw [Entry.bare_post, Entry.bare_post] at hpost
  have hmay : s.selectOwner.rest.part = .active ∧ s.selectOwner.agenda.isPlaying = false ∧
      s.selectOwner.floorFree = true := by
    refine ⟨by simpa using hactive, by rwa [selectOwner_isPlaying], ?_⟩
    simpa only [floorFree, selectOwner_keeps] using hfree
  have hlocal : s.selectOwner.localStart = s.selectOwner.startPlay q
      (if e.post.isSpeech = true then .degraded else .local) := by
    simp only [localStart, if_pos hmay, hq, hpost]
  obtain ⟨hmem, -, -⟩ := Agenda.localCandidate_mem hq
  refine ⟨q, hmem, hbare, ?_⟩
  rw [followUp, hlocal, floorTest_of_isPlaying (startPlay_isPlaying _ hmem)]

/-! ### A frame transmitted (03 R58) -/

/-- The line once a frame is transmitted: its slot has the next frame, and the abandon run is over. -/
def frameLeft (s : State) (name : SlotName) : State :=
  let s1 := s.setSlot name (slotNext (s.slotAt name))
  s1.setLine { s1.line with
    onLine := none, receiver := .hunt, idleCount := 0, chars := [], abandonRun := 0,
    stuckTimer := none, stuckLatch := false }

theorem frameSent_eq {s : State} {name : SlotName} {f : LineFrame}
    (hline : s.line.onLine = some name) (hframe : (s.slotAt name).frame = some f) :
    s.frameSent = (((s.frameLeft name).floorSent f.kind).lineGood).followUp := by
  simp only [frameSent, hline, hframe]
  rfl

theorem frameLeft_slotAt (s : State) (name other : SlotName) : (s.frameLeft name).slotAt other =
    if other = name then { frame := (s.slotAt name).next, next := none, failures := 0 }
    else s.slotAt other :=
  slotAt_of_setSlot rfl rfl rfl other

theorem floorSent_line (s : State) (kind : FrameKind) : (s.floorSent kind).line = s.line := by simp

/-- The floor unit is told of the frame; only a TALK in ANNOUNCING makes a record (04 R79). -/
theorem floorSent_events {s : State} {kind : FrameKind} (h : ∀ bid, s.floor.ctx ≠ .announcing bid) :
    (s.floorSent kind).events = s.events := by
  unfold floorSent
  split
  · rfl
  next bid hctx => exact absurd hctx (h bid)
  · rfl
  · rfl

theorem lineGood_of_isolated {s : State} (h : s.floor.isolated = true) :
    s.lineGood.events = (s.offer .isolatedOff).events := by
  have hoffer : ((s.setFloor { s.floor with isolated := false }).offer .isolatedOff).events =
      (s.offer .isolatedOff).events := offer_events_congr _ rfl
  rw [lineGood, if_pos h]
  cases s.floor.ctx <;> exact hoffer

/-- A transmitted TALK in ANNOUNCING starts the play of the BIDDING candidate (04 R79). -/
theorem floorSent_talk {s : State} {bid : Bid} {e : Entry} (hctx : s.floor.ctx = .announcing bid)
    (he : s.agenda.find bid.ticket = some e) (hstate : e.state = .bidding) :
    s.floorSent .talk = (s.setCtx (.holding bid (s.newHold true))).startPlay e .floor := by
  have hfind : (s.setCtx (.holding bid (s.newHold true))).agenda.find bid.ticket = some e := he
  simp only [floorSent, hctx, startBid, hfind, if_pos hstate]

theorem floorSent_beacon (s : State) : s.floorSent .beacon = s := by
  cases hctx : s.floor.ctx <;> simp only [floorSent]

theorem lineGood_ctx {s : State} (h : ∀ n, s.floor.ctx ≠ .deferring n) :
    s.lineGood.floor.ctx = s.floor.ctx := by
  rw [lineGood_floor]
  dsimp only
  split
  next n _ hctx => exact absurd hctx (h n)
  · rfl

theorem lineGood_isolated (s : State) : s.lineGood.floor.isolated = false := by
  rw [lineGood_floor]

theorem lineGood_deferring {s : State} {n : Nat} (h : s.floor.ctx = .deferring n) :
    ∃ m, s.lineGood.floor.ctx = .deferring m := by
  rw [lineGood_floor, h]
  cases s.floor.isolated <;> exact ⟨_, rfl⟩

theorem lineGood_floorFree (s : State) : s.lineGood.floorFree = s.floorFree := by
  cases hctx : s.floor.ctx with
  | deferring n =>
    obtain ⟨m, hm⟩ := lineGood_deferring hctx
    simp only [floorFree, hm, hctx]
  | _ => simp only [floorFree, lineGood_ctx (s := s) (by simp [hctx])]

/-- What a play that has started shows after the line-good report and the tests. -/
theorem goodFollowUp_of_isPlaying {s : State} (h : s.agenda.isPlaying = true) :
    s.lineGood.followUp.floor = s.lineGood.floor ∧ s.lineGood.followUp.renderer = s.renderer ∧
      s.lineGood.followUp.level = s.level ∧ s.lineGood.followUp.agenda.bare = s.agenda.bare := by
  rw [followUp_of_isPlaying (s := s.lineGood) (by simpa using h)]
  refine ⟨by simp, by simp, by simp, by simp⟩

/-- A transmitted TALK in ANNOUNCING, as the step leaves it: the hold, and the play that starts (04 R79, 06 R111). -/
theorem talkSent_effect {s : State} {bid : Bid} {e : Entry} (hctx : s.floor.ctx = .announcing bid)
    (he : s.agenda.find bid.ticket = some e) (hstate : e.state = .bidding) :
    let t := (s.floorSent .talk).lineGood.followUp
    t.floor.ctx = .holding bid (s.newHold true) ∧
      t.renderer.phase = .lead ∧ t.renderer.timer = 80 ∧ t.renderer.enable = true ∧
      t.level.gain = gainCode s.settings s.level.amb e.post.cls s.floor.isolated ∧
      (∃ p, t.renderer.play = some p ∧ p.ticket = e.ticket ∧ p.route = .floor) ∧
      ∃ q, t.agenda.find e.ticket = some q ∧ q.bare = s.playing e.bare := by
  have hfind : (s.setCtx (.holding bid (s.newHold true))).agenda.find e.ticket = some e :=
    (Agenda.find_ticket he) ▸ he
  obtain ⟨q, hq, hbare⟩ := startPlay_find .floor hfind
  obtain ⟨hphase, htimer, henable, hplay⟩ := startPlay_renderer
    (s.setCtx (.holding bid (s.newHold true))) e .floor
  have hgain := startPlay_gain (s.setCtx (.holding bid (s.newHold true))) e .floor
  obtain ⟨hfloor, hrenderer, hlevel, hagenda⟩ := goodFollowUp_of_isPlaying
    (Agenda.isPlaying_of_find hq (congrArg Entry.state hbare))
  obtain ⟨q', hq', hbare'⟩ := Agenda.find_of_bare_eq hagenda hq
  intro t
  have ht : t = ((s.setCtx (.holding bid (s.newHold true))).startPlay e .floor).lineGood.followUp := by
    rw [← floorSent_talk hctx he hstate]
  rw [ht, hfloor, hrenderer, hlevel]
  refine ⟨?_, hphase, htimer, henable, hgain, hplay, q', hq', hbare'.trans hbare⟩
  rw [lineGood_ctx (by simp)]
  simp

/-- A transmitted BEACON, as the step leaves it: the first local entry starts its play (01 R7, log 26). -/
theorem beaconSent_effect {s : State} {e : Entry} (hactive : s.rest.part = .active)
    (hplay : s.agenda.isPlaying = false) (hfree : s.floorFree = true)
    (he : s.agenda.localCandidate s.flash.store = some e) :
    let t := (s.floorSent .beacon).lineGood.followUp
    t.renderer.phase = .lead ∧ t.renderer.timer = 80 ∧ t.renderer.enable = true ∧
      (∃ p, t.renderer.play = some p ∧ p.ticket = e.ticket ∧
        p.route = (if e.post.isSpeech = true then .degraded else .local)) ∧
      ∃ q, t.agenda.find e.ticket = some q ∧ q.state = .playing := by
  intro t
  obtain ⟨q, hmem, hbare, hfollow⟩ := followUp_of_localCandidate (s := s.lineGood) (e := e)
    (by simpa using hactive) (by simpa using hplay) (by rwa [lineGood_floorFree]) (by simpa using he)
  have hticket : q.bare.ticket = e.bare.ticket := congrArg Entry.ticket hbare
  rw [Entry.bare_ticket, Entry.bare_ticket] at hticket
  have ht : t = (s.lineGood.selectOwner.startPlay q
      (if e.post.isSpeech = true then .degraded else .local)).idleTest := by
    rw [← hfollow, ← floorSent_beacon s]
  obtain ⟨hphase, htimer, henable, hplays⟩ := startPlay_renderer s.lineGood.selectOwner q
    (if e.post.isSpeech = true then .degraded else .local)
  obtain ⟨r, hr⟩ := Agenda.find_of_mem hmem
  obtain ⟨r', hr', hbare'⟩ := startPlay_find
    (if e.post.isSpeech = true then .degraded else .local) hr
  rw [ht, ← hticket]
  exact ⟨by simpa using hphase, by simpa using htimer, by simpa using henable, by simpa using hplays,
    r', by simpa using hr', congrArg Entry.state hbare'⟩

end State

/-- Settles O13: the line and the slots, and what the owner of the frame does. -/
theorem transmissionEmptiesTheSlot : Obligations.TransmissionEmptiesTheSlot := by
  intro s name f hline hframe
  have hkeeps : (s.frameLeft name).floor = s.floor ∧ (s.frameLeft name).agenda = s.agenda ∧
      (s.frameLeft name).events = s.events ∧ (s.frameLeft name).rest = s.rest ∧
      (s.frameLeft name).flash = s.flash ∧ (s.frameLeft name).settings = s.settings ∧
      (s.frameLeft name).level = s.level ∧ (s.frameLeft name).roster = s.roster ∧
      (s.frameLeft name).timebase = s.timebase := by
    simp [State.frameLeft]
  obtain ⟨hfloor, hagenda, hevents, hrest, hflash, hsettings, hlevel, hroster, htimebase⟩ := hkeeps
  have hslots := s.frameLeft_slotAt name
  have hsame (other : SlotName) : s.frameSent.slotAt other = (s.frameLeft name).slotAt other := by
    rw [State.frameSent_eq hline hframe]
    exact State.slotAt_congr (by simp) other
  refine ⟨_, exec_frameTransmitted s, by simp [State.changedIn_iff, Block.followUp], ?_, ?_, ?_,
    fun other hother => ?_, by simp, ?_, by simp, by simp, by simp [EventQueue.grewFrom_refl], fun hiso hctx => ?_, ?_, fun bid hkind hctx => ?_,
    fun bid e hkind hctx he hstate => ?_, fun e hkind hactive hplay hfree he => ?_⟩
  · simp [State.frameSent_eq hline hframe, State.frameLeft]
  · simp [State.frameSent_eq hline hframe, State.frameLeft]
  · simp [State.frameSent_eq hline hframe, State.frameLeft]
  · rw [hsame, hslots, if_neg hother]
  · simp [State.frameSent_eq hline hframe, State.lineGood_isolated]
  · rw [State.frameSent_eq hline hframe]
    refine State.followUp_grew _ _ ?_
    have hoffer : ((s.frameLeft name).floorSent f.kind).events = s.events :=
      (State.floorSent_events (by simpa [hfloor] using hctx)).trans hevents
    rw [State.lineGood_of_isolated (by simpa [hfloor] using hiso), State.offer_events_congr _ hoffer]
    exact EventQueue.grewFrom_refl _
  · rw [hsame, hslots, if_pos rfl]
  · have hsent : (s.frameLeft name).floorSent f.kind =
        (s.frameLeft name).setCtx (.claiming bid (50 * s.settings.window)) := by
      simp only [State.floorSent, hkind, hfloor, hctx, hsettings]
    have hbusy : ((s.frameLeft name).setCtx
        (.claiming bid (50 * s.settings.window))).lineGood.floorFree = false := by
      rw [State.lineGood_floorFree]
      rfl
    rw [State.frameSent_eq hline hframe, hsent, (State.followUp_busy _ hbusy).1,
      State.lineGood_ctx (by simp)]
    simp
  · have ht := State.talkSent_effect (s := s.frameLeft name) (bid := bid) (e := e)
      (by rwa [hfloor]) (by rwa [hagenda]) hstate
    rw [State.frameSent_eq hline hframe, hkind]
    obtain ⟨hhold, hphase, htimer, henable, hgain, hplay, q, hq, hbare⟩ := ht
    have hfield {α : Type} (g : Entry → α) := congrArg g hbare
    have hkind : q.playKind = some (if 1 ≤ e.owed then .counted else if e.replay = true then .replay
        else .pullIn) := hfield Entry.playKind
    have hbinding : q.binding = (s.frameLeft name).bindingFor e.post := hfield Entry.binding
    have hstart : q.lastPlayStart = some ⟨(s.frameLeft name).timebase.seconds,
        (s.frameLeft name).timebase.plays⟩ := hfield Entry.lastPlayStart
    rw [State.bindingFor, hroster, hsettings] at hbinding
    rw [htimebase] at hstart
    rw [hsettings, hlevel, hfloor] at hgain
    rw [State.newHold, htimebase] at hhold
    exact ⟨hhold, hphase, htimer, henable, hgain, hplay, q, hq, hfield Entry.state, hfield Entry.wait,
      hfield Entry.endRequest, hfield Entry.interrupted, hfield Entry.due, hkind, hstart, hbinding⟩
  · have ht := State.beaconSent_effect (s := s.frameLeft name) (e := e) (by rwa [hrest])
      (by rwa [hagenda]) (by rwa [State.floorFree, hfloor]) (by rwa [hagenda, hflash])
    rw [State.frameSent_eq hline hframe, hkind]
    exact ht

end Sys2Proof.Machine

/-! ## The line-stuck timer, and the play that ISOLATED lets start (03 R61, 04 R87, R88; O18) -/

namespace Sys2Proof.Machine

namespace State

/-! ### The ISOLATED start (04 R88) -/

theorem estimateProgram_congr {s t : State} (hstore : t.flash.store = s.flash.store)
    (hpanel : t.panel = s.panel) (p : Post) : t.estimateProgram p = s.estimateProgram p := by
  rw [estimateProgram, hstore, hpanel, estimateProgram]

/-- The play estimate reads the phrase store, the language and the machine record (06 R122). -/
theorem estimate_congr {s t : State} (hstore : t.flash.store = s.flash.store) (hpanel : t.panel = s.panel)
    (hphrases : t.phraseStore = s.phraseStore) (hmachine : t.machine = s.machine) (p : Post) :
    t.estimate p = s.estimate p := by
  rw [estimate, estimateProgram_congr hstore hpanel, hstore, hpanel, hphrases, hmachine, estimate]

/-- With ISOLATED set the candidate's play starts without the exchange, unless a local entry precedes it. -/
theorem followUp_of_isolated {s : State} {e : Entry} (hactive : s.rest.part = .active)
    (hfree : s.floorFree = true) (hiso : s.floor.isolated = true)
    (he : s.agenda.answer s.flash.store = .candidate e)
    (hlocal : s.agenda.localCandidate s.flash.store = none) :
    ∃ q ∈ s.selectOwner.agenda.entries, q.bare = e.bare ∧
      s.followUp = (s.selectOwner.isolatedStart q).idleTest := by
  obtain ⟨q, hq, hbare⟩ := Agenda.answer_of_bare_eq (b := s.selectOwner.agenda) (by simp) he
  obtain ⟨hmem, -, -, -⟩ := Agenda.answer_candidate hq
  have hnone : s.selectOwner.agenda.localCandidate s.selectOwner.flash.store = none := by
    have hsame := Agenda.localCandidate_of_bare_eq (b := s.selectOwner.agenda) (a := s.agenda)
      (by simp) s.flash.store
    rw [hlocal] at hsame
    simpa using hsame
  have hstill : s.selectOwner.localStart = s.selectOwner := by
    simp only [localStart, hnone]
    exact ite_self _
  have hmay : s.selectOwner.rest.part = .active ∧ s.selectOwner.floorFree = true := by
    refine ⟨by simpa using hactive, ?_⟩
    simpa only [floorFree, selectOwner_keeps] using hfree
  have hfloor : s.selectOwner.floorTest = s.selectOwner.isolatedStart q := by
    have hanswer : s.selectOwner.agenda.answer s.selectOwner.flash.store = .candidate q := by
      simpa using hq
    have hon : s.selectOwner.floor.isolated = true := by simpa using hiso
    simp only [floorTest, if_pos hmay, hanswer, if_pos hon]
  exact ⟨q, hmem, hbare, by rw [followUp, hstill, hfloor]⟩

/-- What the ISOLATED start leaves: the hold that no peer knows of, the reads of the estimate, and the play. -/
theorem isolatedStart_effect {s : State} {e : Entry} (he : e ∈ s.agenda.entries) :
    let t := s.isolatedStart e
    t.floor.ctx = .holding (s.bidFor e) (s.newHold false) ∧
      t.renderer.phase = .lead ∧ t.renderer.timer = 80 ∧ t.renderer.enable = true ∧
      (∃ p, t.renderer.play = some p ∧ p.ticket = e.ticket ∧ p.route = .floor) ∧
      ∃ q, t.agenda.find e.ticket = some q ∧ q.state = .playing := by
  intro t
  obtain ⟨r, hr⟩ := Agenda.find_of_mem he
  obtain ⟨hphase, htimer, henable, hplays⟩ := startPlay_renderer
    ((s.requestEstimate e.post).setCtx (.holding (s.bidFor e) (s.newHold false))) e .floor
  obtain ⟨q, hq, hbare⟩ := startPlay_find
    (s := (s.requestEstimate e.post).setCtx (.holding (s.bidFor e) (s.newHold false))) .floor hr
  refine ⟨?_, hphase, htimer, henable, hplays, q, hq, congrArg Entry.state hbare⟩
  simp [t, isolatedStart]

/-! ### The isolate report (04 R87) -/

/-- A free floor unit has no bid to take back. -/
theorem isolateReport_of_free {s : State} (h : s.floorFree = true) :
    s.isolateReport.agenda = s.agenda ∧ s.isolateReport.floorFree = true := by
  unfold isolateReport
  split
  · exact ⟨rfl, h⟩
  · cases hctx : s.floor.ctx with
    | idle => simp [floorFree, hctx]
    | deferring n => simp [floorFree]
    | _ => simp [floorFree, hctx] at h

/-- The stuck timer and the latch stand, whatever frame is removed (03 R60, R61). -/
theorem isolateReport_stuck {s : State} {n : Nat} (h : s.line.stuckTimer = some n) :
    s.isolateReport.line.stuckTimer = some n ∧
      s.isolateReport.line.stuckLatch = s.line.stuckLatch := by
  have hremoved (u : State) (hu : u.line = s.line) : (u.removeFrame .talk).line.stuckTimer = some n ∧
      (u.removeFrame .talk).line.stuckLatch = s.line.stuckLatch := by
    rw [← hu] at h
    refine ⟨?_, by simp [hu]⟩
    unfold removeFrame
    split <;> simp [setSlot, breakFrame, h]
  unfold isolateReport
  split
  · exact ⟨h, rfl⟩
  · cases s.floor.ctx with
    | idle => simp [h]
    | deferring n => simp [h]
    | claiming bid window => simp [h]
    | holding bid hold => simp [h]
    | pending bid =>
      simp only [deferBid_keeps]
      exact hremoved _ (by simp)
    | announcing bid =>
      simp only [deferBid_keeps]
      exact hremoved _ (by simp)

theorem isolateReport_isolated (s : State) : s.isolateReport.floor.isolated = true := by
  cases h : s.floor.isolated with
  | false => exact (isolateReport_effect s h).1
  | true => rw [isolateReport_of_isolated s h, h]

/-- The candidate's play, from a free floor unit that has become isolated. -/
theorem isolatedFollowUp_effect {s : State} {e : Entry} (hactive : s.rest.part = .active)
    (hfree : s.floorFree = true) (hiso : s.floor.isolated = true)
    (he : s.agenda.answer s.flash.store = .candidate e)
    (hlocal : s.agenda.localCandidate s.flash.store = none) :
    let t := s.followUp
    t.floor.ctx = .holding (s.bidFor e) (s.newHold false) ∧
      t.flash.estimate = (s.estimateProgram e.post).requests s.phraseStore ∧
      t.renderer.phase = .lead ∧ t.renderer.timer = 80 ∧ t.renderer.enable = true ∧
      (∃ p, t.renderer.play = some p ∧ p.ticket = e.ticket ∧ p.route = .floor) ∧
      ∃ q, t.agenda.find e.ticket = some q ∧ q.state = .playing := by
  intro t
  obtain ⟨q, hmem, hbare, ht⟩ := followUp_of_isolated hactive hfree hiso he hlocal
  have hfield {α : Type} (g : Entry → α) := congrArg g hbare
  have hticket : q.ticket = e.ticket := hfield Entry.ticket
  have hpost : q.post = e.post := hfield Entry.post
  have hkey : q.bare.key = e.bare.key := hfield Entry.key
  rw [Entry.bare_key, Entry.bare_key] at hkey
  have hestimate : s.selectOwner.estimate q.post = s.estimate e.post := by
    rw [hpost, estimate_congr (s := s) (by simp) (by simp) (by simp) (by simp)]
  have hbid : s.selectOwner.bidFor q = s.bidFor e := by
    rw [bidFor, hestimate, hticket, hkey, bidFor]
  have hhold : s.selectOwner.newHold false = s.newHold false := by simp [newHold]
  have hprogram : s.selectOwner.estimateProgram q.post = s.estimateProgram e.post := by
    rw [hpost, estimateProgram_congr (s := s) (by simp) (by simp)]
  have heffect := isolatedStart_effect (s := s.selectOwner) hmem
  obtain ⟨-, hreads⟩ := s.selectOwner.isolatedStart_scan q
  rw [hbid, hhold, hticket] at heffect
  rw [hprogram] at hreads
  obtain ⟨hctx, hphase, htimer, henable, hplay, hfind⟩ := heffect
  have hidle (v : State) : v.idleTest.floor = v.floor ∧ v.idleTest.flash = v.flash ∧
      v.idleTest.renderer = v.renderer ∧ v.idleTest.agenda = v.agenda := by simp
  obtain ⟨hfloor, hflash, hrenderer, hagenda⟩ := hidle (s.selectOwner.isolatedStart q)
  rw [show t = _ from ht, hfloor, hflash, hrenderer, hagenda]
  exact ⟨hctx, hreads.trans (by simp), hphase, htimer, henable, hplay, hfind⟩

/-- The state in which a dominant spell of 1 s is reported (03 R61). -/
def spellTaken (s : State) : State :=
  (s.setLine { s.line with stuckLatch := true, receiver := .hunt, idleCount := 0, chars := [] }).offer
    .lineStuck

end State

/-- Settles O18: the report, and the play that starts in a free floor unit. -/
theorem stuckLineIsolates : Obligations.StuckLineIsolates := by
  intro s hclock
  refine ⟨fun h => ?_, fun hlatch htimer => ⟨_, exec_lineStuck s, ?_⟩⟩
  · rw [exec_lineStuck, State.lineHeld, if_neg]
    rintro ⟨-, hreached, hclear⟩
    obtain h | h := h
    · simp [h] at hclear
    · exact h hreached
  · have hheld : s.lineHeld = s.spellTaken.isolateReport.followUp :=
      if_pos ⟨by simp [State.receiving, hclock], htimer, hlatch⟩
    have hline : s.spellTaken.line.stuckTimer = some 1000 ∧ s.spellTaken.line.stuckLatch = true :=
      ⟨by simpa [State.spellTaken] using htimer, by simp [State.spellTaken]⟩
    have hkeeps : s.spellTaken.floor = s.floor ∧ s.spellTaken.agenda = s.agenda ∧
        s.spellTaken.rest = s.rest ∧ s.spellTaken.flash = s.flash ∧ s.spellTaken.timebase = s.timebase ∧
        s.spellTaken.panel = s.panel ∧ s.spellTaken.machine = s.machine ∧
        s.spellTaken.phraseStore = s.phraseStore := by
      simp [State.spellTaken]
    have hevents : s.spellTaken.events = (s.offer .lineStuck).events := State.offer_events_congr _ rfl
    have hchanged : s.spellTaken.changedIn s (.line :: Block.followUp) := by
      simp [State.changedIn_iff, State.spellTaken, Block.followUp]
    rw [hheld]
    generalize s.spellTaken = u at *
    obtain ⟨hfloor, hagenda, hrest, hflash, htimebase, hpanel, hmachine, hphrases⟩ := hkeeps
    obtain ⟨hreached, hlatched⟩ := State.isolateReport_stuck hline.1
    refine ⟨?_, ?_, ?_, ?_, ?_, fun hiso => ?_, fun hiso => ?_, fun e hactive hfree he hlocal => ?_⟩
    · simpa using hlatched.trans hline.2
    · simpa using hreached
    · simpa using u.isolateReport_isolated
    · simp [hagenda]
    · exact State.changedIn_trans (by simp [State.changedIn_iff, Block.followUp]) hchanged
    · obtain ⟨-, hclaims, hholders, hqueue⟩ := u.isolateReport_effect (by rwa [hfloor])
      refine ⟨by simpa using hclaims, by simpa using hholders, State.followUp_grew _ _ ?_⟩
      rw [hqueue, State.offer_events_congr _ hevents]
      exact EventQueue.grewFrom_refl _
    · rw [State.isolateReport_of_isolated u (by rwa [hfloor])]
      refine ⟨by simp [hfloor], by simp [hfloor], State.followUp_grew _ _ ?_⟩
      rw [hevents]
      exact EventQueue.grewFrom_refl _
    · obtain ⟨hsame, hfree'⟩ := State.isolateReport_of_free (s := u) (by rwa [State.floorFree, hfloor])
      obtain ⟨hctx, hreads, hplay⟩ := State.isolatedFollowUp_effect (s := u.isolateReport) (e := e)
        (by simpa [hrest] using hactive) hfree' u.isolateReport_isolated
        (by simpa [hsame, hagenda, hflash] using he) (by simpa [hsame, hagenda, hflash] using hlocal)
      have hprogram : u.isolateReport.estimateProgram e.post = s.estimateProgram e.post :=
        State.estimateProgram_congr (by simp [hflash]) (by simp [hpanel]) _
      have hestimate : u.isolateReport.estimate e.post = s.estimate e.post :=
        State.estimate_congr (by simp [hflash]) (by simp [hpanel]) (by simp [hphrases])
          (by simp [hmachine]) _
      refine ⟨?_, ?_, hplay⟩
      · rw [hctx, State.bidFor, hestimate, State.newHold]
        simp [htimebase, Config.renewalPeriod]
      · rw [hreads, hprogram]
        simp [hphrases]

end Sys2Proof.Machine

/-! ## Frames heard (03 R50, 04 R68 to R70, 05 R92; O14, O15) -/

namespace Sys2Proof.Machine

namespace State

/-! ### The frame of another station (03 R49, R50, R62) -/

/-- A frame that is taken is a line-good report before it is handed on (04 R89). -/
def goodFrame (s : State) : State := (s.toHunt 0).lineGood

theorem frameHeard_foreign {s : State} {chars : List Byte} {h : Heard} (hclock : s.clocked = true)
    (hhunt : s.line.receiver ≠ .hunt) (htake : takeFrame chars = some h)
    (hforeign : s.isOwnFrame chars = false) (hstation : h.station ≠ s.timebase.station) :
    s.frameHeard chars = (s.goodFrame.handOn h).followUp := by
  have htaken : (s.toHunt 0).takeHeard h false = (s.goodFrame.handOn h).followUp := by
    rw [takeHeard, if_neg (by decide), if_neg (by simpa using hstation), goodFrame]
  cases hreceiver : s.line.receiver with
  | hunt => exact absurd hreceiver hhunt
  | idle | frame =>
    simp only [frameHeard, receiving, hclock, hreceiver, htake, hforeign, htaken]
    rfl

/-- A frame of another station is taken whole from its characters. -/
theorem exec_frameReceived_foreign {s : State} {station : Nat} {f : LineFrame} (hclock : s.clocked = true)
    (hhunt : s.line.receiver ≠ .hunt) (hstation : station < 32) (hstrap : s.strapLawful)
    (hother : station ≠ s.timebase.station)
    (htake : takeFrame (f.chars station) = some { station := station, frame := f }) :
    exec (.frameReceived (f.chars station)) s =
      .next (s.goodFrame.handOn { station := station, frame := f }).followUp :=
  (exec_frameReceived s _).trans (congrArg _ (frameHeard_foreign hclock hhunt htake
    (s.isOwnFrame_foreign f station hstation hstrap hother) hother))

theorem goodFrame_isolated (s : State) : s.goodFrame.floor.isolated = false :=
  lineGood_isolated _

/-- A line-good report leaves all but the floor context's count, the flag and its record. -/
@[simp] theorem goodFrame_keeps (s : State) :
    s.goodFrame.timebase = s.timebase ∧ s.goodFrame.settings = s.settings ∧
      s.goodFrame.agenda = s.agenda ∧ s.goodFrame.floor.claims = s.floor.claims ∧
      s.goodFrame.floor.holders = s.floor.holders ∧ s.goodFrame.roster = s.roster ∧
      s.goodFrame.flash = s.flash ∧ s.goodFrame.renderer = s.renderer ∧
      s.goodFrame.level = s.level ∧ s.goodFrame.rest = s.rest ∧
      s.goodFrame.line.receiver = .hunt ∧ s.goodFrame.line.onLine = s.line.onLine ∧
      s.goodFrame.line.talkSlot = s.line.talkSlot := by
  simp [goodFrame, toHunt]

theorem goodFrame_changedIn (s : State) : s.goodFrame.changedIn s [.line, .floor, .events] := by
  simp [goodFrame, changedIn_iff]

end State

/-- Settles O15: the record that the roster takes. -/
theorem beaconHeardIsRecorded : Obligations.BeaconHeardIsRecorded := by
  intro s station zone minutes kind a hclock hhunt hstation hstrap hother hzone hminutes
  refine ⟨_, State.exec_frameReceived_foreign hclock hhunt hstation hstrap hother
    (takeFrame_beacon station zone minutes kind a hstation hzone hminutes), ?_⟩
  have hrecords : (s.goodFrame.handOn
      { station := station, frame := .beacon kind a zone minutes }).followUp.roster.records =
      putPeer { station := station, kind := kind, availability := a, zone := zone, minutes := minutes,
                age := 30 * s.settings.beaconPeriod } s.roster.records := by
    simp [State.handOn, State.hearBeacon]
  rw [hrecords]
  refine ⟨mem_putPeer_self _ _, fun r hr => mem_putPeer_iff (by exact hr) _, ?_, ?_, ?_, ?_, ?_⟩
  · simp [State.handOn, State.hearBeacon, State.goodFrame_isolated]
  · simp [State.handOn, State.hearBeacon]
  · simp [State.handOn, State.hearBeacon]
  · simp [State.handOn, State.hearBeacon]
  · exact State.changedIn_trans (by simp [State.changedIn_iff, State.handOn, State.hearBeacon, Block.followUp])
      (State.changedIn_mono s.goodFrame_changedIn (by simp [Block.followUp]))

end Sys2Proof.Machine

/-! ## DONE, CLAIM and TALK of another station (04 R65 to R70, R75, R78, R81 to R83; O14) -/

namespace Sys2Proof.Machine

namespace State

/-! ### The tests after a frame, by the floor context -/

/-- Neither IDLE nor DEFERRING, the tests start nothing. -/
theorem followUp_bare_of_busy {s : State} (h : s.floorFree = false) :
    s.followUp.agenda.bare = s.agenda.bare := by
  have hfree : s.selectOwner.floorFree = false := by
    simpa only [floorFree, selectOwner_keeps] using h
  have hlocal : s.selectOwner.localStart = s.selectOwner := if_neg (by simp [hfree])
  have hfloor : s.selectOwner.floorTest = s.selectOwner := if_neg (by simp [hfree])
  rw [followUp, hlocal, hfloor]
  simp

/-- The floor unit, the renderer and the TALK/CLAIM slot stand through the tests in a busy context. -/
theorem followUp_of_busy {s : State} (h : s.floorFree = false) : s.followUp.floor = s.floor ∧
    s.followUp.renderer = s.renderer ∧ s.followUp.line = s.line := by
  obtain ⟨hfloor, hrenderer, -, -⟩ := followUp_busy s h
  exact ⟨hfloor, hrenderer, by simp⟩

/-- A bid that a frame defers (04 R75, R78): its frame is removed, and no entry bids. -/
theorem deferredBid_effect {s : State} (hiso : s.floor.isolated = false) :
    ((s.removeFrame .talk).deferBid).followUp.floor.ctx = .deferring 0 ∧
      ((s.removeFrame .talk).deferBid).followUp.line.talkSlot = Slot.empty ∧
      ∀ q ∈ ((s.removeFrame .talk).deferBid).followUp.agenda.entries, q.state ≠ .bidding := by
  refine ⟨?_, by simp, followUp_not_bidding (deferBid_not_bidding _)⟩
  rw [followUp_floor_of_deferring (by simpa using hiso) (deferBid_ctx _), deferBid_ctx]

/-- A play that is asked to end while HOLDING (04 R82, R83): the mark, the slot, and the entry's end request. -/
theorem heldStop_effect {s : State} (bid : Bid) (hold : Hold) (mark : YieldMark) (how : StopKind) :
    let v := ((s.markYield bid hold mark).removeFrame .talk).stopEntry bid.ticket .interrupt how
    v.followUp.floor.ctx = .holding bid { hold with yield := mark } ∧
      v.followUp.line.talkSlot = Slot.empty ∧ v.followUp.renderer = v.renderer ∧
      ∀ q, v.followUp.agenda.find bid.ticket = some q →
        ∀ was, s.agenda.find bid.ticket = some was →
          q.endRequest = was.endRequest.asked .interrupt := by
  intro v
  have hctx : v.floor.ctx = .holding bid { hold with yield := mark } := by simp [v, markYield]
  have hbusy : v.floorFree = false := by rw [floorFree, hctx]
  obtain ⟨hfloor, hrenderer, hline⟩ := followUp_of_busy hbusy
  refine ⟨by rw [hfloor, hctx], by rw [hline]; simp [v], hrenderer, fun q hq was hwas => ?_⟩
  have hstop : v.agenda.find bid.ticket = some (was.request .interrupt) :=
    stopEntry_find (by simpa [markYield] using hwas) _ _
  obtain ⟨q', hq', hbare⟩ := Agenda.find_of_bare_eq (followUp_bare_of_busy hbusy) hstop
  obtain rfl := Option.some.inj (hq.symm.trans hq')
  exact (congrArg Entry.endRequest hbare).trans (was.request_endRequest _)

/-! ### The view is tested (04 R71, R73, R75) -/

theorem viewChanged_of_pending {s : State} {bid : Bid} (hctx : s.floor.ctx = .pending bid)
    (hview : s.viewClear bid.key = false) : s.viewChanged = (s.removeFrame .talk).deferBid := by
  simp [viewChanged, hctx, hview]

theorem viewChanged_of_idle {s : State} (hctx : s.floor.ctx = .idle) : s.viewChanged = s := by
  simp [viewChanged, hctx]

/-- In DEFERRING the count stands, unless there is a candidate with a view that is not clear. -/
theorem viewChanged_of_deferring {s : State} {settle : Nat} (hctx : s.floor.ctx = .deferring settle) :
    ((∃ e, s.agenda.answer s.flash.store = .candidate e ∧ s.viewClear e.key = false) →
      s.viewChanged.floor.ctx = .deferring 0) ∧
    ((∀ e, s.agenda.answer s.flash.store = .candidate e → s.viewClear e.key = true) →
      s.viewChanged.floor.ctx = .deferring settle) := by
  refine ⟨fun ⟨e, he, hview⟩ => ?_, fun h => ?_⟩
  · simp [viewChanged, hctx, he, hview]
  · cases he : s.agenda.answer s.flash.store with
    | candidate e => simp [viewChanged, hctx, he, h e he]
    | noCandidate => simp [viewChanged, hctx, he]
    | playing => simp [viewChanged, hctx, he]

/-- A frame finds the floor unit busy, and the clause of a free one says nothing. -/
theorem freeFloorAfter_of_busy {s t : State} (h : s.floorFree = false) : t.freeFloorAfter s := by
  refine ⟨fun settle hctx => ?_, fun hctx => ?_⟩ <;> simp [floorFree, hctx] at h

theorem goodFrame_deferring {s : State} {n : Nat} (h : s.floor.ctx = .deferring n) :
    s.goodFrame.floor.ctx = .deferring (if s.floor.isolated = true then 0 else n) := by
  rw [goodFrame, lineGood_floor]
  simp only [toHunt_keeps, h]
  cases s.floor.isolated <;> rfl

theorem goodFrame_ctx {s : State} (h : ∀ n, s.floor.ctx ≠ .deferring n) :
    s.goodFrame.floor.ctx = s.floor.ctx :=
  lineGood_ctx h

/-- The view reads the lists and the strap alone (04 R71). -/
theorem viewClear_congr {s t : State} (hclaims : t.floor.claims = s.floor.claims)
    (hholders : t.floor.holders = s.floor.holders) (hstrap : t.timebase.station = s.timebase.station)
    (key : Nat) : t.viewClear key = s.viewClear key := by
  simp only [viewClear, Floor.viewClear, hclaims, hholders, hstrap]

/-- A free floor unit that tests its view after a frame (04 R72, R73, R89). -/
theorem freeFloorAfter_viewChanged {s w : State} (hagenda : w.agenda = s.agenda)
    (hstore : w.flash.store = s.flash.store) (hiso : w.floor.isolated = false)
    (hctx : w.floor.ctx = s.goodFrame.floor.ctx) : w.viewChanged.followUp.freeFloorAfter s := by
  refine ⟨fun settle hdefer => ?_, fun hidle => ?_⟩
  · rw [goodFrame_deferring hdefer] at hctx
    obtain ⟨hbusy, hclear⟩ := viewChanged_of_deferring hctx
    rw [hagenda, hstore] at hbusy hclear
    have hview (key : Nat) : w.viewChanged.followUp.viewClear key = w.viewClear key :=
      viewClear_congr (by simp) (by simp) (by simp) key
    have hafter {n : Nat} (h : w.viewChanged.floor.ctx = .deferring n) :
        w.viewChanged.followUp.floor.ctx = .deferring n := by
      rw [followUp_floor_of_deferring (by simpa using hiso) h, h]
    refine ⟨fun hon => hafter ?_, fun hoff hnone => hafter ?_, fun e he => ⟨fun hnot => hafter ?_,
      fun hstill hoff => hafter ?_⟩⟩
    · rw [if_pos hon] at hclear
      by_cases h : ∃ e, s.agenda.answer s.flash.store = .candidate e ∧ w.viewClear e.key = false
      · exact hbusy h
      · refine hclear fun e he => ?_
        by_contra hnot
        exact h ⟨e, he, by simpa using hnot⟩
    · rw [hclear fun e he => absurd he (hnone e), if_neg (by simp [hoff])]
    · exact hbusy ⟨e, he, by rw [← hview, hnot]⟩
    · rw [hclear, if_neg (by simp [hoff])]
      intro q hq
      obtain rfl : q = e := by simpa using hq.symm.trans he
      rw [← hview, hstill]
  · rw [goodFrame_ctx (by simp [hidle]), hidle] at hctx
    rw [viewChanged_of_idle hctx]
    obtain ⟨hfloor, hno⟩ := followUp_floor_of_idle hiso hctx
    refine ⟨hfloor.imp (fun h => ?_) fun h => ?_, fun hanswer => ?_⟩
    · rw [h, hctx]
    · rw [h]
      rfl
    · rw [hno (by rwa [hagenda, hstore]), hctx]

/-! ### The receiver (03 R46) -/

/-- A removed frame leaves a receiver that hunts in HUNT (03 R60). -/
theorem removeFrame_hunt {s : State} (h : s.line.receiver = .hunt) (name : SlotName) :
    (s.removeFrame name).line.receiver = .hunt := by
  unfold removeFrame
  split <;> simp [breakFrame, h]

theorem queueRenewal_hunt {s : State} (h : s.line.receiver = .hunt) (bid : Bid) (hold : Hold) :
    (s.queueRenewal bid hold).line.receiver = .hunt := by
  unfold queueRenewal queueTalk queueFrame
  (repeat' split) <;> simp [h]

theorem viewChanged_hunt {s : State} (h : s.line.receiver = .hunt) :
    s.viewChanged.line.receiver = .hunt := by
  unfold viewChanged
  (repeat' split) <;> simp [h, removeFrame_hunt]

theorem holderHearsClaim_hunt {s : State} (h : s.line.receiver = .hunt) (bid : Bid) (hold : Hold)
    (key : Nat) : (s.holderHearsClaim bid hold key).line.receiver = .hunt := by
  unfold holderHearsClaim
  (repeat' split) <;> simp [h, removeFrame_hunt, queueRenewal_hunt, markYield]

theorem holderHearsTalk_hunt {s : State} (h : s.line.receiver = .hunt) (bid : Bid) (hold : Hold)
    (station key : Nat) : (s.holderHearsTalk bid hold station key).line.receiver = .hunt := by
  unfold holderHearsTalk yieldAtOnce
  (repeat' split) <;> simp [h, removeFrame_hunt, queueRenewal_hunt, markYield]

/-- A frame of another station leaves the receiver in HUNT. -/
theorem handOn_hunt {s : State} (h : s.line.receiver = .hunt) (heard : Heard) :
    (s.handOn heard).line.receiver = .hunt := by
  have hclaim (key : Nat) (mask : BitVec 4) :
      (s.hearClaim heard.station key mask).line.receiver = .hunt := by
    unfold hearClaim
    (repeat' split) <;>
      simp [h, removeFrame_hunt, viewChanged_hunt, holderHearsClaim_hunt, recordClaim, forget]
  have htalk (key : Nat) (mask : BitVec 4) (length : Nat) :
      (s.hearTalk heard.station key mask length).line.receiver = .hunt := by
    unfold hearTalk
    (repeat' split) <;>
      simp [h, removeFrame_hunt, viewChanged_hunt, holderHearsTalk_hunt, recordHolder, forget]
  unfold handOn
  split
  · exact hclaim _ _
  · exact htalk _ _ _
  · exact viewChanged_hunt (by simpa [forget] using h)
  · simpa [hearBeacon] using h

/-! ### A conflicting CLAIM, by the floor context (04 R68, R75, R78, R81, R82) -/

theorem conflicts_iff {own other : BitVec 4} : conflicts own other = true ↔ own &&& other ≠ 0 := by
  simp [conflicts]

theorem beats_iff {k1 s1 k2 s2 : Nat} :
    beats k1 s1 k2 s2 = true ↔ k2 < k1 ∨ k1 = k2 ∧ s1 < s2 := by
  simp [beats]

section
variable {s : State} {station key : Nat} {mask : BitVec 4}

theorem hearClaim_viewed (h : conflicts s.settings.hearMask mask = true)
    (hctx : s.floorFree = true ∨ ∃ bid, s.floor.ctx = .pending bid) :
    s.hearClaim station key mask = (s.recordClaim station key mask).viewChanged := by
  rw [hearClaim, if_pos h]
  cases hc : s.floor.ctx with
  | idle => exact (viewChanged_of_idle (s := s.recordClaim station key mask) hc).symm
  | deferring n => rfl
  | pending bid => rfl
  | _ => simp [floorFree, hc] at hctx

/-- The CLAIM beats the bid, which is deferred. -/
theorem hearClaim_beaten {bid : Bid} (h : conflicts s.settings.hearMask mask = true)
    (hctx : s.floor.ctx = .pending bid ∨ s.floor.ctx = .announcing bid)
    (hbeats : bid.key < key ∨ key = bid.key ∧ station < s.timebase.station) :
    s.hearClaim station key mask =
      ((s.recordClaim station key mask).removeFrame .talk).deferBid := by
  obtain hctx | hctx := hctx
  · rw [hearClaim_viewed h (.inr ⟨bid, hctx⟩)]
    refine viewChanged_of_pending hctx ?_
    rw [Bool.eq_false_iff, ne_eq, viewClear_iff, not_and]
    exact fun _ hclaims => hclaims _ (mem_putRival_self _ _) hbeats
  · simp only [hearClaim, if_pos h, hctx, if_pos (beats_iff.mpr hbeats)]

/-- The CLAIM does not beat the bid that is announced. -/
theorem hearClaim_unbeaten {bid : Bid} (h : conflicts s.settings.hearMask mask = true)
    (hctx : s.floor.ctx = .announcing bid)
    (hbeats : ¬ (bid.key < key ∨ key = bid.key ∧ station < s.timebase.station)) :
    s.hearClaim station key mask = s.recordClaim station key mask := by
  simp only [hearClaim, if_pos h, hctx, if_neg (mt beats_iff.mp hbeats)]

theorem hearClaim_claiming {bid : Bid} {window : Nat} (h : conflicts s.settings.hearMask mask = true)
    (hctx : s.floor.ctx = .claiming bid window) :
    s.hearClaim station key mask = s.recordClaim station key mask := by
  simp only [hearClaim, if_pos h, hctx]

theorem hearClaim_holding {bid : Bid} {hold : Hold} (h : conflicts s.settings.hearMask mask = true)
    (hctx : s.floor.ctx = .holding bid hold) : s.hearClaim station key mask =
      (s.recordClaim station key mask).holderHearsClaim bid hold key := by
  simp only [hearClaim, if_pos h, hctx]

/-! ### A conflicting TALK, by the floor context (04 R69, R75, R78, R81, R83) -/

variable {length : Nat}

theorem hearTalk_viewed (h : conflicts s.settings.hearMask mask = true)
    (hctx : s.floorFree = true ∨ ∃ bid, s.floor.ctx = .pending bid) :
    s.hearTalk station key mask length = (s.recordHolder station key mask length).viewChanged := by
  rw [hearTalk, if_pos h]
  cases hc : s.floor.ctx with
  | idle => exact (viewChanged_of_idle (s := s.recordHolder station key mask length) hc).symm
  | deferring n => rfl
  | pending bid => rfl
  | _ => simp [floorFree, hc] at hctx

/-- A holder is heard, and the bid is deferred. -/
theorem hearTalk_bid {bid : Bid} (h : conflicts s.settings.hearMask mask = true)
    (hctx : s.floor.ctx = .pending bid ∨ s.floor.ctx = .announcing bid) :
    s.hearTalk station key mask length =
      ((s.recordHolder station key mask length).removeFrame .talk).deferBid := by
  obtain hctx | hctx := hctx
  · rw [hearTalk_viewed h (.inr ⟨bid, hctx⟩)]
    refine viewChanged_of_pending hctx ?_
    rw [Bool.eq_false_iff, ne_eq, viewClear_iff, not_and]
    intro hnone
    have hmem : (⟨station, key, mask, 100 * length + 2000⟩ : Rival) ∈
        (s.recordHolder station key mask length).floor.holders := mem_putRival_self _ _
    rw [hnone] at hmem
    exact absurd hmem (by simp)
  · simp only [hearTalk, if_pos h, hctx]

theorem hearTalk_claiming {bid : Bid} {window : Nat} (h : conflicts s.settings.hearMask mask = true)
    (hctx : s.floor.ctx = .claiming bid window) :
    s.hearTalk station key mask length = s.recordHolder station key mask length := by
  simp only [hearTalk, if_pos h, hctx]

theorem hearTalk_holding {bid : Bid} {hold : Hold} (h : conflicts s.settings.hearMask mask = true)
    (hctx : s.floor.ctx = .holding bid hold) : s.hearTalk station key mask length =
      (s.recordHolder station key mask length).holderHearsTalk bid hold station key := by
  simp only [hearTalk, if_pos h, hctx]

end

/-! ### A frame heard while HOLDING (04 R81 to R83) -/

/-- A renewal is queued while no yield is marked, and nothing else changes (04 R81). -/
theorem heldRenewal_effect {s : State} {bid : Bid} {hold : Hold} (hctx : s.floor.ctx = .holding bid hold)
    (hiso : s.floor.isolated = false) (hpart : s.rest.part = .active) :
    (s.queueRenewal bid hold).followUp.floor = s.floor ∧
      (s.queueRenewal bid hold).followUp.renderer = s.renderer ∧
      (s.queueRenewal bid hold).followUp.line.talkSlot = (if hold.yield = .none then
          queuedTo s.line.talkSlot (decide (s.line.onLine = some .talk))
            (.talk bid.key s.settings.hearMask
              (max 1 (bid.length - (s.timebase.ms - hold.start) / 100)))
        else s.line.talkSlot) := by
  have hbusy : (s.queueRenewal bid hold).floorFree = false := by simp [floorFree, hctx]
  obtain ⟨hfloor, hrenderer, hline⟩ := followUp_of_busy hbusy
  refine ⟨hfloor.trans (by simp), hrenderer.trans (by simp), ?_⟩
  rw [hline, queueRenewal_line (by simp [hpart])]
  by_cases hyield : hold.yield = .none
  · rw [if_pos ⟨hiso, hyield⟩, if_pos hyield]
    rfl
  · rw [if_neg fun h => hyield h.2, if_neg hyield]

/-- What every floor frame of another station leaves (03 R49, R62). -/
theorem floorFrame_effect (s : State) (heard : Heard)
    (h : (s.goodFrame.handOn heard).roster = s.goodFrame.roster) :
    let t := (s.goodFrame.handOn heard).followUp
    t.floor.isolated = false ∧ t.line.receiver = .hunt ∧ t.agenda.ids = s.agenda.ids ∧
      t.changedIn s (.line :: Block.followUp) := by
  refine ⟨?_, ?_, by simp, changedIn_trans ?_ (changedIn_mono s.goodFrame_changedIn (by simp [Block.followUp]))⟩
  · simp [goodFrame_isolated]
  · simpa using handOn_hunt (s := s.goodFrame) (by simp) heard
  · simp [changedIn_iff, h, Block.followUp]

/-- A busy context is the same before and after a line-good report. -/
theorem goodFrame_ctx_of {s : State} {c : FloorCtx} (h : s.floor.ctx = c)
    (hc : ∀ n, c ≠ .deferring n) : s.goodFrame.floor.ctx = c :=
  (goodFrame_ctx (by simpa [h] using hc)).trans h

/-- A frame that does not conflict, or a DONE, removes the station's records; the view is tested then. -/
theorem forgotten_effect (s : State) (station : Nat) :
    ((s.goodFrame.forget station).viewChanged.followUp).freeFloorAfter s :=
  freeFloorAfter_viewChanged (by simp [forget]) (by simp [forget])
    (by simp [forget, goodFrame_isolated]) (by simp [forget])

/-- A conflicting CLAIM that is heard while HOLDING, as the step leaves it. -/
theorem claimWhileHolding {s : State} {station key : Nat} {mask : BitVec 4} {bid : Bid} {hold : Hold}
    (hconf : conflicts s.settings.hearMask mask = true) (hctx : s.floor.ctx = .holding bid hold)
    (hiso : s.floor.isolated = false) (hactive : s.rest.part = .active) :
    let t := (s.hearClaim station key mask).followUp
    (bid.key < 192 → 192 ≤ key → hold.yield = .none →
      t.floor.ctx = .holding bid { hold with yield := .atTokenEnd } ∧
      t.line.talkSlot = Slot.empty ∧ t.renderer = s.renderer.cut ∧
      ∀ q, t.agenda.find bid.ticket = some q → ∀ was, s.agenda.find bid.ticket = some was →
        q.endRequest = was.endRequest.asked .interrupt) ∧
    (bid.key < 192 → 192 ≤ key → hold.yield ≠ .none → t.floor.ctx = s.floor.ctx ∧
      t.line.talkSlot = s.line.talkSlot ∧ t.renderer = s.renderer) ∧
    (192 ≤ bid.key ∨ key < 192 → t.floor.ctx = s.floor.ctx ∧ t.renderer = s.renderer ∧
      t.line.talkSlot = (if hold.yield = .none then
          queuedTo s.line.talkSlot (decide (s.line.onLine = some .talk))
            (.talk bid.key s.settings.hearMask
              (max 1 (bid.length - (s.timebase.ms - hold.start) / 100)))
        else s.line.talkSlot)) := by
  intro t
  have ht : t = ((s.recordClaim station key mask).holderHearsClaim bid hold key).followUp := by
    rw [← hearClaim_holding hconf hctx]
  refine ⟨fun hlow hhigh hyield => ?_, fun hlow hhigh hyield => ?_, fun hnot => ?_⟩
  · have hheld : (s.recordClaim station key mask).holderHearsClaim bid hold key =
        (((s.recordClaim station key mask).markYield bid hold .atTokenEnd).removeFrame .talk).stopEntry
          bid.ticket .interrupt .cut := by
      simp only [holderHearsClaim, if_pos (And.intro hlow hhigh), hyield]
    obtain ⟨hfloor, hslot, hrenderer, hfind⟩ :=
      (s.recordClaim station key mask).heldStop_effect bid hold .atTokenEnd .cut
    rw [stopEntry_renderer] at hrenderer
    rw [ht, hheld]
    exact ⟨hfloor, hslot, by simpa [recordClaim, markYield] using hrenderer, hfind⟩
  · have hheld : (s.recordClaim station key mask).holderHearsClaim bid hold key =
        s.recordClaim station key mask := by
      rw [holderHearsClaim, if_pos ⟨hlow, hhigh⟩]
      split
      next h => exact absurd h hyield
      · rfl
      · rfl
    obtain ⟨hfloor, hrenderer, hline⟩ := followUp_of_busy (s := s.recordClaim station key mask)
      (by simp [floorFree, recordClaim, hctx])
    rw [ht, hheld, hfloor, hrenderer, hline]
    exact ⟨rfl, rfl, rfl⟩
  · have hheld : (s.recordClaim station key mask).holderHearsClaim bid hold key =
        (s.recordClaim station key mask).queueRenewal bid hold := if_neg (by omega)
    obtain ⟨hfloor, hrenderer, hslot⟩ := heldRenewal_effect (s := s.recordClaim station key mask)
      (bid := bid) (hold := hold) hctx hiso hactive
    rw [ht, hheld, hfloor]
    exact ⟨rfl, hrenderer, hslot⟩

/-- A conflicting TALK that is heard while HOLDING, as the step leaves it. -/
theorem talkWhileHolding {s : State} {station key length : Nat} {mask : BitVec 4} {bid : Bid}
    {hold : Hold} (hconf : conflicts s.settings.hearMask mask = true)
    (hctx : s.floor.ctx = .holding bid hold) (hiso : s.floor.isolated = false)
    (hactive : s.rest.part = .active) :
    let t := (s.hearTalk station key mask length).followUp
    (bid.key < key ∨ key = bid.key ∧ station < s.timebase.station → hold.yield ≠ .atOnce →
      t.floor.ctx = .holding bid { hold with yield := .atOnce } ∧
      t.line.talkSlot = Slot.empty ∧ t.renderer = s.renderer.faded s.level.dac ∧
      ∀ q, t.agenda.find bid.ticket = some q → ∀ was, s.agenda.find bid.ticket = some was →
        q.endRequest = was.endRequest.asked .interrupt) ∧
    (bid.key < key ∨ key = bid.key ∧ station < s.timebase.station → hold.yield = .atOnce →
      t.floor.ctx = s.floor.ctx ∧ t.line.talkSlot = s.line.talkSlot ∧ t.renderer = s.renderer) ∧
    (¬ (bid.key < key ∨ key = bid.key ∧ station < s.timebase.station) →
      t.floor.ctx = s.floor.ctx ∧ t.renderer = s.renderer ∧
      t.line.talkSlot = (if hold.yield = .none then
          queuedTo s.line.talkSlot (decide (s.line.onLine = some .talk))
            (.talk bid.key s.settings.hearMask
              (max 1 (bid.length - (s.timebase.ms - hold.start) / 100)))
        else s.line.talkSlot)) := by
  intro t
  have ht : t = ((s.recordHolder station key mask length).holderHearsTalk bid hold station
      key).followUp := by
    rw [← hearTalk_holding hconf hctx]
  have hbeaten (h : bid.key < key ∨ key = bid.key ∧ station < s.timebase.station) : beats key station
      bid.key (s.recordHolder station key mask length).timebase.station = true := beats_iff.mpr h
  refine ⟨fun hbeats hyield => ?_, fun hbeats hyield => ?_, fun hnot => ?_⟩
  · have hheld : (s.recordHolder station key mask length).holderHearsTalk bid hold station key =
        (s.recordHolder station key mask length).yieldAtOnce bid hold := by
      rw [holderHearsTalk, if_pos (hbeaten hbeats)]
      split
      · rfl
      · rfl
      next h => exact absurd h hyield
    obtain ⟨hfloor, hslot, hrenderer, hfind⟩ :=
      (s.recordHolder station key mask length).heldStop_effect bid hold .atOnce .fade
    have hfade : (((s.recordHolder station key mask length).markYield bid hold .atOnce).removeFrame
        .talk |>.stopEntry bid.ticket .interrupt .fade).renderer = s.renderer.faded s.level.dac := by
      simp [stopEntry, fadePlay_renderer, recordHolder, markYield]
    rw [ht, hheld, yieldAtOnce]
    exact ⟨hfloor, hslot, hrenderer.trans hfade, hfind⟩
  · have hheld : (s.recordHolder station key mask length).holderHearsTalk bid hold station key =
        s.recordHolder station key mask length := by
      rw [holderHearsTalk, if_pos (hbeaten hbeats), hyield]
    obtain ⟨hfloor, hrenderer, hline⟩ := followUp_of_busy (s := s.recordHolder station key mask length)
      (by simp [floorFree, recordHolder, hctx])
    rw [ht, hheld, hfloor, hrenderer, hline]
    exact ⟨rfl, rfl, rfl⟩
  · have hheld : (s.recordHolder station key mask length).holderHearsTalk bid hold station key =
        (s.recordHolder station key mask length).queueRenewal bid hold :=
      if_neg (mt beats_iff.mp hnot)
    obtain ⟨hfloor, hrenderer, hslot⟩ := heldRenewal_effect (s := s.recordHolder station key mask length)
      (bid := bid) (hold := hold) hctx hiso hactive
    rw [ht, hheld, hfloor]
    exact ⟨rfl, hrenderer, hslot⟩

theorem claimHeard_freeFloor (s : State) (station key : Nat) (mask : BitVec 4) :
    (s.goodFrame.hearClaim station key mask).followUp.freeFloorAfter s := by
  by_cases hconf : conflicts s.goodFrame.settings.hearMask mask = true
  · by_cases hfree : s.floorFree = true
    · rw [hearClaim_viewed hconf (.inl ((lineGood_floorFree _).trans hfree))]
      exact freeFloorAfter_viewChanged (by simp [recordClaim]) (by simp [recordClaim])
        (by simp [recordClaim, goodFrame_isolated]) (by simp [recordClaim])
    · exact freeFloorAfter_of_busy (by simpa using hfree)
  · rw [hearClaim, if_neg hconf]
    exact s.forgotten_effect station

theorem talkHeard_freeFloor (s : State) (station key : Nat) (mask : BitVec 4) (length : Nat) :
    (s.goodFrame.hearTalk station key mask length).followUp.freeFloorAfter s := by
  by_cases hconf : conflicts s.goodFrame.settings.hearMask mask = true
  · by_cases hfree : s.floorFree = true
    · rw [hearTalk_viewed hconf (.inl ((lineGood_floorFree _).trans hfree))]
      exact freeFloorAfter_viewChanged (by simp [recordHolder]) (by simp [recordHolder])
        (by simp [recordHolder, goodFrame_isolated]) (by simp [recordHolder])
    · exact freeFloorAfter_of_busy (by simpa using hfree)
  · rw [hearTalk, if_neg hconf]
    exact s.forgotten_effect station

/-- A conflicting CLAIM heard with a bid, as the step leaves it (04 R75, R78). -/
theorem claimWhileBidding {s : State} {station key : Nat} {mask : BitVec 4}
    (hconf : conflicts s.settings.hearMask mask = true) (hiso : s.floor.isolated = false) :
    let t := (s.hearClaim station key mask).followUp
    (∀ bid, s.floor.ctx = .pending bid ∨ s.floor.ctx = .announcing bid →
      bid.key < key ∨ key = bid.key ∧ station < s.timebase.station →
      t.floor.ctx = .deferring 0 ∧ t.line.talkSlot = Slot.empty ∧
      ∀ q ∈ t.agenda.entries, q.state ≠ .bidding) ∧
    (∀ bid, s.floor.ctx = .announcing bid →
      ¬ (bid.key < key ∨ key = bid.key ∧ station < s.timebase.station) →
      t.floor.ctx = .announcing bid ∧ t.line.talkSlot = s.line.talkSlot) ∧
    ∀ bid window, s.floor.ctx = .claiming bid window → t.floor.ctx = .claiming bid window := by
  intro t
  refine ⟨fun bid hctx hbeats => ?_, fun bid hctx hbeats => ?_, fun bid window hctx => ?_⟩
  · have ht : t = (((s.recordClaim station key mask).removeFrame .talk).deferBid).followUp := by
      rw [← hearClaim_beaten hconf hctx hbeats]
    rw [ht]
    exact deferredBid_effect hiso
  · obtain ⟨hfloor, -, hline⟩ := followUp_of_busy (s := s.recordClaim station key mask)
      (by simp [floorFree, recordClaim, hctx])
    have ht : t = (s.recordClaim station key mask).followUp := by
      rw [← hearClaim_unbeaten hconf hctx hbeats]
    rw [ht, hfloor, hline]
    exact ⟨hctx, rfl⟩
  · obtain ⟨hfloor, -, -⟩ := followUp_of_busy (s := s.recordClaim station key mask)
      (by simp [floorFree, recordClaim, hctx])
    have ht : t = (s.recordClaim station key mask).followUp := by
      rw [← hearClaim_claiming hconf hctx]
    rw [ht, hfloor]
    exact hctx

/-- A conflicting TALK heard with a bid, as the step leaves it (04 R75, R78). -/
theorem talkWhileBidding {s : State} {station key length : Nat} {mask : BitVec 4}
    (hconf : conflicts s.settings.hearMask mask = true) (hiso : s.floor.isolated = false) :
    let t := (s.hearTalk station key mask length).followUp
    (∀ bid, s.floor.ctx = .pending bid ∨ s.floor.ctx = .announcing bid →
      t.floor.ctx = .deferring 0 ∧ t.line.talkSlot = Slot.empty ∧
      ∀ q ∈ t.agenda.entries, q.state ≠ .bidding) ∧
    ∀ bid window, s.floor.ctx = .claiming bid window → t.floor.ctx = .claiming bid window := by
  intro t
  refine ⟨fun bid hctx => ?_, fun bid window hctx => ?_⟩
  · have ht : t = (((s.recordHolder station key mask length).removeFrame .talk).deferBid).followUp := by
      rw [← hearTalk_bid hconf hctx]
    rw [ht]
    exact deferredBid_effect hiso
  · obtain ⟨hfloor, -, -⟩ := followUp_of_busy (s := s.recordHolder station key mask length)
      (by simp [floorFree, recordHolder, hctx])
    have ht : t = (s.recordHolder station key mask length).followUp := by
      rw [← hearTalk_claiming hconf hctx]
    rw [ht, hfloor]
    exact hctx

theorem viewChanged_quietAge (s : State) : s.viewChanged.floor.quietAge = s.floor.quietAge := by
  unfold viewChanged
  (repeat' split) <;> simp [setCtx]

theorem holderHearsTalk_quietAge (s : State) (bid : Bid) (hold : Hold) (station key : Nat) :
    (s.holderHearsTalk bid hold station key).floor.quietAge = s.floor.quietAge := by
  unfold holderHearsTalk yieldAtOnce
  (repeat' split) <;> simp [markYield]

/-- The quiet age is 0 once a conflicting TALK is heard (02 R38). -/
theorem hearTalk_quietAge {s : State} {station key length : Nat} {mask : BitVec 4}
    (hconf : conflicts s.settings.hearMask mask = true) :
    (s.hearTalk station key mask length).floor.quietAge = 0 := by
  rw [hearTalk, if_pos hconf]
  cases s.floor.ctx <;> simp [viewChanged_quietAge, holderHearsTalk_quietAge, recordHolder]

end State

/-- Settles O14: DONE, CLAIM and TALK, each by the floor context that it meets. -/
theorem floorFramesHeardAreRecorded : Obligations.FloorFramesHeardAreRecorded := by
  refine ⟨fun s station hclock hhunt hstation hstrap hother => ?_,
    fun s station key mask hclock hhunt hstation hstrap hother hkey => ?_,
    fun s station key length mask hclock hhunt hstation hstrap hother hkey hpos hlength => ?_⟩
  · obtain ⟨hiso, hreceiver, hids, hchanged⟩ := s.floorFrame_effect
      { station := station, frame := .done } (by simp [State.handOn])
    refine ⟨_, State.exec_frameReceived_foreign hclock hhunt hstation hstrap hother
      (takeFrame_done station hstation), ?_, ?_, hiso, hreceiver, hids, s.forgotten_effect station,
      hchanged⟩
    · simp [State.handOn, State.hearDone_lists, dropRival]
    · simp [State.handOn, State.hearDone_lists, dropRival]
  · have hheard : s.goodFrame.handOn { station := station, frame := .claim key mask } =
        s.goodFrame.hearClaim station key mask := rfl
    have hcommon := s.floorFrame_effect { station := station, frame := .claim key mask }
      (by simp [State.handOn])
    have hexec := State.exec_frameReceived_foreign hclock hhunt hstation hstrap hother
      (takeFrame_claim station key mask hstation hkey)
    rw [hheard] at hcommon hexec
    obtain ⟨hiso, hreceiver, hids, hchanged⟩ := hcommon
    have hgood := s.goodFrame_isolated
    obtain ⟨htimebase, hsettings, hagenda, hclaims, hholders, -, -, hrenderer, -, hrest, -, honLine,
      hslot⟩ := s.goodFrame_keeps
    obtain ⟨hlist, hdropped⟩ := s.goodFrame.hearClaim_lists station key mask
    rw [hsettings, hclaims] at hlist
    rw [hholders] at hdropped
    refine ⟨_, hexec, by simpa [dropRival] using hdropped, hiso, hreceiver, hids,
      s.claimHeard_freeFloor station key mask, hchanged, fun hmask => ?_, fun hmask => ?_⟩
    · have hconf : conflicts s.settings.hearMask mask = true := State.conflicts_iff.mpr hmask
      have hput : (s.goodFrame.hearClaim station key mask).followUp.floor.claims =
          putRival ⟨station, key, mask, 50 * s.settings.window + 50⟩ s.floor.claims := by
        simpa using hlist.trans (if_pos hconf)
      obtain ⟨hbeaten, hunbeaten, hclaiming⟩ := State.claimWhileBidding (s := s.goodFrame)
        (station := station) (key := key) (by rwa [hsettings]) hgood
      rw [htimebase] at hbeaten hunbeaten
      rw [hslot] at hunbeaten
      refine ⟨hput ▸ mem_putRival_self _ _, fun r hr => hput ▸ mem_putRival_iff (by exact hr) _,
        fun bid hctx hbeats => ?_, fun bid hctx hbeats => ?_, fun bid window hctx => ?_,
        fun bid hold hctx hactive => ?_⟩
      · exact hbeaten bid (hctx.imp (State.goodFrame_ctx_of · (by simp))
          (State.goodFrame_ctx_of · (by simp))) hbeats
      · exact hunbeaten bid (State.goodFrame_ctx_of hctx (by simp)) hbeats
      · exact hclaiming bid window (State.goodFrame_ctx_of hctx (by simp))
      · have hheld := State.goodFrame_ctx_of hctx (by simp)
        have heffect := State.claimWhileHolding (s := s.goodFrame) (station := station) (key := key)
          (mask := mask) (by rwa [hsettings]) hheld hgood (by rwa [hrest])
        rw [hheld, hrenderer, hagenda, hslot, honLine, htimebase, hsettings] at heffect
        rw [hctx]
        exact heffect
    · have hconf : ¬ conflicts s.settings.hearMask mask = true := by simpa [conflicts] using hmask
      simpa [dropRival] using hlist.trans (if_neg hconf)
  · have hheard : s.goodFrame.handOn { station := station, frame := .talk key mask length } =
        s.goodFrame.hearTalk station key mask length := rfl
    have hcommon := s.floorFrame_effect { station := station, frame := .talk key mask length }
      (by simp [State.handOn])
    have hexec := State.exec_frameReceived_foreign hclock hhunt hstation hstrap hother
      (takeFrame_talk station key length mask hstation hkey hpos hlength)
    rw [hheard] at hcommon hexec
    obtain ⟨hiso, hreceiver, hids, hchanged⟩ := hcommon
    have hgood := s.goodFrame_isolated
    obtain ⟨htimebase, hsettings, hagenda, hclaims, hholders, -, -, hrenderer, hlevel, hrest, -, honLine,
      hslot⟩ := s.goodFrame_keeps
    obtain ⟨hdropped, hlist⟩ := s.goodFrame.hearTalk_lists station key mask length
    rw [hsettings, hholders] at hlist
    rw [hclaims] at hdropped
    refine ⟨_, hexec, by simpa [dropRival] using hdropped, hiso,
      hreceiver, hids, s.talkHeard_freeFloor station key mask length, hchanged, fun hmask => ?_,
      fun hmask => ?_⟩
    · have hconf : conflicts s.settings.hearMask mask = true := State.conflicts_iff.mpr hmask
      have hput : (s.goodFrame.hearTalk station key mask length).followUp.floor.holders =
          putRival ⟨station, key, mask, 100 * length + 2000⟩ s.floor.holders := by
        simpa using hlist.trans (if_pos hconf)
      obtain ⟨hbidding, hclaiming⟩ := State.talkWhileBidding (s := s.goodFrame) (station := station)
        (key := key) (length := length) (mask := mask) (by rwa [hsettings]) hgood
      refine ⟨(State.followUp_quietAge _).trans (State.hearTalk_quietAge (by rwa [hsettings])),
        hput ▸ mem_putRival_self _ _, fun r hr => hput ▸ mem_putRival_iff (by exact hr) _,
        fun bid hctx => ?_, fun bid window hctx => ?_, fun bid hold hctx hactive => ?_⟩
      · exact hbidding bid (hctx.imp (State.goodFrame_ctx_of · (by simp))
          (State.goodFrame_ctx_of · (by simp)))
      · exact hclaiming bid window (State.goodFrame_ctx_of hctx (by simp))
      · have hheld := State.goodFrame_ctx_of hctx (by simp)
        have heffect := State.talkWhileHolding (s := s.goodFrame) (station := station) (key := key)
          (length := length) (mask := mask) (by rwa [hsettings]) hheld hgood (by rwa [hrest])
        rw [hheld, hrenderer, hagenda, hslot, honLine, htimebase, hsettings, hlevel] at heffect
        rw [hctx]
        exact heffect
    · have hconf : ¬ conflicts s.settings.hearMask mask = true := by simpa [conflicts] using hmask
      simpa [dropRival] using hlist.trans (if_neg hconf)

end Sys2Proof.Machine

/-! ## SETTLE_COMPLETE and the play estimate (04 R74, 06 R122, R123; O21) -/

namespace Sys2Proof.Machine

/-! ### The record reads of an estimate (06 R123) -/

/-- The record of a phrase is read: the phrase is below the count, and its record does not reach past the flash. -/
def Directory.hasRecord (d : Directory) (language n : Nat) : Bool :=
  decide (n < (d.slot language).phrases ∧ (d.slot language).table + 5 * n + 5 ≤ d.size)

/-- The samples that a phrase counts in an estimate: those of its record, if it is present. -/
def Directory.samples (d : Directory) (store : List Host.Cell) (language n : Nat) : Nat :=
  if d.hasRecord language n = true then
    (spanOf d (readBytes store ((d.slot language).table + 5 * n) 5)).elim 0 (·.count)
  else 0

/-- A lookup makes one read, or none for a phrase without a record. -/
theorem fetchPhrase_eq {σ α : Type} (d : Directory) (language n : Nat) (note : σ)
    (next : Option Span → Fetch σ α) : fetchPhrase d language n note next =
      if d.hasRecord language n = true then
        .read note ((d.slot language).table + 5 * n) 5 fun data => next (spanOf d data)
      else next none := by
  simp only [fetchPhrase]
  by_cases h : (d.slot language).phrases ≤ n ∨ d.size < (d.slot language).table + 5 * n + 5
  · rw [if_pos h, if_neg]
    simp only [Directory.hasRecord, decide_eq_true_eq]
    omega
  · rw [if_neg h, if_pos]
    simp only [Directory.hasRecord, decide_eq_true_eq]
    omega

section
variable (d : Directory) (store : List Host.Cell) (language : Nat)

/-- The counts that are collected. -/
theorem fetchCounts_run (ns : List Nat) : ∀ counts : List (Nat × Nat),
    (fetchCounts d language ns counts).run store =
      counts ++ ns.map fun n => (n, d.samples store language n) := by
  induction ns with
  | nil => simp [fetchCounts, Fetch.run]
  | cons n ns ih =>
    intro counts
    rw [fetchCounts, fetchPhrase_eq]
    by_cases h : d.hasRecord language n = true
    · simp [if_pos h, Fetch.run, ih, Directory.samples]
    · simp [if_neg h, ih, Directory.samples]

/-- The reads that are made. -/
theorem fetchCounts_requests (ns : List Nat) : ∀ counts : List (Nat × Nat),
    (fetchCounts d language ns counts).requests store =
      (ns.filter (d.hasRecord language)).map fun n => ((d.slot language).table + 5 * n, 5) := by
  induction ns with
  | nil => intro counts; rfl
  | cons n ns ih =>
    intro counts
    rw [fetchCounts, fetchPhrase_eq]
    by_cases h : d.hasRecord language n = true
    · simp [Fetch.requests, ih, h]
    · simp [ih, h]

/-- A phrase among those collected counts its samples. -/
theorem countOf_samples {ns : List Nat} {n : Nat} (h : n ∈ ns) :
    countOf (ns.map fun n => (n, d.samples store language n)) n = d.samples store language n := by
  induction ns with
  | nil => simp at h
  | cons m ns ih =>
    by_cases hm : m = n
    · simp [countOf, hm]
    · have hrest := ih ((List.mem_cons.mp h).resolve_left (Ne.symm hm))
      simpa [countOf, hm] using hrest

end

/-- The samples of a record, checked (06 R110). -/
theorem spanOf_count (d : Directory) (data : List Byte) : (spanOf d data).elim 0 (·.count) =
    if 1 ≤ numberOf ((data.drop 3).take 2) ∧ numberOf ((data.drop 3).take 2) ≤ 32000 ∧
      numberOf (data.take 3) + numberOf ((data.drop 3).take 2) ≤ d.size then
        numberOf ((data.drop 3).take 2) else 0 := by
  simp only [spanOf]
  generalize numberOf ((data.drop 3).take 2) = count
  generalize numberOf (data.take 3) = start
  by_cases h : count = 0 ∨ 32000 < count ∨ d.size < start + count
  · rw [if_pos h, if_neg (by omega)]
    rfl
  · rw [if_neg h, if_pos (by omega)]
    rfl

theorem Directory.samples_eq (d : Directory) (store : List Host.Cell) (language n : Nat) :
    d.samples store language n =
      (let slot := d.slot language
       let data := readBytes store (slot.table + 5 * n) 5
       let start := numberOf (data.take 3)
       let samples := numberOf ((data.drop 3).take 2)
       if n < slot.phrases ∧ slot.table + 5 * n + 5 ≤ d.size ∧ 1 ≤ samples ∧ samples ≤ 32000 ∧
         start + samples ≤ d.size then samples else 0) := by
  simp only [Directory.samples, spanOf_count, Directory.hasRecord, decide_eq_true_eq, ← ite_and,
    and_assoc]

/-! ### The phrases that an estimate needs -/

theorem mem_distinct {n : Nat} {ns : List Nat} : ∀ {seen : List Nat},
    n ∈ distinct seen ns ↔ n ∈ ns ∧ n ∉ seen := by
  induction ns with
  | nil => simp [distinct]
  | cons m ns ih =>
    intro seen
    unfold distinct
    by_cases h : seen.contains m = true
    · rw [if_pos h, ih]
      have hm : m ∈ seen := by simpa using h
      constructor
      · rintro ⟨hn, hseen⟩
        exact ⟨List.mem_cons_of_mem _ hn, hseen⟩
      · rintro ⟨hn, hseen⟩
        exact ⟨(List.mem_cons.mp hn).resolve_left fun e => hseen (e ▸ hm), hseen⟩
    · rw [if_neg h, List.mem_cons, ih, List.mem_cons, List.mem_cons]
      have hm : m ∉ seen := by simpa using h
      by_cases hn : n = m
      · simp [hn, hm]
      · simp [hn]

theorem firstRefer_isSome {kind : ReferKind} {tokens : List Token} (h : Token.refer kind ∈ tokens) :
    (firstRefer tokens).isSome = true := by
  induction tokens with
  | nil => simp at h
  | cons t ts ih =>
    cases t with
    | refer k => rfl
    | _ => exact ih (by simpa using h)

/-- An item other than the opening tone is one of the tokens. -/
theorem Post.token_of_item {p : Post} {item : Item} (h : item ∈ p.items) :
    item = .tone p.tone ∨ ∃ t ∈ p.tokens, t.item = item := by
  rw [Post.items, List.mem_append] at h
  obtain h | h := h
  · split at h
    · simp at h
    · exact .inl (by simpa using h)
  · exact .inr (List.mem_map.mp h)

/-- A PHRASE item of a play is one that its estimate needs. -/
theorem Post.phrase_mem_estimate {p : Post} {n : Nat} (h : Item.phrase n ∈ p.items) :
    n ∈ p.estimatePhrases := by
  obtain h | ⟨t, ht, hitem⟩ := Post.token_of_item h
  · simp at h
  · refine List.mem_append_left _ (mem_distinct.mpr ⟨List.mem_filterMap.mpr ⟨t, ht, ?_⟩, by simp⟩)
    cases t with
    | phrase m => simpa [Token.item, Token.phraseNumber] using hitem
    | _ => simp [Token.item] at hitem

theorem Post.refer_mem_estimate {p : Post} {kind : ReferKind} (h : Item.refer kind ∈ p.items) :
    1002 ∈ p.estimatePhrases ∧ 1003 ∈ p.estimatePhrases ∧ 1004 ∈ p.estimatePhrases := by
  obtain h | ⟨t, ht, hitem⟩ := Post.token_of_item h
  · simp at h
  · obtain rfl : t = .refer kind := by
      cases t with
      | refer k => simpa [Token.item] using hitem
      | _ => simp [Token.item] at hitem
    simp [Post.estimatePhrases, firstRefer_isSome ht]

/-! ### The samples of an estimate (06 R122) -/

theorem numberPhrases_length (unitsFirst : Bool) (v : Nat) :
    (numberPhrases unitsFirst v).length = if v ≤ 19 ∨ v % 10 = 0 then 1 else 2 := by
  unfold numberPhrases
  by_cases hteen : v < 20
  · rw [if_pos hteen, if_pos (by omega)]
    rfl
  · by_cases hten : v % 10 = 0
    · rw [if_neg hteen, if_pos hten, if_pos (.inr hten)]
      rfl
    · rw [if_neg hteen, if_neg hten, if_neg (c := v ≤ 19 ∨ v % 10 = 0) (by omega)]
      cases unitsFirst <;> rfl

/-- A gap stands after every item but the last, and but for a PAUSE. -/
theorem estimateGaps_eq (items : List Item) : estimateGaps items =
    640 * (items.dropLast.filter fun item => item.kind != .pause).length := by
  induction items with
  | nil => rfl
  | cons item items ih =>
    cases items with
    | nil => rfl
    | cons next rest =>
      rw [estimateGaps, ih, List.dropLast_cons_cons, List.filter_cons]
      by_cases h : item.kind = .pause
      · simp [h]
      · simp [h, Config.gapSamples]
        omega

namespace State

/-- The estimate, item by item (06 R122). -/
theorem estimate_eq {s : State} {p : Post} {f : Item → Nat} {d : Directory}
    (hstore : s.flash.store = .usable d)
    (hphrase : ∀ n, f (.phrase n) = d.samples s.phraseStore s.panel.language n)
    (hnumber : ∀ v, f (.number v) = 800 * (if v ≤ 19 ∨ v % 10 = 0 then 1 else 2))
    (hminutes : f .minutes = if s.machine.minutes = 255 then 0
      else 800 * (if min s.machine.minutes 99 ≤ 19 ∨ min s.machine.minutes 99 % 10 = 0 then 1 else 2))
    (hrefer : ∀ kind, f (.refer kind) = d.samples s.phraseStore s.panel.language 1002 +
      d.samples s.phraseStore s.panel.language 1003 + d.samples s.phraseStore s.panel.language 1004)
    (hpause : ∀ n, f (.pause n) = 800 * n) (htone : ∀ n, f (.tone n) = patternLength n) :
    s.estimate p = max 1 (min 255 (((p.items.map f).sum +
      640 * (p.items.dropLast.filter fun item => item.kind != .pause).length + 160 + 799) / 800)) := by
  have hdirectory : s.flash.store.directory = d := by rw [hstore]; rfl
  have hcount {n : Nat} (hn : n ∈ p.estimatePhrases) :
      countOf ((s.estimateProgram p).run s.phraseStore) n =
        d.samples s.phraseStore s.panel.language n := by
    rw [estimateProgram, hdirectory, fetchCounts_run, List.nil_append, countOf_samples _ _ _ hn]
  have hitems : p.items.map (estimateItem ((s.estimateProgram p).run s.phraseStore)
      (d.slot s.panel.language).unitsFirst s.machine.minutes) = p.items.map f := by
    refine List.map_congr_left fun item hitem => ?_
    cases item with
    | tone n => rw [htone, estimateItem]
    | phrase n => rw [hphrase, estimateItem, hcount (Post.phrase_mem_estimate hitem)]
    | number v => rw [hnumber, estimateItem, numberPhrases_length]
    | minutes =>
      rw [hminutes, estimateItem, minutesPhrases]
      split
      · rfl
      · rw [numberPhrases_length]
    | refer kind =>
      obtain ⟨hsoon, hin, hminute⟩ := Post.refer_mem_estimate hitem
      rw [hrefer, estimateItem, hcount hsoon, hcount hin, hcount hminute]
    | pause n => rw [hpause, estimateItem]
  rw [estimate, hdirectory, estimateSamples, hitems, estimateGaps_eq, announcedLength, clamp, min_comm]
  rfl

theorem estimate_bounds (s : State) (p : Post) : 1 ≤ s.estimate p ∧ s.estimate p ≤ 255 := by
  rw [estimate, announcedLength, clamp]
  omega

/-! ### The claim (04 R74) -/

theorem claimCandidate_eq {s : State} {settle : Nat} {e : Entry} (hctx : s.floor.ctx = .deferring settle)
    (hiso : s.floor.isolated = false) (he : s.agenda.answer s.flash.store = .candidate e)
    (hclear : s.viewClear e.key = true) (hcount : 255 ≤ settle + e.key) :
    s.claimCandidate = some e := by
  have hmay : s.floor.isolated = false ∧ s.viewClear e.key = true ∧ 255 - e.key ≤ settle :=
    ⟨hiso, hclear, by omega⟩
  simp only [claimCandidate, hctx, he, if_pos hmay]

/-- A frame that is queued to an empty TALK/CLAIM slot (03 R52). -/
theorem queueFrame_talk_empty {s : State} (h : s.line.talkSlot.frame = none)
    (hpart : s.rest.part ≠ .settling) (f : LineFrame) : s.queueFrame .talk f =
      s.setLine { s.line with talkSlot := { frame := some f, next := none, failures := 0 } } := by
  rw [queueFrame, if_neg (by simp [hpart]), slotQueued_eq, queuedTo, if_pos (by exact h)]
  rfl

/-- A claim: the bid with its estimate, the CLAIM queued, and the entry BIDDING. -/
theorem claimFor_effect {s : State} (e : Entry) (hslot : s.line.talkSlot.frame = none)
    (hpart : s.rest.part ≠ .settling) :
    (s.claimFor e).floor = { s.floor with ctx := .pending (s.bidFor e) } ∧
      (s.claimFor e).line = { s.line with talkSlot :=
        { frame := some (.claim e.key s.settings.hearMask), next := none, failures := 0 } } ∧
      (s.claimFor e).flash.estimate = (s.estimateProgram e.post).requests s.phraseStore ∧
      (s.claimFor e).changedIn s [.floor, .line, .agenda, .display, .flash, .events] := by
  have hqueue := queueFrame_talk_empty (s := (s.requestEstimate e.post).setAgenda
    ((s.requestEstimate e.post).agenda.modify e.ticket Entry.asBidder)) hslot hpart
    (.claim e.key s.settings.hearMask)
  have hclaim : s.claimFor e = ((((s.requestEstimate e.post).setAgenda
      ((s.requestEstimate e.post).agenda.modify e.ticket Entry.asBidder)).queueFrame .talk
        (.claim e.key s.settings.hearMask)).setCtx (.pending (s.bidFor e))).selectOwner := rfl
  rw [hclaim, hqueue]
  exact ⟨by simp [setCtx, requestEstimate], by simp [requestEstimate], by simp [requestEstimate],
    by simp [changedIn_iff, requestEstimate]⟩

end State

/-- Settles O21: the claim with its frozen key, the reads it asks for, and the estimate item by item. -/
theorem settleCompleteClaims : Obligations.SettleCompleteClaims := by
  refine ⟨fun s settle e hctx hactive hiso hholders he hclaims hcount hslot => ?_, fun s d p hstore => ?_⟩
  · have hcandidate := State.claimCandidate_eq hctx hiso he (State.viewClear_iff.mpr ⟨hholders, hclaims⟩)
      hcount
    have hcompleted : s.settleCompleted = s.claimFor e := by
      simp only [State.settleCompleted, hcandidate]
    obtain ⟨hlow, hhigh⟩ := s.estimate_bounds e.post
    obtain ⟨hfloor, hline, hreads, hchanged⟩ := State.claimFor_effect e hslot (by simp [hactive])
    refine ⟨_, (exec_settleComplete s).trans (congrArg _ hcompleted), hlow, hhigh, hfloor, hline, by simp,
      fun q hq hticket => ?_, fun d hstore => ?_, hchanged⟩
    · have hbare : q.bare ∈ (s.claimFor e).agenda.bare := List.mem_map_of_mem hq
      rw [State.claimFor_bare] at hbare
      obtain ⟨r, -, hr⟩ := List.mem_map.mp hbare
      have hrticket : r.ticket = e.ticket := by
        rw [← hticket]
        have h := congrArg Entry.ticket hr
        rw [apply_ite Entry.ticket] at h
        exact (ite_id _).symm.trans h
      rw [if_pos hrticket] at hr
      exact congrArg Entry.state hr.symm
    · have hdirectory : s.flash.store.directory = d := by rw [hstore]; rfl
      rw [hreads, State.estimateProgram, hdirectory, fetchCounts_requests]
      rfl
  · intro slot count words samples gaps
    have hsamples (n : Nat) : count n = d.samples s.phraseStore s.panel.language n :=
      (d.samples_eq s.phraseStore s.panel.language n).symm
    refine State.estimate_eq (f := samples) hstore hsamples (fun v => rfl) rfl (fun kind => ?_)
      (fun n => rfl) fun n => rfl
    rw [← hsamples, ← hsamples, ← hsamples]

end Sys2Proof.Machine

/-! ## The end of a play (01 R10, R15, 02 R40 to R43, 04 R84, 06 R118 to R120; O44) -/

namespace Sys2Proof.Machine

/-! ### The tests that start nothing -/

/-- A silent entry plays on no route (01 R4). -/
theorem Entry.silent_byNone {e : Entry} (h : e.post.isSilent = true) (store : Store) :
    e.byFloor store = false ∧ e.byLocal store = false := by
  have htokens : e.post.tokens = [] := by
    simp only [Post.isSilent, Bool.and_eq_true, List.isEmpty_iff] at h
    exact h.1
  have hspeech : e.post.isSpeech = false := by simp [Post.isSpeech, htokens]
  refine ⟨by simp [Entry.byFloor, hspeech], ?_⟩
  cases store <;> simp [Entry.byLocal, h]

namespace State

/-- The floor unit's test starts the candidate's play, or begins to wait, or does nothing (04 R72, R88). -/
theorem floorTest_cases (s : State) : s.floorTest = s ∨ s.floorTest = s.setCtx (.deferring 0) ∨
    ∃ e ∈ s.agenda.entries, e.byFloor s.flash.store = true ∧ s.floorTest = s.isolatedStart e := by
  unfold floorTest
  split
  · split
    next e he =>
      obtain ⟨hmem, -, hfloor, -⟩ := Agenda.answer_candidate he
      split
      · exact .inr (.inr ⟨e, hmem, hfloor, rfl⟩)
      · split
        exacts [.inr (.inl rfl), .inl rfl]
    · exact .inl rfl
    · exact .inl rfl
  · exact .inl rfl

theorem isolatedStart_isPlaying {s : State} {e : Entry} (he : e ∈ s.agenda.entries) :
    (s.isolatedStart e).agenda.isPlaying = true :=
  startPlay_isPlaying (s := (s.requestEstimate e.post).setCtx (.holding (s.bidFor e) (s.newHold false)))
    .floor he

/-- No play has started, so the renderer is as it was. -/
theorem followUp_renderer_of_not_playing {s : State} (h : s.followUp.agenda.isPlaying = false) :
    s.followUp.renderer = s.renderer := by
  have hidle : s.followUp.agenda = s.selectOwner.localStart.floorTest.agenda ∧
      s.followUp.renderer = s.selectOwner.localStart.floorTest.renderer := by simp [followUp]
  rw [hidle.1] at h
  rw [hidle.2]
  obtain hlocal | ⟨e, route, hmem, -, -, -, -, -, hlocal⟩ := s.selectOwner.localStart_cases
  · rw [hlocal] at h ⊢
    obtain hfloor | hfloor | ⟨e, hmem, -, hfloor⟩ := s.selectOwner.floorTest_cases
    · simp [hfloor]
    · simp [hfloor]
    · rw [hfloor, isolatedStart_isPlaying hmem] at h
      exact absurd h (by decide)
  · have hplaying := startPlay_isPlaying route hmem
    rw [hlocal, floorTest_of_isPlaying hplaying, hplaying] at h
    exact absurd h (by decide)

/-- Entries that are all silent start no play. -/
theorem followUp_renderer_of_silent {s : State} (h : ∀ i ∈ s.agenda.ids, i.2.1.isSilent = true) :
    s.followUp.renderer = s.renderer := by
  have hsilent {u : State} (hids : u.agenda.ids = s.agenda.ids) {e : Entry} (he : e ∈ u.agenda.entries) :
      e.post.isSilent = true := h e.id (hids ▸ List.mem_map_of_mem he)
  have hlocal : s.selectOwner.localStart = s.selectOwner := by
    obtain h | ⟨e, route, hmem, -, -, -, he, -, -⟩ := s.selectOwner.localStart_cases
    · exact h
    · obtain ⟨-, -, hroute⟩ := Agenda.localCandidate_mem he
      rw [(Entry.silent_byNone (hsilent (by simp) hmem) _).2] at hroute
      exact absurd hroute (by decide)
  have hfloor : s.selectOwner.floorTest.renderer = s.renderer := by
    obtain hfloor | hfloor | ⟨e, hmem, hroute, -⟩ := s.selectOwner.floorTest_cases
    · simp [hfloor]
    · simp [hfloor]
    · rw [(Entry.silent_byNone (hsilent (by simp) hmem) _).1] at hroute
      exact absurd hroute (by decide)
  rw [followUp, hlocal]
  simpa using hfloor

/-! ### The floor unit's part (04 R84) -/

/-- The line as HOLDING is left: a renewal removed, and a DONE queued unless no peer knows of the hold. -/
def heldReleased (s : State) : State :=
  match s.floor.ctx with
  | .holding _ hold => s.releaseHold hold
  | _ => s

/-- HOLDING is left once the agenda has acted. -/
def holdLeft (s : State) : State := if s.floor.ctx.isHolding = true then s.leaveBid else s

theorem playEnded_eq (s : State) (report : EndReport) :
    s.playEnded report = (s.heldReleased.agendaPlayEnd report).holdLeft.followUp := by
  cases hctx : s.floor.ctx with
  | holding bid hold => simp [playEnded, heldReleased, holdLeft, hctx, FloorCtx.isHolding]
  | _ => simp [playEnded, heldReleased, holdLeft, hctx, FloorCtx.isHolding]

theorem heldReleased_of_not_holding {s : State} (h : s.floor.ctx.isHolding = false) :
    s.heldReleased = s := by
  unfold heldReleased
  split
  next hctx => simp [hctx, FloorCtx.isHolding] at h
  · rfl

@[simp] theorem heldReleased_keeps (s : State) :
    s.heldReleased.agenda = s.agenda ∧ s.heldReleased.floor = s.floor ∧
      s.heldReleased.events = s.events ∧ s.heldReleased.rest = s.rest ∧
      s.heldReleased.renderer = s.renderer := by
  unfold heldReleased
  split <;> simp

@[simp] theorem holdLeft_keeps (s : State) :
    s.holdLeft.agenda = s.agenda ∧ s.holdLeft.line = s.line ∧ s.holdLeft.events = s.events ∧
      s.holdLeft.rest = s.rest ∧ s.holdLeft.renderer = s.renderer ∧
      s.holdLeft.floor.isolated = s.floor.isolated := by
  unfold holdLeft
  split <;> simp

/-- The line after a hold has ended (04 R84). -/
theorem heldReleased_line {s : State} {bid : Bid} {hold : Hold} (hctx : s.floor.ctx = .holding bid hold) :
    s.heldReleased.line.talkSlot = Slot.empty ∧
      (s.floor.isolated = false ∨ hold.announced = true → s.heldReleased.line.doneSlot =
        queuedTo s.line.doneSlot (decide (s.line.onLine = some .done)) .done) ∧
      (s.floor.isolated = true → hold.announced = false →
        s.heldReleased.line.doneSlot = s.line.doneSlot) := by
  have hrelease : s.heldReleased = s.releaseHold hold := by simp only [heldReleased, hctx]
  have hremoved : (s.removeFrame .talk).line.talkSlot = Slot.empty ∧
      (s.removeFrame .talk).line.doneSlot = s.line.doneSlot := by simp
  rw [hrelease]
  refine ⟨?_, fun h => ?_, fun hiso hannounced => ?_⟩
  · simp only [releaseHold]
    split
    · exact hremoved.1
    · simp [queueFrame, setSlot]
  · have honLine : decide ((s.removeFrame .talk).line.onLine = some .done) =
        decide (s.line.onLine = some .done) := by
      unfold removeFrame
      split
      next htalk => simp [breakFrame, htalk]
      · simp
    have hqueue : s.releaseHold hold = (s.removeFrame .talk).queueFrame .done .done := by
      refine if_neg ?_
      rintro ⟨hon, hoff⟩
      obtain h | h := h
      · simp [hon] at h
      · simp [hoff] at h
    rw [hqueue, queueFrame, if_neg (by simp), honLine, slotQueued_eq]
    exact congrArg (queuedTo · _ _) hremoved.2
  · have hquiet : s.releaseHold hold = s.removeFrame .talk := if_pos ⟨hiso, hannounced⟩
    rw [hquiet, hremoved.2]

/-- The floor context after the play of a hold: IDLE or DEFERRING, unless ISOLATED lets another play start. -/
theorem holdLeft_followUp {s : State} (hhold : s.floor.ctx.isHolding = true)
    (h : s.floor.isolated = false ∨ s.rest.part ≠ .active) :
    s.holdLeft.followUp.floor.ctx.isHolding = false := by
  have hleft : s.holdLeft = s.leaveBid := if_pos hhold
  rw [hleft]
  obtain hiso | hpart := h
  · obtain hctx | hctx := s.leaveBid_ctx
    · obtain ⟨hfloor | hfloor, -⟩ := followUp_floor_of_idle (s := s.leaveBid) (by simpa using hiso) hctx
      · rw [hfloor, hctx]
        rfl
      · rw [hfloor]
        rfl
    · rw [followUp_floor_of_deferring (by simpa using hiso) hctx, hctx]
      rfl
  · obtain ⟨hfloor, -, -, -⟩ := followUp_inactive s.leaveBid (by simpa using hpart)
    rw [hfloor]
    obtain hctx | hctx := s.leaveBid_ctx <;> rw [hctx] <;> rfl

/-! ### The agenda's part (01 R10, R15, 02 R40, R41, R43) -/

/-- The entry of an ended play with its binding cleared, and the compose that this may cause (05 R101). -/
def bindingCleared (s : State) (e : Entry) : State :=
  let s1 := s.setAgenda (s.agenda.modify e.ticket Entry.unbound)
  if e.binding.isSome = true then s1.bindingCause e.ticket else s1

theorem agendaPlayEnd_eq {s : State} {report : EndReport} {e : Entry}
    (h : s.agenda.find report.ticket = some e) : s.agendaPlayEnd report =
      ((s.bindingCleared e).entryPlayed e.unbound).testEligible := by
  have hticket := Agenda.find_ticket h
  rw [← hticket] at h
  simp only [agendaPlayEnd, ← hticket, h]
  rfl

theorem agendaPlayEnd_of_none {s : State} {report : EndReport}
    (h : s.agenda.find report.ticket = none) : s.agendaPlayEnd report = s := by
  simp only [agendaPlayEnd, h]

theorem bindingCleared_ids (s : State) (e : Entry) :
    (s.bindingCleared e).agenda.ids = s.agenda.ids := by
  have hids : (s.agenda.modify e.ticket Entry.unbound).ids = s.agenda.ids := ids_modify _ _ _ fun _ => rfl
  unfold bindingCleared
  dsimp only
  split <;> simp [hids]

theorem bindingCleared_bare (s : State) (e : Entry) : (s.bindingCleared e).agenda.bare =
    s.agenda.bare.map fun q => if q.ticket = e.ticket then q.unbound else q := by
  rw [← s.modify_bare e.ticket (f := Entry.unbound) fun _ => rfl]
  unfold bindingCleared
  dsimp only
  split <;> simp

/-- Clearing a binding that is not shown makes no record (08 R140). -/
theorem bindingCleared_events {s : State} {e : Entry}
    (h : e.binding = none ∨ s.agenda.owner ≠ .entry e.ticket) :
    (s.bindingCleared e).events = s.events := by
  unfold bindingCleared
  dsimp only
  split
  next hbound =>
    obtain h | h := h
    · simp [h] at hbound
    · rw [bindingCause, if_neg (by exact h)]
      rfl
  · rfl

theorem bindingCleared_grew (s : State) (e : Entry) : (s.bindingCleared e).events.grewFrom s.events := by
  unfold bindingCleared
  dsimp only
  split
  · exact bindingCause_grew _ _ _ (EventQueue.grewFrom_refl _)
  · exact EventQueue.grewFrom_refl _

/-- The entry of a play leaves, and its staged successor takes its place at the end of the list (01 R15, R19). -/
theorem dropPlayed_effect (s : State) (e : Entry) (outcome : Retirement) :
    (s.dropPlayed e outcome).agenda.ids = s.agenda.ids.filter (·.1 != e.ticket) ++
        (e.successor.map fun q => (q.ticket, q.post, none)).toList ∧
      (s.dropPlayed e outcome).events.grewFrom
        (s.offer (.retired e.ticket e.post.topic outcome e.plays)).events := by
  have hleft : (s.leaveEntry e outcome).events =
      (s.offer (.retired e.ticket e.post.topic outcome e.plays)).events := offer_events_congr _ rfl
  unfold dropPlayed
  cases e.successor with
  | none =>
    refine ⟨by simp [dropEntry_ids], selectOwner_grew _ _ ?_⟩
    rw [hleft]
    exact EventQueue.grewFrom_refl _
  | some q =>
    refine ⟨by simp [admission_ids, leaveEntry_ids], ?_⟩
    have hgrew := EventQueue.grewFrom_refl (s.leaveEntry e outcome).events
    rw [← hleft]
    simp [hgrew]

/-- An entry is found where the entries were updated, one by one, under their tickets. -/
theorem find_of_bare_map {s t : State} {g : Entry → Entry} (hg : ∀ q, (g q).ticket = q.ticket)
    (h : t.agenda.bare = s.agenda.bare.map g) {ticket : Nat} {q : Entry}
    (hq : s.agenda.find ticket = some q) :
    ∃ q', t.agenda.find ticket = some q' ∧ q'.bare = g q.bare := by
  have hticket : ((fun r : Entry => r.ticket == ticket) ∘ g) = fun r => r.ticket == ticket := by
    funext r
    rw [Function.comp_apply, hg]
  have hfind : (t.agenda.find ticket).map Entry.bare = some (g q.bare) := by
    rw [Agenda.find_bare, h, List.find?_map, hticket, ← Agenda.find_bare, hq]
    rfl
  exact Option.map_eq_some_iff.mp hfind

end State

/-! ### The entry that stays (01 R10, 02 R40, R43) -/

/-- The accounting does not see the binding. -/
theorem Entry.account_unbound (e : Entry) : e.unbound.account.back = e.account.back := by
  rcases hkind : e.playKind with _ | (_ | _ | _)
  case some.pullIn => by_cases howed : e.owed = 0 <;> simp [account, unbound, hkind, howed, back]
  all_goals simp [account, unbound, hkind, back]

theorem Entry.account_replay (e : Entry) : e.account.replay = false := by
  rcases hkind : e.playKind with _ | (_ | _ | _)
  case some.pullIn => by_cases howed : e.owed = 0 <;> simp [account, hkind, howed]
  all_goals simp [account, hkind]

/-- An entry back from a play, and tested: its counts stand, and nothing of the play is left. -/
theorem Entry.back_fields {q kept : Entry} {w : State} (h : q.bare = kept.back.bare.tested w)
    (hreplay : kept.replay = false) :
    q.due = kept.due ∧ q.remaining = kept.remaining ∧ q.plays = kept.plays ∧ q.replay = false ∧
      q.wait = 0 ∧ q.state ≠ .bidding ∧ q.state ≠ .playing ∧ q.interrupted = kept.interrupted ∧
      q.playKind = none ∧ q.endRequest = .none ∧ q.binding = none := by
  have hfield {α : Type} (g : Entry → α) : g q.bare =
      if kept.back.bare.state = .waiting ∧ w.eligible kept.back.bare = true then
        g { kept.back.bare with state := .ready, wait := 0 } else g kept.back.bare := by
    rw [h, Entry.tested, apply_ite g]
  have hstate : q.state = .ready ∨ q.state = .waiting := by
    have hs := hfield Entry.state
    split at hs
    exacts [.inl hs, .inr hs]
  refine ⟨(hfield Entry.due).trans (ite_id _), (hfield Entry.remaining).trans (ite_id _),
    (hfield Entry.plays).trans (ite_id _), ((hfield Entry.replay).trans (ite_id _)).trans hreplay,
    (hfield Entry.wait).trans (ite_id _), ?_, ?_, (hfield Entry.interrupted).trans (ite_id _),
    (hfield Entry.playKind).trans (ite_id _), (hfield Entry.endRequest).trans (ite_id _),
    (hfield Entry.binding).trans (ite_id _)⟩
  · obtain h | h := hstate <;> simp [h]
  · obtain h | h := hstate <;> simp [h]

namespace State

/-- The entry of an ended play that stays in the agenda, as the tests after it leave it. -/
theorem keptEntry_find {s v : State} {e kept : Entry} {f : Entry → Entry}
    (he : s.agenda.find e.ticket = some e) (hbare : ∀ q, (f q).bare = f q.bare)
    (hticket : ∀ q, (f q).ticket = q.ticket) (hkept : f e.unbound = kept.back)
    (hreplay : kept.replay = false)
    (hv : v.agenda = (((s.bindingCleared e).setAgenda
      ((s.bindingCleared e).agenda.modify e.ticket f)).testEligible).agenda) :
    ∃ q, v.followUp.agenda.find e.ticket = some q ∧ q.due = kept.due ∧ q.remaining = kept.remaining ∧
      q.plays = kept.plays ∧ q.replay = false ∧ q.wait = 0 ∧ q.state ≠ .bidding ∧
      (q.state ≠ .playing → q.interrupted = kept.interrupted ∧ q.playKind = none ∧
        q.endRequest = .none ∧ q.binding = none) := by
  obtain ⟨q1, hq1, hbare1⟩ := find_of_bare_map (fun q => by split <;> rfl) (s.bindingCleared_bare e) he
  obtain ⟨q2, hq2, hbare2⟩ := find_of_bare_map (t := (s.bindingCleared e).setAgenda
    ((s.bindingCleared e).agenda.modify e.ticket f)) (fun q => by split <;> simp [hticket])
    ((s.bindingCleared e).modify_bare e.ticket hbare) hq1
  obtain ⟨q3, hq3, hbare3⟩ := find_of_bare_map (fun q => by unfold Entry.tested; split <;> rfl)
    (testEligible_bare _) hq2
  rw [← hv] at hq3
  rw [if_pos e.bare_ticket] at hbare1
  have hticket1 : q1.bare.ticket = e.ticket := by
    rw [hbare1]
    rfl
  rw [if_pos hticket1, hbare1] at hbare2
  have hback : f e.bare.unbound = kept.back.bare := by rw [← hkept, hbare]; rfl
  rw [hbare2, hback] at hbare3
  obtain ⟨hdue, hremaining, hplays, hclear, hwait, hbidding, -, hinterrupted, hkind, hend, hbinding⟩ :=
    Entry.back_fields hbare3 hreplay
  obtain ⟨q, hq, hstands⟩ := followUp_find hq3
  obtain ⟨-, hqdue, hqremaining, hqplays, hqreplay, -, hstate⟩ := hstands.fields
  refine ⟨q, hq, hqdue.trans hdue, hqremaining.trans hremaining, hqplays.trans hplays,
    hqreplay.trans hclear, ?_, ?_, fun hnot => ?_⟩
  · obtain ⟨hsame, -⟩ | ⟨hzero, -⟩ := hstate
    exacts [hsame.trans hwait, hzero]
  · obtain ⟨-, hsame⟩ | ⟨-, hplaying⟩ := hstate
    · rwa [hsame]
    · simp [hplaying]
  · obtain hsame | ⟨u, hplaying⟩ := hstands
    · have hfield {α : Type} (g : Entry → α) := congrArg g hsame
      exact ⟨(hfield Entry.interrupted).trans hinterrupted, (hfield Entry.playKind).trans hkind,
        (hfield Entry.endRequest).trans hend, (hfield Entry.binding).trans hbinding⟩
    · exact absurd (congrArg Entry.state hplaying) hnot

/-! ### The report (06 R120) -/

/-- The play has ended, and the renderer reports it. -/
def playOver (s : State) (enable : Bool) (drop : Option Nat) (report : EndReport) : State :=
  (s.rendererIdle enable drop).setRenderer
    { (s.rendererIdle enable drop).renderer with report := some report }

theorem endReported_eq (s : State) (enable : Bool) (drop : Option Nat) (report : EndReport) :
    (s.rendererIdle enable drop).endReported report =
      ((s.playOver enable drop report).heldReleased.agendaPlayEnd report).holdLeft.followUp := by
  rw [endReported, playEnded_eq]
  rfl

/-- The agenda after the end of a play, when its entry leaves. -/
theorem playLeaves {s : State} {report : EndReport} {e kept : Entry} {o : Retirement}
    (he : s.agenda.find report.ticket = some e)
    (hplayed : (s.bindingCleared e).entryPlayed e.unbound = (s.bindingCleared e).dropPlayed kept o)
    (hticket : kept.ticket = e.ticket) (hpost : kept.post = e.post)
    (hsuccessor : kept.successor = e.successor) :
    let v := s.agendaPlayEnd report
    v.agenda.ids = s.agenda.ids.filter (·.1 != e.ticket) ++
        (e.successor.map fun q => (q.ticket, q.post, none)).toList ∧
      (e.binding = none ∨ s.agenda.owner ≠ .entry e.ticket →
        v.events.grewFrom (s.offer (.retired e.ticket e.post.topic o kept.plays)).events) ∧
      ∃ u : State, u.events.grewFrom s.events ∧
        v.events.grewFrom (u.offer (.retired e.ticket e.post.topic o kept.plays)).events := by
  intro v
  obtain ⟨hids, hevents⟩ := (s.bindingCleared e).dropPlayed_effect kept o
  have hv : v = ((s.bindingCleared e).dropPlayed kept o).testEligible := by
    rw [← hplayed, ← agendaPlayEnd_eq he]
  rw [hticket, hsuccessor, bindingCleared_ids] at hids
  rw [hticket, hpost] at hevents
  rw [hv]
  refine ⟨by simpa using hids, fun hquiet => ?_, _, s.bindingCleared_grew e, by simpa using hevents⟩
  rw [offer_events_congr _ (bindingCleared_events hquiet)] at hevents
  simpa using hevents

/-- The agenda after the end of a play, when its entry stays. -/
theorem playStays {s : State} {report : EndReport} {e kept : Entry} {f : Entry → Entry}
    (he : s.agenda.find report.ticket = some e) (hbare : ∀ q, (f q).bare = f q.bare)
    (hid : ∀ q, (f q).id = q.id) (hkept : f e.unbound = kept.back) (hreplay : kept.replay = false)
    (hplayed : (s.bindingCleared e).entryPlayed e.unbound = (s.bindingCleared e).setAgenda
      ((s.bindingCleared e).agenda.modify e.ticket f)) :
    (s.agendaPlayEnd report).agenda.ids = s.agenda.ids ∧
      ∀ v : State, v.agenda = (s.agendaPlayEnd report).agenda →
        ∃ q, v.followUp.agenda.find e.ticket = some q ∧ q.due = kept.due ∧
          q.remaining = kept.remaining ∧ q.plays = kept.plays ∧ q.replay = false ∧ q.wait = 0 ∧
          q.state ≠ .bidding ∧ (q.state ≠ .playing → q.interrupted = kept.interrupted ∧
            q.playKind = none ∧ q.endRequest = .none ∧ q.binding = none) := by
  rw [agendaPlayEnd_eq he, hplayed]
  refine ⟨by simp [ids_modify _ _ _ hid, bindingCleared_ids], fun v hv => ?_⟩
  exact keptEntry_find (Agenda.find_ticket he ▸ he) hbare (fun q => congrArg Prod.fst (hid q)) hkept
    hreplay hv

/-- What follows an end report: entries that are silent, or leave, start no play after it. -/
theorem playEnded_silent {s : State} {ticket : Nat} {ending : PlayEnding}
    (h : ∀ q ∈ s.agenda.entries, q.post.isSilent = true ∧ q.ticket ≠ ticket ∨
      q.ticket = ticket ∧ q.successor = none ∧ ∃ o, q.endRequest = .retire o) :
    ∀ i ∈ (s.agendaPlayEnd { ticket := ticket, ending := ending }).agenda.ids,
      i.2.1.isSilent = true := by
  have hsilent {i : Nat × Post × Option Successor} (hi : i ∈ s.agenda.ids) (hother : i.1 ≠ ticket) :
      i.2.1.isSilent = true := by
    obtain ⟨q, hq, rfl⟩ := List.mem_map.mp hi
    obtain ⟨hpost, -⟩ | ⟨hsame, -⟩ := h q hq
    · exact hpost
    · exact absurd hsame hother
  intro i hi
  cases he : s.agenda.find ticket with
  | none =>
    rw [agendaPlayEnd_of_none he] at hi
    refine hsilent hi fun hsame => ?_
    obtain ⟨q, hq, rfl⟩ := List.mem_map.mp hi
    exact absurd (List.find?_eq_none.mp he q hq) (by simpa [Entry.id] using hsame)
  | some e =>
    have hticket := Agenda.find_ticket he
    obtain ⟨-, hother⟩ | ⟨-, hsuccessor, o, hend⟩ := h e (List.mem_of_find?_eq_some he)
    · exact absurd hticket hother
    · have hplayed : (s.bindingCleared e).entryPlayed e.unbound =
          (s.bindingCleared e).dropPlayed e.unbound o := by
        have hrequest : e.unbound.endRequest = .retire o := hend
        simp only [entryPlayed, hrequest]
      obtain ⟨hids, -⟩ := playLeaves (report := { ticket := ticket, ending := ending }) he hplayed rfl rfl
        rfl
      rw [hids, hsuccessor] at hi
      obtain ⟨hi, hother⟩ : i ∈ s.agenda.ids ∧ i.1 ≠ e.ticket := by simpa using hi
      exact hsilent hi (hticket ▸ hother)

end State

/-- Settles O44: the report, what the agenda makes of it, and the hold that is left. -/
theorem playsEndWithTheirReport : Obligations.PlaysEndWithTheirReport := by
  refine ⟨fun s p command enable drop how hcommand hplay htimer => ?_, fun s hdrop => ?_⟩
  · have hexec : exec command s = .next ((s.rendererIdle enable drop).endReported
        { ticket := p.ticket, ending := how }) := by
      obtain ⟨rfl, hphase, rfl, rfl, rfl⟩ | ⟨rfl, hphase, rfl, rfl, rfl⟩ := hcommand
      · have hin : s.playIn .tail = some p := (if_pos hphase).trans hplay
        simp only [exec_tailExpiry, State.tailExpired, hin, if_pos htimer, Play.tailEnding]
      · have hin : s.playIn .fade = some p := (if_pos hphase).trans hplay
        simp only [exec_fadeExpiry, State.fadeExpired, hin, if_pos htimer]
    refine ⟨_, hexec, ?_⟩
    have hreport := (s.rendererIdle enable drop).endReported_report { ticket := p.ticket, ending := how }
    have hchanged : ((s.rendererIdle enable drop).endReported
        { ticket := p.ticket, ending := how }).changedIn s (.line :: Block.followUp) := by
      simp [State.changedIn_iff, Block.followUp]
    rw [State.endReported_eq] at hreport hchanged ⊢
    have hover : (s.playOver enable drop { ticket := p.ticket, ending := how }).agenda = s.agenda ∧
        (s.playOver enable drop { ticket := p.ticket, ending := how }).floor = s.floor ∧
        (s.playOver enable drop { ticket := p.ticket, ending := how }).line = s.line ∧
        (s.playOver enable drop { ticket := p.ticket, ending := how }).events = s.events ∧
        (s.playOver enable drop { ticket := p.ticket, ending := how }).rest = s.rest ∧
        (s.playOver enable drop { ticket := p.ticket, ending := how }).renderer =
          { phase := .idle, timer := 0, play := none, enable := enable, dropTimer := drop,
            report := some { ticket := p.ticket, ending := how } } :=
      ⟨rfl, rfl, rfl, rfl, rfl, rfl⟩
    generalize s.playOver enable drop { ticket := p.ticket, ending := how } = u at *
    obtain ⟨hagenda, hfloor, hline, hevents, hrest, hrenderer⟩ := hover
    have hfind {e : Entry} (he : s.agenda.find p.ticket = some e) :
        u.heldReleased.agenda.find p.ticket = some e := by simpa [hagenda] using he
    refine ⟨hchanged, hreport, fun hstill => ?_, fun e he => ?_, fun hhold => ?_, fun bid hold hctx => ?_⟩
    · rw [← hrenderer]
      obtain hpart | hplaying | hsilent := hstill
      · refine (State.followUp_inactive _ ?_).2.1.trans (by simp)
        simpa [hrest] using hpart
      · exact (State.followUp_renderer_of_not_playing hplaying).trans (by simp)
      · refine (State.followUp_renderer_of_silent ?_).trans (by simp)
        rw [← hagenda] at hsilent
        simpa using State.playEnded_silent (s := u.heldReleased) (ending := how) (by simpa using hsilent)
    · intro leaves
      have hticket := Agenda.find_ticket he
      have hleaves {kept : Entry} {o : Retirement} (hplayed : (u.heldReleased.bindingCleared e).entryPlayed
          e.unbound = (u.heldReleased.bindingCleared e).dropPlayed kept o) (hkept : kept.ticket = e.ticket)
          (hpost : kept.post = e.post) (hsuccessor : kept.successor = e.successor) :
          leaves o kept.plays := by
        obtain ⟨hids, hquiet, v, hv, hgrew⟩ := State.playLeaves (report := ⟨p.ticket, how⟩) (hfind he)
          hplayed hkept hpost hsuccessor
        refine ⟨by simpa [hagenda] using hids, fun hq => State.followUp_grew _ _ ?_, v,
          by simpa [hevents] using hv, State.followUp_grew _ _ (by simpa using hgrew)⟩
        rw [State.offer_events_congr _ (t := s) (by simp [hevents])] at hquiet
        simpa using hquiet (by simpa [hagenda, hticket] using hq)
      have haccount {α : Type} (g : Entry → α) := congrArg g e.account_unbound
      have hremaining : e.unbound.account.remaining = e.account.remaining := haccount Entry.remaining
      have hplays : e.unbound.account.plays = e.account.plays := haccount Entry.plays
      refine ⟨fun o hend => ?_, fun hend hlast => ?_, fun kept hkept => ?_⟩
      · have hrequest : e.unbound.endRequest = .retire o := hend
        exact hleaves (kept := e.unbound) (by simp only [State.entryPlayed, hrequest]) rfl rfl rfl
      · have hrequest : e.unbound.endRequest = .none := hend
        rw [← hplays]
        refine hleaves (kept := e.unbound.account) ?_ (by simp [Entry.unbound]) (by simp [Entry.unbound])
          (by simp [Entry.unbound])
        simp only [State.entryPlayed, hrequest, hremaining, if_pos hlast]
      · obtain ⟨hend, rfl⟩ | ⟨hend, hmore, rfl⟩ := hkept
        · have hrequest : e.unbound.endRequest = .interrupt := hend
          obtain ⟨hids, hfound⟩ := State.playStays (report := ⟨p.ticket, how⟩)
            (kept := { e with interrupted := true, replay := false }) (f := Entry.interruptedBack)
            (hfind he) (fun _ => rfl) (fun _ => rfl) rfl rfl
            (by simp only [State.entryPlayed, hrequest]; rfl)
          exact ⟨by simpa [hagenda] using hids, hfound _ (by simp)⟩
        · have hrequest : e.unbound.endRequest = .none := hend
          obtain ⟨hids, hfound⟩ := State.playStays (report := ⟨p.ticket, how⟩)
            (f := fun q => q.account.back) (hfind he) (fun q => by rw [← Entry.account_bare]; rfl)
            (fun q => by simp [Entry.id]) e.account_unbound e.account_replay
            (by simp only [State.entryPlayed, hrequest, hremaining, if_neg hmore]; rfl)
          exact ⟨by simpa [hagenda] using hids, hfound _ (by simp)⟩
    · have hidle : u.heldReleased = u := State.heldReleased_of_not_holding (by rwa [hfloor])
      simp [hidle, hline]
    · obtain ⟨htalk, hdone, hquiet⟩ := State.heldReleased_line (s := u) (bid := bid) (hold := hold)
        (by rwa [hfloor])
      rw [hfloor, hline] at hdone
      rw [hfloor, hline] at hquiet
      refine ⟨by simpa using htalk, fun h => by simpa using hdone h, fun h => ?_,
        fun hiso hannounced => by simpa using hquiet hiso hannounced⟩
      refine State.holdLeft_followUp (by simp [hfloor, hctx, FloorCtx.isHolding]) ?_
      simpa [hfloor, hrest] using h
  · rw [exec_enableDrop, State.enableDropped, if_pos hdrop]

end Sys2Proof.Machine

/-! ## The panel monitor's sample: filters, the return from STANDBY, and its three judgements (09; O51, O52) -/

namespace Sys2Proof.Machine

namespace State

/-! ### An event that returns the part from STANDBY (11 R184) -/

/-- With an empty agenda a compose that goes on makes no record (08 R142, R144). -/
theorem advanceCompose_events_of_empty {s : State} (h : s.agenda.entries = []) :
    s.advanceCompose.events = s.events := by
  have hreport (u : State) (hu : u.agenda = s.agenda) (snap : Snapshot) :
      (u.reportPage snap).events = u.events := by
    cases howner : snap.owner with
    | entry ticket => simp [reportPage, howner, Agenda.find, hu, h]
    | basePage page => simp [reportPage, howner]
    | builtIn => simp [reportPage, howner]
  have hdraw (snap : Snapshot) (drawn : Drawn) : (s.drawSoFar snap drawn).events = s.events := by
    simp only [drawSoFar]
    split
    · exact hreport _ (by simp) snap
    · rfl
  unfold advanceCompose
  (repeat' split) <;> simp [hdraw]

theorem cause_events_of_empty {s : State} (h : s.agenda.entries = []) : s.cause.events = s.events := by
  have hstart : s.startCompose.events = s.events := by
    rw [startCompose, advanceCompose_events_of_empty (by simpa using h)]
    simp
  unfold cause
  (repeat' split) <;> simp [hstart]

theorem enterActive_events_of_empty {s : State} (h : s.agenda.entries = []) :
    s.enterActive.events = s.events := by
  have hcause := cause_events_of_empty (s := (s.setRest { s.rest with part := .active }).setDisplay
    { s.display with blinkOn := true, frameCount := 0 }) h
  simpa [enterActive] using hcause

/-- An event's record, after the return from STANDBY and its record (11 R184). -/
theorem returnedOffer_grew (s : State) (r : EventRecord) {t : State}
    (h : t.events.grewFrom (s.returnActive.offer r).events) :
    (s.rest.part ≠ .standby → t.events.grewFrom (s.offer r).events) ∧
      (s.rest.part = .standby → t.events.grewFrom (s.offer .standbyOff).events ∧
        (s.agenda.entries = [] → t.events.grewFrom ((s.offer .standbyOff).offer r).events)) := by
  refine ⟨fun hpart => ?_, fun hpart => ⟨?_, fun hempty => ?_⟩⟩
  · rwa [returnActive, if_neg hpart] at h
  · exact EventQueue.grewFrom_trans h (offer_grew _ _ _ (returnActive_of_standby hpart))
  · have hoff : s.returnActive.events = (s.offer .standbyOff).events := by
      rw [returnActive, if_pos hpart]
      exact enterActive_events_of_empty (by simpa using hempty)
    rwa [offer_events_congr r hoff] at h

theorem returned_eq (p : PartState) : p.returned = if p = .standby then .active else p := rfl

/-! ### The filters (09 R154) -/

theorem LineFilter_take_eq (f : LineFilter) (now : Level) : f.take now =
    if f.primed = false then { level := now, count := 0, primed := true }
    else if now = f.level then { f with count := 0 }
    else if f.count < 3 then { f with count := f.count + 1 }
    else { f with level := now, count := 0 } := by
  unfold LineFilter.take
  by_cases hcount : f.count < 3
  · rw [if_neg (c := 4 ≤ f.count + 1) (by omega), if_pos hcount]
  · rw [if_pos (c := 4 ≤ f.count + 1) (by omega), if_neg hcount]

/-! ### What each judgement changes of the panel -/

/-- A key's effect changes the session language at most (09 R157 to R159). -/
theorem keyEffect_panel (s : State) (role : Role) : (s.keyEffect role).panel = { s.panel with
    language := if role = .language then nextLanguage s.flash.store s.panel.language
      else s.panel.language } := by
  cases role with
  | language =>
    simp only [keyEffect, languagePressed, if_true]
    split
    next h => rw [h]
    · simp
  | _ => simp [keyEffect]

theorem pressed_panel (s : State) (line : Nat) : (s.pressed line).panel = { s.panel with
    sessionTimer := s.panel.sessionTimer.map fun _ => 0,
    language := if s.roleOf line = .language then nextLanguage s.flash.store s.panel.language
      else s.panel.language } := by
  simp [pressed, keyEffect_panel, sessionRestarted]

theorem doorEdge_panel (s : State) (line : Nat) (door : Door) :
    (s.doorEdge line door).panel = { s.panel with door := door } := by
  simp [doorEdge]

theorem arrived_panel (s : State) (line : Nat) : (s.arrived line).panel =
    { s.panel with presence := .present, sessionTimer := none } := by
  simp [arrived]

/-! ### A sample, judgement by judgement (09 R154) -/

theorem filtersStepped_panel (s : State) (levels : BitVec 8) :
    (s.filtersStepped levels).panel = { s.panel with
      filters := (s.filtersStepped levels).panel.filters } := rfl

theorem keysJudged_panel (s : State) : ∃ atRest timer language, s.keysJudged.panel =
    { s.panel with keysAtRest := atRest, sessionTimer := timer, language := language } := by
  unfold keysJudged
  split
  · split
    · exact ⟨_, _, _, rfl⟩
    · split
      · exact ⟨_, _, _, pressed_panel _ _⟩
      · exact ⟨_, _, _, rfl⟩
  · exact ⟨_, _, _, rfl⟩

theorem doorJudged_panel (s : State) : ∃ door, s.doorJudged.panel = { s.panel with door := door } := by
  unfold doorJudged
  split
  · exact ⟨_, rfl⟩
  · split
    · exact ⟨_, rfl⟩
    · exact ⟨_, doorEdge_panel _ _ _⟩

theorem presenceJudged_filters (s : State) (line : Nat) (before : Bool) :
    (s.presenceJudged line before).panel.filters = s.panel.filters := by
  unfold presenceJudged presenceLeavesRest presenceReturnsToRest
  (repeat' split) <;> simp [arrived_panel]

theorem keysJudged_filters (s : State) : s.keysJudged.panel.filters = s.panel.filters := by
  obtain ⟨_, _, _, h⟩ := s.keysJudged_panel
  rw [h]

theorem doorJudged_filters (s : State) : s.doorJudged.panel.filters = s.panel.filters := by
  obtain ⟨_, h⟩ := s.doorJudged_panel
  rw [h]

/-- A line is at rest or not by its filter alone. -/
theorem atRest_of_filters {p q : Panel} (h : p.filters = q.filters) (cfg : Settings) (line : Nat) :
    p.atRest cfg line = q.atRest cfg line := by
  rw [Panel.atRest, h, Panel.atRest]

theorem panelSampled_filters (s : State) (levels : BitVec 8) :
    (s.panelSampled levels).panel.filters = (s.filtersStepped levels).panel.filters := by
  have hdoor : (s.filtersStepped levels).keysJudged.doorJudged.panel.filters =
      (s.filtersStepped levels).panel.filters := (doorJudged_filters _).trans (keysJudged_filters _)
  unfold panelSampled panelJudged
  dsimp only
  split
  · exact hdoor
  · rw [presenceJudged_filters, hdoor]

/-- Without a change of the DOOR line no door edge is taken (09 R160). -/
theorem doorJudged_of_steady {s : State} {levels : BitVec 8} (h : s.doorSteady levels = true) :
    (s.filtersStepped levels).keysJudged.doorJudged = (s.filtersStepped levels).keysJudged := by
  have hsettings : (s.filtersStepped levels).keysJudged.settings = s.settings := by simp
  rw [doorJudged, hsettings]
  rw [doorSteady] at h
  split
  · rfl
  next line hline =>
    refine if_pos ?_
    obtain ⟨_, _, _, hpanel⟩ := (s.filtersStepped levels).keysJudged_panel
    have hrest : (s.filtersStepped levels).keysJudged.panel.atRest s.settings line =
        (s.filtersStepped levels).panel.atRest s.settings line :=
      atRest_of_filters (keysJudged_filters _) _ _
    have hdoor : (s.filtersStepped levels).keysJudged.panel.door = s.panel.door := by
      rw [hpanel]
      rfl
    rw [hline] at h
    rw [doorShown, hsettings, hrest, hdoor]
    cases hstate : s.panel.door <;> simp_all

theorem presenceJudged_of_same {s : State} {line : Nat} {before : Bool}
    (h : s.panel.atRest s.settings line = before) : s.presenceJudged line before = s := by
  unfold presenceJudged
  rw [h]
  cases before <;> rfl

/-- Without a change of the PRESENCE line the sample ends with the door (09 R161). -/
theorem panelSampled_of_presenceSteady {s : State} {levels : BitVec 8}
    (h : s.presenceSteady levels = true) :
    s.panelSampled levels = (s.filtersStepped levels).keysJudged.doorJudged := by
  have hsettings : (s.filtersStepped levels).settings = s.settings := by simp
  have hafter : (s.filtersStepped levels).keysJudged.doorJudged.settings = s.settings := by simp
  rw [presenceSteady] at h
  simp only [panelSampled, panelJudged, hsettings]
  split
  · rfl
  next line hline =>
    have hrest : (s.filtersStepped levels).keysJudged.doorJudged.panel.atRest s.settings line =
        (s.filtersStepped levels).panel.atRest s.settings line :=
      atRest_of_filters ((doorJudged_filters _).trans (keysJudged_filters _)) _ _
    rw [hline] at h
    have hsame : (s.filtersStepped levels).panel.atRest s.settings line =
        s.panel.atRest s.settings line := by simpa using h
    exact presenceJudged_of_same (by rw [hafter, hrest, hsame])

/-- With a PRESENCE line, the sample ends with its judgement (09 R161). -/
theorem panelSampled_eq_presence {s : State} {levels : BitVec 8} {line : Nat}
    (h : s.settings.lineOf .presence = some line) : s.panelSampled levels =
      (s.filtersStepped levels).keysJudged.doorJudged.presenceJudged line
        (s.panel.atRest s.settings line) := by
  have hsettings : (s.filtersStepped levels).settings = s.settings := by simp
  simp only [panelSampled, panelJudged, hsettings, h]

/-- A sample of which the keys see no press. -/
def sampledQuiet (s : State) (levels : BitVec 8) (atRest : Bool) : State :=
  (s.filtersStepped levels).setPanel { (s.filtersStepped levels).panel with keysAtRest := atRest }

theorem keysJudged_of_noPress {s : State} {levels : BitVec 8} (h : s.noPress levels = true) :
    ∃ atRest, (s.filtersStepped levels).keysJudged = s.sampledQuiet levels atRest := by
  unfold keysJudged
  split
  · split
    · exact ⟨true, rfl⟩
    next line hdown =>
      have hsettings : (s.filtersStepped levels).settings = s.settings := by simp
      rw [hsettings] at hdown
      have hheld : s.panel.keysAtRest = false := by simpa [noPress, hdown] using h
      exact ⟨(s.filtersStepped levels).panel.keysAtRest, if_neg (by exact hheld ▸ Bool.false_ne_true)⟩
  · exact ⟨(s.filtersStepped levels).panel.keysAtRest, rfl⟩

@[simp] theorem sampledQuiet_keeps (s : State) (levels : BitVec 8) (atRest : Bool) :
    (s.sampledQuiet levels atRest).agenda = s.agenda ∧ (s.sampledQuiet levels atRest).rest = s.rest ∧
      (s.sampledQuiet levels atRest).events = s.events ∧
      (s.sampledQuiet levels atRest).settings = s.settings ∧
      (s.sampledQuiet levels atRest).renderer = s.renderer ∧
      (s.sampledQuiet levels atRest).panel = { s.panel with
        filters := (s.filtersStepped levels).panel.filters, keysAtRest := atRest } :=
  ⟨rfl, rfl, rfl, rfl, rfl, rfl⟩

theorem sampledQuiet_changedIn (s : State) (levels : BitVec 8) (atRest : Bool) :
    (s.sampledQuiet levels atRest).changedIn s [.panel] := by
  simp [sampledQuiet, changedIn_iff]

end State

end Sys2Proof.Machine

/-! ## Door edges and the presence (01 R23, 09 R160, R161, 11 R187; O52) -/

namespace Sys2Proof.Machine

/-! ### Requests made twice -/

/-- The same retirement asked for again changes nothing (01 R9). -/
theorem EndRequest.asked_asked (r : EndRequest) (o : Retirement) :
    (r.asked (.retire o)).asked (.retire o) = r.asked (.retire o) := by
  cases r with
  | none => cases o <;> rfl
  | interrupt => cases o <;> rfl
  | retire o' => cases o <;> cases o' <;> rfl

/-- A second cut changes nothing (06 R118). -/
theorem Renderer.cut_cut (r : Renderer) : r.cut.cut = r.cut := by
  cases hplay : r.play with
  | none => simp [Renderer.cut, hplay]
  | some p =>
    by_cases hphase : r.phase = .lead ∨ r.phase = .gap
    · by_cases hstop : p.stop = .fade <;> simp [Renderer.cut, hplay, hphase, hstop]
    · by_cases hstop : p.stop = .fade <;> simp [Renderer.cut, hplay, hphase, hstop]

/-! ### Entries that retire one after another (01 R23) -/

/-- What is read of chosen entries, where it does not see the marks. -/
theorem Agenda.filter_map_of_bare_eq {α : Type} {a b : Agenda} (h : b.bare = a.bare)
    {p : Entry → Bool} (hp : ∀ e, p e.bare = p e) {f : Entry → α} (hf : ∀ e, f e.bare = f e) :
    (b.entries.filter p).map f = (a.entries.filter p).map f := by
  have hbare (es : List Entry) : (es.filter p).map f = ((es.map Entry.bare).filter p).map f := by
    rw [filter_map_bare _ hp, List.map_map]
    exact List.map_congr_left fun e _ => (hf e).symm
  rw [hbare, ← Agenda.bare, h, Agenda.bare, ← hbare]

namespace State

theorem retireEntry_bare_of_not_playing {s : State} {e : Entry} (h : e.state ≠ .playing)
    (o : Retirement) :
    (s.retireEntry e o).agenda.bare = s.agenda.bare.filter fun q => q.ticket != e.ticket := by
  unfold retireEntry
  cases hstate : e.state with
  | playing => exact absurd hstate h
  | _ => simp [dropEntry_bare]

/-- The entry that a ticket names after another, or itself, retires. -/
theorem retireEntry_find {s : State} {e q' : Entry} {o : Retirement} {ticket : Nat}
    (h : (s.retireEntry e o).agenda.find ticket = some q') :
    ∃ q, s.agenda.find ticket = some q ∧ q'.state = q.state ∧ q'.endRequest =
      if e.state = .playing ∧ e.ticket = ticket then q.endRequest.asked (.retire o)
      else q.endRequest := by
  by_cases hstate : e.state = .playing
  · rw [retireEntry_of_playing hstate, stopEntry_agenda,
      Agenda.find_modify _ _ _ fun q => (q.request_fields _).2.2.2] at h
    obtain ⟨q, hq, rfl⟩ := Option.map_eq_some_iff.mp h
    have hticket := Agenda.find_ticket hq
    refine ⟨q, hq, ?_⟩
    by_cases hsame : q.ticket = e.ticket
    · rw [if_pos hsame, if_pos ⟨hstate, hsame.symm.trans hticket⟩]
      exact ⟨(q.request_fields _).2.2.1, q.request_endRequest _⟩
    · rw [if_neg hsame, if_neg fun h => hsame (hticket.trans h.2.symm)]
      exact ⟨rfl, rfl⟩
  · have hfound := Agenda.find_bare (s.retireEntry e o).agenda ticket
    rw [h, retireEntry_bare_of_not_playing hstate, List.find?_filter] at hfound
    have hother : ticket ≠ e.ticket := by
      have hkept := List.find?_some hfound.symm
      obtain ⟨hne, heq⟩ : q'.ticket ≠ e.ticket ∧ q'.ticket = ticket := by simpa using hkept
      exact heq ▸ hne
    have hsame : (fun r : Entry => decide ((r.ticket != e.ticket) = true ∧
        (r.ticket == ticket) = true)) = fun r => r.ticket == ticket := by
      funext r
      by_cases hr : r.ticket = ticket <;> simp [hr, hother]
    have hfind : (s.agenda.find ticket).map Entry.bare = some q'.bare := by
      rw [Agenda.find_bare, ← hsame, ← hfound]
      rfl
    obtain ⟨q, hq, hbare⟩ := Option.map_eq_some_iff.mp hfind
    refine ⟨q, hq, (congrArg Entry.state hbare).symm, ?_⟩
    rw [if_neg fun h => hstate h.1]
    exact (congrArg Entry.endRequest hbare).symm

/-- The entry that a ticket names after retirements: PLAYING still, and asked to retire if one was it. -/
theorem retireAll_find {o : Retirement} {es : List Entry} {ticket : Nat} {q' : Entry} :
    ∀ {s : State}, (s.retireAll o es).agenda.find ticket = some q' →
      ∃ q, s.agenda.find ticket = some q ∧ q'.state = q.state ∧
        (q'.endRequest = q.endRequest.asked (.retire o) ∨
          q'.endRequest = q.endRequest ∧ ∀ e ∈ es, e.state = .playing → e.ticket ≠ ticket) := by
  induction es with
  | nil => exact fun h => ⟨q', h, rfl, .inr ⟨rfl, by simp⟩⟩
  | cons e es ih =>
    intro s h
    obtain ⟨q1, hq1, hstate1, hend1⟩ := ih h
    obtain ⟨q, hq, hstate, hend⟩ := retireEntry_find hq1
    refine ⟨q, hq, hstate1.trans hstate, ?_⟩
    by_cases hnamed : e.state = .playing ∧ e.ticket = ticket
    · rw [if_pos hnamed] at hend
      obtain hasked | ⟨hstill, -⟩ := hend1
      · exact .inl (by rw [hasked, hend, EndRequest.asked_asked])
      · exact .inl (hstill.trans hend)
    · rw [if_neg hnamed] at hend
      obtain hasked | ⟨hstill, hnone⟩ := hend1
      · exact .inl (by rw [hasked, hend])
      · refine .inr ⟨hstill.trans hend, fun r hr hplaying => ?_⟩
        obtain rfl | hr := List.mem_cons.mp hr
        · exact fun hticket => hnamed ⟨hplaying, hticket⟩
        · exact hnone r hr hplaying

/-- The entries that leave are those that are not PLAYING. -/
theorem retireAll_ids (o : Retirement) (es : List Entry) : ∀ s : State,
    (s.retireAll o es).agenda.ids = s.agenda.ids.filter fun i =>
      es.all fun e => e.state == .playing || e.ticket != i.1 := by
  induction es with
  | nil =>
    intro s
    exact (List.filter_eq_self.mpr (by simp)).symm
  | cons e es ih =>
    intro s
    rw [retireAll, ih, retireEntry_ids]
    by_cases hstate : e.state = .playing
    · simp [hstate]
    · rw [if_neg hstate, List.filter_filter]
      refine List.filter_congr fun i _ => ?_
      have hflip : (i.1 != e.ticket) = (e.ticket != i.1) := bne_comm
      have hnot : (e.state == .playing) = false := by simpa using hstate
      rw [hflip, Bool.and_comm, List.all_cons, hnot, Bool.false_or]

/-- The renderer is asked to stop when a PLAYING entry retires (01 R9). -/
theorem retireAll_renderer (o : Retirement) (es : List Entry) : ∀ s : State,
    ((∃ e ∈ es, e.state = .playing) → (s.retireAll o es).renderer = s.renderer.cut) ∧
      ((∀ e ∈ es, e.state ≠ .playing) → (s.retireAll o es).renderer = s.renderer) := by
  induction es with
  | nil => exact fun s => ⟨by simp, fun _ => rfl⟩
  | cons e es ih =>
    intro s
    obtain ⟨hcut, hsame⟩ := ih (s.retireEntry e o)
    by_cases hstate : e.state = .playing
    · have hfirst : (s.retireEntry e o).renderer = s.renderer.cut := by
        rw [retireEntry_of_playing hstate, stopEntry_renderer]
      rw [hfirst] at hcut hsame
      refine ⟨fun _ => ?_, fun h => absurd hstate (h e List.mem_cons_self)⟩
      by_cases hrest : ∃ e ∈ es, e.state = .playing
      · exact (hcut hrest).trans (Renderer.cut_cut _)
      · exact hsame fun r hr hplaying => hrest ⟨r, hr, hplaying⟩
    · have hfirst : (s.retireEntry e o).renderer = s.renderer := by
        unfold retireEntry
        cases hs : e.state with
        | playing => exact absurd hs hstate
        | _ => simp
      rw [hfirst] at hcut hsame
      refine ⟨fun ⟨r, hr, hplaying⟩ => ?_, fun h => hsame fun r hr => h r (List.mem_cons_of_mem e hr)⟩
      obtain rfl | hr := List.mem_cons.mp hr
      · exact absurd hplaying hstate
      · exact hcut ⟨r, hr, hplaying⟩

/-! ### Records that join the queue (10 R174) -/

/-- While the queue does not fill, these records have joined it, in this order. -/
def queuedAfter (t s : State) (records : List EventRecord) : Prop :=
  t.events.grewFrom s.events ∧ (t.events.queue.length < 16 →
    records.Sublist (t.events.queue.drop s.events.queue.length))

theorem queuedAfter_of_grew {t s : State} (h : t.events.grewFrom s.events) : t.queuedAfter s [] :=
  ⟨h, fun _ => List.nil_sublist _⟩

theorem queuedAfter_offer {t s : State} {r : EventRecord}
    (h : t.events.grewFrom (s.offer r).events) : t.queuedAfter s [r] := by
  refine ⟨EventQueue.grewFrom_trans h (s.offer_events_grew r), fun hroom => ?_⟩
  obtain ⟨rest, hrest⟩ := h.1
  by_cases hfull : s.events.queue.length < Config.queueSize
  · have hqueue : (s.offer r).events.queue = s.events.queue ++ [r] := by
      rw [offer, if_pos hfull]
      rfl
    rw [← hrest, hqueue, List.append_assoc, List.drop_left]
    simp
  · have hsame : (s.offer r).events.queue = s.events.queue := by
      rw [offer, if_neg hfull]
      rfl
    rw [← hrest, hsame, List.length_append] at hroom
    simp only [Config.queueSize] at hfull
    omega

theorem queuedAfter_trans {s u t : State} {before after : List EventRecord}
    (h : u.queuedAfter s before) (g : t.queuedAfter u after) : t.queuedAfter s (before ++ after) := by
  refine ⟨EventQueue.grewFrom_trans g.1 h.1, fun hroom => ?_⟩
  obtain ⟨first, hfirst⟩ := h.1.1
  obtain ⟨last, hlast⟩ := g.1.1
  have hbefore := h.2 (by rw [← hlast, List.length_append] at hroom; omega)
  have hafter := g.2 hroom
  rw [← hfirst, List.drop_left] at hbefore
  rw [← hlast, List.drop_left] at hafter
  rw [← hlast, ← hfirst, List.append_assoc, List.drop_left]
  exact hbefore.append hafter

/-- Each entry that leaves makes its record (01 R20). -/
theorem retireAll_queued (o : Retirement) (es : List Entry) : ∀ s : State,
    (s.retireAll o es).queuedAfter s ((es.filter fun e => decide (e.state ≠ .playing)).map fun e =>
      .retired e.ticket e.post.topic o e.plays) := by
  induction es with
  | nil => exact fun s => queuedAfter_of_grew (EventQueue.grewFrom_refl _)
  | cons e es ih =>
    intro s
    by_cases hstate : e.state = .playing
    · rw [List.filter_cons_of_neg (by simpa using hstate), ← List.nil_append (List.map _ _)]
      refine queuedAfter_trans (queuedAfter_of_grew ?_) (ih (s.retireEntry e o))
      exact retireEntry_grew _ _ _ _ (EventQueue.grewFrom_refl _)
    · rw [List.filter_cons_of_pos (by simpa using hstate), List.map_cons, ← List.singleton_append]
      exact queuedAfter_trans (queuedAfter_offer (retireEntry_of_not_playing hstate o).2)
        (ih (s.retireEntry e o))

end State

end Sys2Proof.Machine

/-! ## The door edge and the arrival, as a sample leaves them (09 R160, R161, 11 R184, R187; O52) -/

namespace Sys2Proof.Machine

theorem RetireOn.matchesEdge_iff {r : RetireOn} {door : Door} : r.matchesEdge door = true ↔
    r = .doorOpens ∧ door = .opened ∨ r = .doorCloses ∧ door = .closed := by
  cases r <;> cases door <;> decide

/-- A ticket that is found is one of the ids. -/
theorem Agenda.find_of_ids {a b : Agenda} (h : b.ids = a.ids) {ticket : Nat} {q : Entry}
    (hq : b.find ticket = some q) : ∃ q0, a.find ticket = some q0 := by
  have hmem : q.id ∈ a.ids := h ▸ List.mem_map_of_mem (List.mem_of_find?_eq_some hq)
  obtain ⟨r, hr, hid⟩ := List.mem_map.mp hmem
  have hticket : r.ticket = ticket := (congrArg Prod.fst hid).trans (Agenda.find_ticket hq)
  exact hticket ▸ Agenda.find_of_mem hr

namespace State

/-! ### A wake report (11 R187) -/

theorem reportWake_eq (s : State) (source : WakeSource) : s.reportWake source =
    s.setRest { s.rest with wakeReport :=
      if s.rest.part = .dormant ∧ s.rest.wakeReport = none then some source else s.rest.wakeReport } := by
  unfold reportWake
  split <;> rfl

theorem followUp_wakeReport (s : State) : s.followUp.rest.wakeReport = s.rest.wakeReport := by
  rw [followUp_rest]

theorem returnActive_wakeReport (s : State) :
    s.returnActive.rest.wakeReport = s.rest.wakeReport := by
  unfold returnActive enterActive
  split
  · simp only [idleTest]
    split <;> simp
  · rfl

/-! ### A door edge (09 R160) -/

/-- A door edge with its record, before the entries that it satisfies retire. -/
def edgeShown (s : State) (line : Nat) (door : Door) : State :=
  ((s.returnActive.setPanel { s.returnActive.panel with door := door }).offer
    (.door line door)).idleRestarted

theorem edgeShown_events (s : State) (line : Nat) (door : Door) :
    (s.edgeShown line door).events = (s.returnActive.offer (.door line door)).events := by
  have hoffer : ((s.returnActive.setPanel { s.returnActive.panel with door := door }).offer
      (.door line door)).events = (s.returnActive.offer (.door line door)).events :=
    offer_events_congr _ rfl
  rw [← hoffer]
  rfl

@[simp] theorem edgeShown_keeps (s : State) (line : Nat) (door : Door) :
    (s.edgeShown line door).agenda.bare = s.agenda.bare ∧
      (s.edgeShown line door).renderer = s.renderer ∧
      (s.edgeShown line door).rest.part = s.rest.part.returned ∧
      (s.edgeShown line door).rest.wakeReport = s.rest.wakeReport := by
  refine ⟨by simp [edgeShown], by simp [edgeShown], by simp [edgeShown], ?_⟩
  simp [edgeShown, idleRestarted, returnActive_wakeReport]

/-- The entries that a door edge satisfies, and the retirements. -/
def edgeRetired (s : State) (line : Nat) (door : Door) : State :=
  (s.edgeShown line door).retireAll .satisfied
    ((s.edgeShown line door).agenda.entries.filter fun e => e.post.retireOn.matchesEdge door)

theorem doorEdge_eq (s : State) (line : Nat) (door : Door) :
    s.doorEdge line door = ((s.edgeRetired line door).reportWake .door).followUp := rfl

theorem doorEdge_ids (s : State) (line : Nat) (door : Door) : (s.doorEdge line door).agenda.ids =
    s.agenda.ids.filter fun i => s.agenda.entries.all fun e =>
      !e.post.retireOn.matchesEdge door || (e.state == .playing || e.ticket != i.1) := by
  have hids : (s.edgeShown line door).agenda.ids = s.agenda.ids := by
    rw [Agenda.ids_eq_bare, (s.edgeShown_keeps line door).1, ← Agenda.ids_eq_bare]
  have hall (i : Nat × Post × Option Successor) (a : Agenda) :
      (a.entries.filter fun e => e.post.retireOn.matchesEdge door).all
          (fun e => e.state == .playing || e.ticket != i.1) =
        a.bare.all fun e => !e.post.retireOn.matchesEdge door || (e.state == .playing || e.ticket != i.1) := by
    rw [List.all_filter, Agenda.bare, List.all_map]
    rfl
  have hback (i : Nat × Post × Option Successor) : (s.agenda.bare.all fun e =>
      !e.post.retireOn.matchesEdge door || (e.state == .playing || e.ticket != i.1)) =
        s.agenda.entries.all fun e =>
          !e.post.retireOn.matchesEdge door || (e.state == .playing || e.ticket != i.1) := by
    rw [Agenda.bare, List.all_map]
    rfl
  rw [doorEdge_eq, reportWake_eq]
  simp only [followUp_keeps, setRest_agenda, edgeRetired, retireAll_ids, hids, hall,
    (s.edgeShown_keeps line door).1, hback]

/-- A PLAYING entry that the edge satisfies is asked to retire, by a cut (01 R23). -/
theorem doorEdge_stops {s : State} {line : Nat} {door : Door} {e q : Entry} (he : e ∈ s.agenda.entries)
    (hfind : s.agenda.find e.ticket = some e) (hplaying : e.state = .playing)
    (hmatch : e.post.retireOn.matchesEdge door = true)
    (hq : (s.doorEdge line door).agenda.find e.ticket = some q) :
    q.endRequest = e.endRequest.asked (.retire .satisfied) ∧
      (s.doorEdge line door).renderer = s.renderer.cut := by
  obtain ⟨hbare, hrenderer, -, -⟩ := s.edgeShown_keeps line door
  obtain ⟨q1, hq1, hq1bare⟩ := Agenda.find_of_bare_eq hbare hfind
  obtain ⟨e', he', hsame⟩ := Agenda.mem_of_bare_eq hbare he
  have hfield {α : Type} (g : Entry → α) := congrArg g hsame
  have hsatisfied : e' ∈ (s.edgeShown line door).agenda.entries.filter fun e =>
      e.post.retireOn.matchesEdge door :=
    List.mem_filter.mpr ⟨he', (hfield fun r => r.post.retireOn.matchesEdge door).trans hmatch⟩
  have hplays : e'.state = .playing := (hfield Entry.state).trans hplaying
  have hagenda : ((s.edgeRetired line door).reportWake .door).agenda = (s.edgeRetired line door).agenda ∧
      ((s.edgeRetired line door).reportWake .door).renderer = (s.edgeRetired line door).renderer := by
    rw [reportWake_eq]
    exact ⟨rfl, rfl⟩
  rw [doorEdge_eq] at hq ⊢
  obtain ⟨q0, hq0⟩ := Agenda.find_of_ids (a := (s.edgeRetired line door).agenda)
    (by simp) hq
  obtain ⟨q2, hq2, hstate, hend⟩ := retireAll_find hq0
  obtain rfl := Option.some.inj (hq1.symm.trans hq2)
  have hasked : q0.endRequest = e.endRequest.asked (.retire .satisfied) := by
    obtain hasked | ⟨-, hnone⟩ := hend
    · have hasks : q1.bare.endRequest = e.bare.endRequest := congrArg Entry.endRequest hq1bare
      exact hasked.trans (congrArg (EndRequest.asked · _) hasks)
    · exact absurd (hfield Entry.ticket) (hnone e' hsatisfied hplays)
  have hstill : ((s.edgeRetired line door).reportWake .door).agenda.find e.ticket = some q0 := by
    rw [hagenda.1]
    exact hq0
  have hactive := Agenda.isPlaying_of_find hstill
    (hstate.trans ((congrArg Entry.state hq1bare).trans hplaying))
  refine ⟨(congrArg Entry.endRequest (followUp_find_of_isPlaying hactive hstill hq)).trans hasked, ?_⟩
  rw [followUp_renderer_of_isPlaying hactive, hagenda.2, edgeRetired,
    (retireAll_renderer _ _ _).1 ⟨e', hsatisfied, hplays⟩, hrenderer]

/-- The records of a door edge: the PANEL record, then one for each entry that leaves. -/
theorem doorEdge_queued (s : State) (line : Nat) (door : Door) : (s.doorEdge line door).queuedAfter s
    (.door line door :: (s.agenda.entries.filter fun e => decide (e.state ≠ .playing) &&
      e.post.retireOn.matchesEdge door).map fun e =>
        .retired e.ticket e.post.topic .satisfied e.plays) := by
  have hshown : (s.edgeShown line door).queuedAfter s ([] ++ [.door line door]) := by
    refine queuedAfter_trans (queuedAfter_of_grew (returnActive_grew _ _ (EventQueue.grewFrom_refl _)))
      (queuedAfter_offer ?_)
    rw [edgeShown_events]
    exact EventQueue.grewFrom_refl _
  have hretired := retireAll_queued .satisfied ((s.edgeShown line door).agenda.entries.filter fun e =>
    e.post.retireOn.matchesEdge door) (s.edgeShown line door)
  rw [List.filter_filter, Agenda.filter_map_of_bare_eq (s.edgeShown_keeps line door).1 (fun _ => rfl)
    (fun _ => rfl)] at hretired
  have hafter : (s.doorEdge line door).queuedAfter (s.edgeRetired line door) [] := by
    refine queuedAfter_of_grew (followUp_grew _ _ ?_)
    rw [reportWake_eq]
    exact EventQueue.grewFrom_refl _
  have hall := queuedAfter_trans (queuedAfter_trans hshown hretired) hafter
  rwa [List.append_nil] at hall

theorem doorEdge_wakeReport (s : State) (line : Nat) (door : Door) :
    (s.doorEdge line door).rest.wakeReport =
      if s.rest.part.returned = .dormant ∧ s.rest.wakeReport = none then some .door
      else s.rest.wakeReport := by
  obtain ⟨-, -, hpart, hwake⟩ := s.edgeShown_keeps line door
  have hrest : (s.edgeRetired line door).rest = (s.edgeShown line door).rest := by simp [edgeRetired]
  rw [doorEdge_eq, followUp_wakeReport, reportWake_eq, setRest_rest, hrest, hpart, hwake]

theorem doorEdge_changedIn (s : State) (line : Nat) (door : Door) :
    (s.doorEdge line door).changedIn s (.line :: .panel :: Block.followUp) := by
  simp [changedIn_iff, Block.followUp]

theorem doorEdge_events (s : State) (line : Nat) (door : Door) :
    (s.doorEdge line door).events.grewFrom (s.returnActive.offer (.door line door)).events := by
  rw [doorEdge_eq, ← edgeShown_events, reportWake_eq]
  exact followUp_grew _ _ (retireAll_grew _ _ _ _ (EventQueue.grewFrom_refl _))

/-! ### An arrival (09 R161) -/

/-- An arrival with its record, before the WAITING entries are tested. -/
def arrivalShown (s : State) (line : Nat) : State :=
  (s.returnActive.setPanel { s.returnActive.panel with presence := .present, sessionTimer := none }).offer
    (.presence line true)

theorem arrived_eq (s : State) (line : Nat) :
    s.arrived line = ((s.arrivalShown line).testEligible.reportWake .presence).followUp := rfl

theorem arrived_events (s : State) (line : Nat) :
    (s.arrived line).events.grewFrom (s.returnActive.offer (.presence line true)).events := by
  have hoffer : (s.arrivalShown line).events = (s.returnActive.offer (.presence line true)).events :=
    offer_events_congr _ rfl
  rw [arrived_eq, ← hoffer, reportWake_eq]
  exact followUp_grew _ _ (by simp [EventQueue.grewFrom_refl])

/-- While an entry is PLAYING, the WAITING entries that the open gate lets through are READY (02 R39). -/
theorem arrived_credits {s : State} (h : s.agenda.isPlaying = true) (line : Nat) :
    (s.arrived line).agenda.credits =
      (s.agenda.entries.map fun e => e.madeReady .present).map Entry.credit := by
  have hbare : (s.arrivalShown line).agenda.bare = s.agenda.bare := by simp [arrivalShown]
  have hpresence : (s.arrivalShown line).panel.presence = .present := by simp [arrivalShown]
  have hplaying : (s.arrivalShown line).agenda.isPlaying = true := by
    rwa [Agenda.isPlaying_of_bare_eq hbare]
  have hagenda : ((s.arrivalShown line).testEligible.reportWake .presence).agenda =
      (s.arrivalShown line).testEligible.agenda := by
    rw [reportWake_eq]
    rfl
  rw [arrived_eq, followUp_credits_of_isPlaying (by rwa [hagenda, testEligible_isPlaying]), hagenda,
    Agenda.credits_eq_bare, testEligible_bare, hbare, Agenda.bare, List.map_map, List.map_map,
    List.map_map]
  refine List.map_congr_left fun e _ => ?_
  simp only [Function.comp_apply]
  rw [tested_of_isPlaying hplaying, hpresence, ← Entry.madeReady_bare]
  rfl

theorem arrived_wakeReport (s : State) (line : Nat) : (s.arrived line).rest.wakeReport =
    if s.rest.part.returned = .dormant ∧ s.rest.wakeReport = none then some .presence
    else s.rest.wakeReport := by
  have hrest : (s.arrivalShown line).testEligible.rest = s.returnActive.rest := by simp [arrivalShown]
  rw [arrived_eq, followUp_wakeReport, reportWake_eq, setRest_rest, hrest, returnActive_part,
    returnActive_wakeReport]

/-! ### The presence line, by its level before and now (09 R161) -/

theorem presenceJudged_leaves {s : State} {line : Nat} (h : s.panel.atRest s.settings line = false) :
    s.presenceJudged line true =
      if s.panel.presence = .absent then s.arrived line
      else s.setPanel { s.panel with holdTimer := none } := by
  have hjudged : s.presenceJudged line true = s.presenceLeavesRest line := by
    unfold presenceJudged
    rw [h]
  rw [hjudged, presenceLeavesRest]
  cases s.panel.presence with
  | absent => exact (if_pos rfl).symm
  | present => exact (if_neg (by decide)).symm

theorem presenceJudged_returns {s : State} {line : Nat} (h : s.panel.atRest s.settings line = true) :
    s.presenceJudged line false =
      if s.panel.presence = .absent then s
      else s.setPanel { s.panel with holdTimer := some (10 * s.settings.presenceHold) } := by
  have hjudged : s.presenceJudged line false = s.presenceReturnsToRest := by
    unfold presenceJudged
    rw [h]
  rw [hjudged, presenceReturnsToRest]
  cases s.panel.presence with
  | absent => exact (if_pos rfl).symm
  | present => exact (if_neg (by decide)).symm

/-- Without an arrival the judgement changes the hold timer alone. -/
theorem presenceJudged_quiet {s : State} {line : Nat} {before now : Bool}
    (hnow : s.panel.atRest s.settings line = now)
    (h : ¬ (before = true ∧ now = false ∧ s.panel.presence = .absent)) :
    s.presenceJudged line before = s.setPanel { s.panel with
      holdTimer := if s.panel.presence = .absent ∨ before = now then s.panel.holdTimer
        else if now = false then none else some (10 * s.settings.presenceHold) } := by
  by_cases hsame : before = now
  · rw [presenceJudged_of_same (hnow.trans hsame.symm), if_pos (.inr hsame)]
    rfl
  · cases now with
    | false =>
      have hbefore : before = true := by simpa using hsame
      have hpresent : s.panel.presence ≠ .absent := fun habsent => h ⟨hbefore, rfl, habsent⟩
      rw [hbefore, presenceJudged_leaves hnow, if_neg hpresent]
      simp [hpresent]
    | true =>
      have hbefore : before = false := by simpa using hsame
      rw [hbefore, presenceJudged_returns hnow]
      by_cases habsent : s.panel.presence = .absent
      · rw [if_pos habsent, if_pos (.inl habsent)]
        rfl
      · simp [habsent]

end State

/-- The records of a sample's event, for a state that differs from the sampled one in its panel alone. -/
theorem State.sampledOffer_grew {s u t : State} (hagenda : u.agenda = s.agenda) (hrest : u.rest = s.rest)
    (hevents : u.events = s.events) (r : EventRecord)
    (h : t.events.grewFrom (u.returnActive.offer r).events) :
    (s.rest.part ≠ .standby → t.events.grewFrom (s.offer r).events) ∧
      (s.rest.part = .standby → t.events.grewFrom (s.offer .standbyOff).events ∧
        (s.agenda.entries = [] → t.events.grewFrom ((s.offer .standbyOff).offer r).events)) := by
  have hreturned := u.returnedOffer_grew r h
  have hoff : (u.offer .standbyOff).events = (s.offer .standbyOff).events :=
    State.offer_events_congr _ hevents
  rwa [hagenda, hrest, State.offer_events_congr r hevents, State.offer_events_congr r hoff,
    hoff] at hreturned

/-- The choice of a door edge, in one test. -/
theorem edgeChoice_eq (door : Door) : (fun e : Entry => decide (e.state ≠ .playing) &&
    e.post.retireOn.matchesEdge door) = fun e => decide (e.state ≠ .playing ∧
      (e.post.retireOn = .doorOpens ∧ door = .opened ∨
        e.post.retireOn = .doorCloses ∧ door = .closed)) := by
  funext e
  rw [Bool.eq_iff_iff]
  simp only [Bool.and_eq_true, decide_eq_true_eq, RetireOn.matchesEdge_iff]

/-- Settles O52: the door edge of a sample that shows no press, and its presence line. -/
theorem doorAndPresenceChangesAreTaken : Obligations.DoorAndPresenceChangesAreTaken := by
  refine ⟨fun s levels line door hline hpresence hpress hdoor hedge => ?_,
    fun s levels line hdoor hline hpress => ?_⟩
  · obtain ⟨atRest, hkeys⟩ := State.keysJudged_of_noPress hpress
    have hsampled := State.panelSampled_of_presenceSteady hpresence
    rw [hkeys] at hsampled
    obtain ⟨hagenda, hrest, hevents, hsettings, hrenderer, hpanel⟩ := s.sampledQuiet_keeps levels atRest
    have hbefore := s.sampledQuiet_changedIn levels atRest
    have hshown : (s.sampledQuiet levels atRest).doorShown line = door := by
      rw [State.doorShown, hsettings, hdoor]
      rfl
    have hdoorPanel : (s.sampledQuiet levels atRest).panel.door = s.panel.door := by rw [hpanel]
    have hjudged : (s.sampledQuiet levels atRest).doorJudged =
        (s.sampledQuiet levels atRest).doorEdge line door := by
      simp only [State.doorJudged, hsettings, hline, hshown, hdoorPanel, if_neg (Ne.symm hedge)]
    rw [hjudged] at hsampled
    refine ⟨_, (exec_panelSample s levels).trans (congrArg _ hsampled), ?_⟩
    generalize s.sampledQuiet levels atRest = u at *
    have hids := u.doorEdge_ids line door
    rw [hagenda] at hids
    obtain ⟨hstill, hstandby⟩ := State.sampledOffer_grew hagenda hrest hevents _
      (u.doorEdge_events line door)
    refine ⟨by rw [State.doorEdge_panel], ?_, hstill, hstandby, ?_, fun e he hstate hmatch i hi => ?_,
      fun e he hfind hstate hmatch q hq => ?_, fun e he hstays => ?_, fun hroom => ?_,
      fun hdormant hnone => ?_⟩
    · rw [State.doorEdge_part, hrest]
      rfl
    · exact State.changedIn_trans (u.doorEdge_changedIn line door)
        (State.changedIn_mono hbefore (by simp))
    · rw [hids] at hi
      have hkept := List.all_eq_true.mp (List.mem_filter.mp hi).2 e he
      rw [RetireOn.matchesEdge_iff.mpr hmatch] at hkept
      have hother : e.ticket ≠ i.1 := by simpa [hstate] using hkept
      exact hother.symm
    · rw [← hagenda] at he hfind
      rw [← hrenderer]
      exact State.doorEdge_stops he hfind hstate (RetireOn.matchesEdge_iff.mpr hmatch) hq
    · rw [hids]
      refine List.mem_filter.mpr ⟨List.mem_map_of_mem he, List.all_eq_true.mpr fun q hq => ?_⟩
      have hnot := hstays q hq
      rw [← RetireOn.matchesEdge_iff] at hnot
      by_cases hticket : q.ticket = e.ticket
      · obtain hplays | hno := hnot hticket
        · simp [hplays]
        · simp [hno]
      · simp [Entry.id, hticket]
    · have hqueued := (u.doorEdge_queued line door).2 hroom
      rwa [hagenda, hevents, edgeChoice_eq] at hqueued
    · rw [State.doorEdge_wakeReport, hrest, hdormant, hnone]
      rfl
  · intro before now
    obtain ⟨atRest, hkeys⟩ := State.keysJudged_of_noPress hpress
    obtain ⟨hagenda, hrest, hevents, hsettings, hrenderer, hpanel⟩ := s.sampledQuiet_keeps levels atRest
    have hbefore := s.sampledQuiet_changedIn levels atRest
    have hnow : (s.sampledQuiet levels atRest).panel.atRest s.settings line = now := rfl
    have hsampled : s.panelSampled levels =
        (s.sampledQuiet levels atRest).presenceJudged line before := by
      rw [State.panelSampled_eq_presence hline, State.doorJudged_of_steady hdoor, hkeys]
    refine ⟨_, (exec_panelSample s levels).trans (congrArg _ hsampled), ?_⟩
    generalize s.sampledQuiet levels atRest = u at *
    have hlevel : u.panel.atRest u.settings line = now := by rw [hsettings, hnow]
    have hpresence : u.panel.presence = s.panel.presence := by rw [hpanel]
    refine ⟨by simp [hagenda], ?_, fun hleft hrests habsent => ?_, fun hquiet => ?_⟩
    · exact State.changedIn_trans (by simp [State.changedIn_iff, Block.followUp])
        (State.changedIn_mono hbefore (by simp))
    · have harrived : u.presenceJudged line before = u.arrived line := by
        rw [hleft, State.presenceJudged_leaves (hlevel.trans hrests), if_pos (hpresence.trans habsent)]
      rw [harrived]
      obtain ⟨hstill, hstandby⟩ := State.sampledOffer_grew hagenda hrest hevents _
        (u.arrived_events line)
      refine ⟨by rw [State.arrived_panel], by rw [State.arrived_panel], fun hplaying => ?_, ?_, hstill,
        hstandby, fun hdormant hnone => ?_⟩
      · rw [State.arrived_credits (by rwa [hagenda]), hagenda]
      · rw [State.arrived_part, hrest]
        rfl
      · rw [State.arrived_wakeReport, hrest, hdormant, hnone]
        rfl
    · rw [← hpresence] at hquiet
      rw [State.presenceJudged_quiet hlevel hquiet]
      refine ⟨State.changedIn_trans (by simp [State.changedIn_iff]) hbefore, hpresence, ?_⟩
      have hhold : u.panel.holdTimer = s.panel.holdTimer := by rw [hpanel]
      rw [State.setPanel_panel]
      simp only [hpresence, hhold, hsettings]

end Sys2Proof.Machine

/-! ## Key presses (09 R155 to R159, 01 R9, R23, 02 R42; O51) -/

namespace Sys2Proof.Machine

/-! ### Entries chosen without their marks -/

theorem Agenda.find?_of_bare_eq {a b : Agenda} (h : b.bare = a.bare) {p : Entry → Bool}
    (hp : ∀ e, p e.bare = p e) :
    (b.entries.find? p).map Entry.bare = (a.entries.find? p).map Entry.bare := by
  have hbare (es : List Entry) : (es.find? p).map Entry.bare = (es.map Entry.bare).find? p := by
    rw [List.find?_map]
    exact congrArg (fun p => (es.find? p).map Entry.bare) (funext fun e => (hp e).symm)
  rw [hbare, ← Agenda.bare, h, Agenda.bare, ← hbare]

theorem latestPlayed_mem {es : List Entry} {e : Entry} (h : latestPlayed es = some e) : e ∈ es := by
  induction es with
  | nil => simp [latestPlayed] at h
  | cons a es ih =>
    have hfirst (h : some a = some e) : e ∈ a :: es := Option.some.inj h ▸ List.mem_cons_self
    have hlater (h : latestPlayed es = some e) : e ∈ a :: es := List.mem_cons_of_mem a (ih h)
    rw [latestPlayed] at h
    split at h
    next => exact hlater h
    next => exact hfirst h
    next hrest =>
      split at h
      next =>
        split at h
        exacts [hlater (hrest.trans h), hfirst h]
      next => exact hfirst h

/-- An entry whose play began after every other's is the one that a REPEAT press names (09 R157). -/
theorem latestPlayed_eq {e : Entry} {start : PlayStart} (hstart : e.lastPlayStart = some start)
    {es : List Entry} (he : e ∈ es) (h : ∀ q ∈ es, q ≠ e → ∀ other, q.lastPlayStart = some other →
      other.order < start.order) : latestPlayed es = some e := by
  induction es with
  | nil => simp at he
  | cons a es ih =>
    have hrest (hmem : e ∈ es) : latestPlayed es = some e :=
      ih hmem fun q hq => h q (List.mem_cons_of_mem a hq)
    by_cases ha : a = e
    · subst ha
      rw [latestPlayed, hstart]
      cases hlater : latestPlayed es with
      | none => rfl
      | some later =>
        cases hother : later.lastPlayStart with
        | none => simp only [hother]
        | some other =>
          have hnot : ¬ start.order < other.order := by
            by_cases hsame : later = a
            · rw [hsame, hstart] at hother
              rw [Option.some.inj hother]
              exact lt_irrefl _
            · exact (h later (List.mem_cons_of_mem a (latestPlayed_mem hlater)) hsame other hother).asymm
          simp only [hother, if_neg hnot]
    · have hmem := (List.mem_cons.mp he).resolve_left (Ne.symm ha)
      rw [latestPlayed, hrest hmem]
      cases hfirst : a.lastPlayStart with
      | none => rfl
      | some other =>
        have horder := h a List.mem_cons_self ha other hfirst
        simp only [hstart, if_pos horder]

theorem latestPlayed_map_bare (es : List Entry) :
    latestPlayed (es.map Entry.bare) = (latestPlayed es).map Entry.bare := by
  have hplay (e : Entry) : e.bare.lastPlayStart = e.lastPlayStart := rfl
  induction es with
  | nil => rfl
  | cons e es ih =>
    rw [List.map_cons, latestPlayed, latestPlayed, ih, hplay]
    cases e.lastPlayStart with
    | none => rfl
    | some start =>
      cases latestPlayed es with
      | none => rfl
      | some later =>
        simp only [Option.map_some, hplay]
        cases later.lastPlayStart with
        | none => rfl
        | some other =>
          exact (apply_ite (Option.map Entry.bare) (start.order < other.order) (some later) (some e)).symm

/-- The replay flag that a REPEAT press sets makes an entry READY that can speak (09 R157, 02 R42). -/
theorem Entry.replayPressed_tested (e : Entry) (w : State) :
    (e.state = .bidding ∨ e.state = .playing → (e.replayPressed.tested w).replay = e.replay) ∧
      (e.state = .waiting ∨ e.state = .ready → (e.replayPressed.tested w).replay = true ∧
        (e.post.isSilent = false → (e.replayPressed.tested w).state = .ready)) := by
  have hreplay : (e.replayPressed.tested w).replay = e.replayPressed.replay := by
    rw [tested, apply_ite Entry.replay]
    exact ite_id _
  rw [hreplay]
  cases hstate : e.state with
  | waiting =>
    refine ⟨by simp, fun _ => ⟨by simp [replayPressed, hstate], fun hspeaks => ?_⟩⟩
    simp [tested, replayPressed, hstate, State.eligible, Entry.eligible, hspeaks]
  | ready =>
    refine ⟨by simp, fun _ => ⟨by simp [replayPressed, hstate], fun _ => ?_⟩⟩
    simp [tested, replayPressed, hstate]
  | bidding => exact ⟨fun _ => by simp [replayPressed, hstate], by simp⟩
  | playing => exact ⟨fun _ => by simp [replayPressed, hstate], by simp⟩

namespace State

/-! ### A press before its role's effect (09 R156, 11 R184) -/

/-- A press with its record and its timers, before the effect of its role. -/
def keyShown (s : State) (line : Nat) : State :=
  ((s.returnActive.offer (.key line (s.roleOf line))).sessionRestarted).idleRestarted

theorem pressed_eq (s : State) (line : Nat) :
    s.pressed line = ((s.keyShown line).keyEffect (s.roleOf line)).followUp := rfl

theorem returnActive_owner (s : State) : s.returnActive.agenda.owner = s.agenda.owner := by
  unfold returnActive
  split
  · simp [enterActive]
  · rfl

theorem keyShown_keeps (s : State) (line : Nat) :
    (s.keyShown line).agenda.bare = s.agenda.bare ∧ (s.keyShown line).agenda.owner = s.agenda.owner ∧
      (s.keyShown line).renderer = s.renderer ∧
      (s.keyShown line).events = (s.returnActive.offer (.key line (s.roleOf line))).events := by
  refine ⟨?_, ?_, ?_, rfl⟩
  · simp [keyShown, sessionRestarted, idleRestarted]
  · simp [keyShown, sessionRestarted, idleRestarted, returnActive_owner]
  · simp [keyShown, sessionRestarted, idleRestarted]

theorem keyShown_ids (s : State) (line : Nat) : (s.keyShown line).agenda.ids = s.agenda.ids := by
  rw [Agenda.ids_eq_bare, (s.keyShown_keeps line).1, ← Agenda.ids_eq_bare]

/-- The language that a LANGUAGE press would take, seen after the press's record and timers. -/
theorem keyShown_language (s : State) (line : Nat) :
    nextLanguage (s.keyShown line).flash.store (s.keyShown line).panel.language =
        nextLanguage s.flash.store s.panel.language ∧
      (s.keyShown line).panel.language = s.panel.language := by
  simp [keyShown, sessionRestarted, idleRestarted]

theorem pressed_grew_key (s : State) (line : Nat) :
    (s.pressed line).events.grewFrom (s.returnActive.offer (.key line (s.roleOf line))).events := by
  rw [pressed_eq, ← (s.keyShown_keeps line).2.2.2]
  exact followUp_grew _ _ (keyEffect_grew _ _ _ (EventQueue.grewFrom_refl _))

/-- A key other than ACKNOWLEDGE retires nothing (09 R156). -/
theorem pressed_ids {s : State} {line : Nat} (h : s.roleOf line ≠ .acknowledge) :
    (s.pressed line).agenda.ids = s.agenda.ids := by
  have heffect : ((s.keyShown line).keyEffect (s.roleOf line)).agenda.ids =
      (s.keyShown line).agenda.ids := by
    cases hrole : s.roleOf line with
    | acknowledge => exact absurd hrole h
    | _ => simp [keyEffect]
  rw [pressed_eq, ← s.keyShown_ids line, ← heffect]
  simp

/-! ### A play that a press ends (01 R9, 09 R158, R159) -/

/-- The tests after a stop of the PLAYING entry: the renderer takes the cut, and the entry the request. -/
theorem followUp_of_stopped {s w v : State} {ticket : Nat} {r : EndRequest} {was : Entry}
    (hsame : w.agenda.bare = s.agenda.bare) (hplaying : s.agenda.isPlaying = true)
    (hwas : s.agenda.find ticket = some was)
    (hbare : v.agenda.bare = (w.stopEntry ticket r .cut).agenda.bare)
    (hrenderer : v.renderer = w.renderer.cut) :
    v.followUp.renderer = w.renderer.cut ∧ ∃ q, v.followUp.agenda.find ticket = some q ∧
      q.endRequest = was.endRequest.asked r := by
  have hactive : v.agenda.isPlaying = true := by
    rw [Agenda.isPlaying_of_bare_eq hbare, stopEntry_isPlaying, Agenda.isPlaying_of_bare_eq hsame,
      hplaying]
  obtain ⟨q1, hq1, hq1bare⟩ := Agenda.find_of_bare_eq hsame hwas
  obtain ⟨q, hq, hqbare⟩ := Agenda.find_of_bare_eq ((followUp_bare_of_isPlaying hactive).trans hbare)
    (stopEntry_find hq1 r .cut)
  refine ⟨(followUp_renderer_of_isPlaying hactive).trans hrenderer, q, hq, ?_⟩
  have hfield {a b : Entry} (h : a.bare = b.bare) := congrArg Entry.endRequest h
  have hrequest : q.endRequest = (q1.request r).endRequest := hfield hqbare
  have hmark : q1.endRequest = was.endRequest := hfield hq1bare
  rw [hrequest, Entry.request_endRequest, hmark]

/-- A LANGUAGE press that takes another language interrupts the play (09 R158). -/
theorem pressed_language {s : State} {line : Nat} (hrole : s.roleOf line = .language)
    (hchange : nextLanguage s.flash.store s.panel.language ≠ s.panel.language) {e was : Entry}
    (he : s.agenda.playing = some e) (hwas : s.agenda.find e.ticket = some was) :
    (s.pressed line).renderer = s.renderer.cut ∧
      ∃ q, (s.pressed line).agenda.find e.ticket = some q ∧
        q.endRequest = was.endRequest.asked .interrupt := by
  obtain ⟨hbare, -, hrenderer, -⟩ := s.keyShown_keeps line
  obtain ⟨hnext, hlanguage⟩ := s.keyShown_language line
  rw [pressed_eq, hrole]
  generalize s.keyShown line = w at *
  have hplaying : w.agenda.playing.map Entry.bare = some e.bare := by
    rw [Agenda.playing, Agenda.find?_of_bare_eq hbare fun _ => rfl]
    exact congrArg (Option.map Entry.bare) he
  obtain ⟨e', he', hsame⟩ := Option.map_eq_some_iff.mp hplaying
  have hfield {α : Type} (g : Entry → α) := congrArg g hsame
  have hticket : e'.ticket = e.ticket := hfield Entry.ticket
  have heffect : w.keyEffect .language = ((w.setPanel { w.panel with
      language := nextLanguage w.flash.store w.panel.language }).stopEntry e.ticket .interrupt .cut).cause := by
    have hneq : nextLanguage w.flash.store w.panel.language ≠ w.panel.language := by
      rwa [hnext, hlanguage]
    simp only [keyEffect, languagePressed, if_neg hneq, interruptPlaying, setPanel_agenda, he', hticket]
  have hactive : s.agenda.isPlaying = true :=
    
    List.any_eq_true.mpr ⟨e, List.mem_of_find?_eq_some he,
      List.find?_some (p := fun q : Entry => q.state == .playing) he⟩
  rw [heffect, ← hrenderer]
  refine followUp_of_stopped (w := w.setPanel { w.panel with
    language := nextLanguage w.flash.store w.panel.language }) hbare hactive hwas (by simp) ?_
  simp [stopEntry_renderer]

/-! ### An ACKNOWLEDGE press (01 R23, 09 R159) -/

/-- A PLAYING entry that waits for the key is asked to retire, by a cut. -/
theorem pressed_acknowledge_playing {s : State} {line : Nat} (hrole : s.roleOf line = .acknowledge)
    {e was : Entry} (he : (s.agenda.entries.find? fun q =>
      q.state == .playing && q.post.retireOn == .ackKey) = some e)
    (hwas : s.agenda.find e.ticket = some was) :
    (s.pressed line).agenda.ids = s.agenda.ids ∧ (s.pressed line).renderer = s.renderer.cut ∧
      ∃ q, (s.pressed line).agenda.find e.ticket = some q ∧
        q.endRequest = was.endRequest.asked (.retire .acknowledged) := by
  obtain ⟨hbare, -, hrenderer, -⟩ := s.keyShown_keeps line
  have hids := s.keyShown_ids line
  rw [pressed_eq, hrole]
  generalize s.keyShown line = w at *
  have hchosen := (congrArg (Option.map Entry.bare) he)
  rw [← Agenda.find?_of_bare_eq hbare fun _ => rfl] at hchosen
  obtain ⟨e', he', hsame⟩ := Option.map_eq_some_iff.mp hchosen
  have hfield {α : Type} (g : Entry → α) := congrArg g hsame
  have hticket : e'.ticket = e.ticket := hfield Entry.ticket
  obtain ⟨hstate, -⟩ : e.state = .playing ∧ e.post.retireOn = .ackKey := by
    simpa using List.find?_some he
  have hstate' : e'.state = .playing := (hfield Entry.state).trans hstate
  have heffect : w.keyEffect .acknowledge = w.stopEntry e.ticket (.retire .acknowledged) .cut := by
    simp only [keyEffect, acknowledgePressed, acknowledged, he', retireEntry_of_playing hstate', hticket]
  have hactive : s.agenda.isPlaying = true :=
    List.any_eq_true.mpr ⟨e, List.mem_of_find?_eq_some he, by simp [hstate]⟩
  rw [heffect, ← hrenderer]
  exact ⟨by simp [hids], followUp_of_stopped hbare hactive hwas rfl (w.stopEntry_renderer _ _)⟩

/-- No PLAYING entry waits for the key: the press looks at the display owner. -/
theorem find_waiting_none {s w : State} (hbare : w.agenda.bare = s.agenda.bare)
    (h : ∀ q ∈ s.agenda.entries, ¬ (q.state = .playing ∧ q.post.retireOn = .ackKey)) :
    (w.agenda.entries.find? fun e => e.state == .playing && e.post.retireOn == .ackKey) = none := by
  refine List.find?_eq_none.mpr fun q hq hwaits => ?_
  obtain ⟨q', hq', hsame⟩ := Agenda.mem_of_bare_eq hbare.symm hq
  have hfield {α : Type} (g : Entry → α) := congrArg g hsame
  have hwaits : q.state = .playing ∧ q.post.retireOn = .ackKey := by simpa using hwaits
  exact h q' hq' ⟨(hfield Entry.state).trans hwaits.1,
    (hfield fun r => r.post.retireOn).trans hwaits.2⟩

theorem acknowledged_of_owner {s : State} {ticket : Nat}
    (h : (s.agenda.entries.find? fun e => e.state == .playing && e.post.retireOn == .ackKey) = none)
    (howner : s.agenda.owner = .entry ticket) :
    s.acknowledged = (s.agenda.find ticket).filter fun e => e.post.retireOn == .ackKey := by
  simp only [acknowledged, h, howner]

theorem acknowledged_of_page {s : State}
    (h : (s.agenda.entries.find? fun e => e.state == .playing && e.post.retireOn == .ackKey) = none)
    (howner : ∀ ticket, s.agenda.owner ≠ .entry ticket) : s.acknowledged = none := by
  unfold acknowledged
  rw [h]
  cases hpage : s.agenda.owner with
  | entry ticket => exact absurd hpage (howner ticket)
  | basePage page => rfl
  | builtIn => rfl

/-- The display owner that waits for the key leaves with its record. -/
theorem pressed_acknowledge_owner {s : State} {line : Nat} (hrole : s.roleOf line = .acknowledge)
    (h : ∀ q ∈ s.agenda.entries, ¬ (q.state = .playing ∧ q.post.retireOn = .ackKey)) {e : Entry}
    (howner : s.agenda.owner = .entry e.ticket) (he : s.agenda.find e.ticket = some e)
    (hwaits : e.post.retireOn = .ackKey) :
    (s.pressed line).agenda.ids = s.agenda.ids.filter (·.1 != e.ticket) ∧
      (s.rest.part ≠ .standby → (s.pressed line).events.grewFrom ((s.offer (.key line .acknowledge)).offer
        (.retired e.ticket e.post.topic .acknowledged e.plays)).events) := by
  obtain ⟨hbare, howners, -, hevents⟩ := s.keyShown_keeps line
  have hids := s.keyShown_ids line
  rw [pressed_eq, hrole]
  rw [hrole] at hevents
  generalize s.keyShown line = w at *
  obtain ⟨e', he', hsame⟩ := Agenda.find_of_bare_eq hbare he
  have hfield {α : Type} (g : Entry → α) := congrArg g hsame
  have hstate : e'.state ≠ .playing := fun hplays =>
    h e (List.mem_of_find?_eq_some he) ⟨(hfield Entry.state).symm.trans hplays, hwaits⟩
  have hwaits' : e'.post.retireOn = .ackKey := (hfield fun r => r.post.retireOn).trans hwaits
  have heffect : w.keyEffect .acknowledge = w.retireEntry e' .acknowledged := by
    have hnamed : w.acknowledged = some e' := by
      rw [acknowledged_of_owner (find_waiting_none hbare h) (howners.trans howner)]
      simp [he', Option.filter, hwaits']
    simp only [keyEffect, acknowledgePressed, hnamed]
  have hticket : e'.ticket = e.ticket := hfield Entry.ticket
  have htopic : e'.post.topic = e.post.topic := hfield fun r => r.post.topic
  have hplays : e'.plays = e.plays := hfield Entry.plays
  obtain ⟨hleft, hgrew⟩ := retireEntry_of_not_playing hstate (s := w) .acknowledged
  rw [hticket, hids] at hleft
  rw [hticket, htopic, hplays] at hgrew
  rw [heffect]
  refine ⟨by simp [hleft], fun hpart => followUp_grew _ _ ?_⟩
  rw [returnActive, if_neg hpart] at hevents
  rwa [offer_events_congr _ hevents] at hgrew

theorem pressed_acknowledge_none {s : State} {line : Nat} (hrole : s.roleOf line = .acknowledge)
    (h : ∀ q ∈ s.agenda.entries, ¬ (q.state = .playing ∧ q.post.retireOn = .ackKey))
    (howner : ∀ e ∈ s.agenda.entries, s.agenda.owner = .entry e.ticket → e.post.retireOn ≠ .ackKey) :
    (s.pressed line).agenda.ids = s.agenda.ids := by
  obtain ⟨hbare, howners, -, -⟩ := s.keyShown_keeps line
  have hids := s.keyShown_ids line
  rw [pressed_eq, hrole]
  generalize s.keyShown line = w at *
  have hnamed : w.acknowledged = none := by
    by_cases hpage : ∀ ticket, w.agenda.owner ≠ .entry ticket
    · exact acknowledged_of_page (find_waiting_none hbare h) hpage
    · obtain ⟨ticket, hticket⟩ := not_forall_not.mp hpage
      rw [acknowledged_of_owner (find_waiting_none hbare h) hticket]
      refine Option.filter_eq_none_iff.mpr fun e' he' hwaits => ?_
      obtain ⟨e, he, hsame⟩ := Agenda.find_of_bare_eq hbare.symm he'
      have hfield {α : Type} (g : Entry → α) := congrArg g hsame
      have hretire : e.post.retireOn = e'.post.retireOn := hfield fun r => r.post.retireOn
      refine howner e (List.mem_of_find?_eq_some he) ?_ (hretire.trans (by simpa using hwaits))
      rw [← howners, hticket, Agenda.find_ticket he]
  simp [keyEffect, acknowledgePressed, hnamed, hids]

/-! ### A REPEAT press (09 R157, 02 R42) -/

theorem pressed_repeat {s : State} {line : Nat} (hrole : s.roleOf line = .repeatKey) {e : Entry}
    {start : PlayStart} (he : s.agenda.find e.ticket = some e) (hstart : e.lastPlayStart = some start)
    (hlatest : ∀ q ∈ s.agenda.entries, q ≠ e → ∀ other, q.lastPlayStart = some other →
      other.order < start.order) :
    ∃ q, (s.pressed line).agenda.find e.ticket = some q ∧
      (e.state = .bidding ∨ e.state = .playing → q.replay = e.replay) ∧
      (e.state = .waiting ∨ e.state = .ready → q.replay = true ∧
        (e.post.isSilent = false → q.state = .ready ∨ q.state = .playing)) := by
  obtain ⟨hbare, -, -, -⟩ := s.keyShown_keeps line
  rw [pressed_eq, hrole]
  generalize s.keyShown line = w at *
  have hnamed : (latestPlayed w.agenda.entries).map Entry.bare = some e.bare := by
    rw [← latestPlayed_map_bare, ← Agenda.bare, hbare, Agenda.bare, latestPlayed_map_bare,
      latestPlayed_eq hstart (List.mem_of_find?_eq_some he) hlatest]
    rfl
  obtain ⟨e', he', hsame⟩ := Option.map_eq_some_iff.mp hnamed
  have hfield {α : Type} (g : Entry → α) := congrArg g hsame
  have hticket : e'.ticket = e.ticket := hfield Entry.ticket
  have heffect : w.keyEffect .repeatKey =
      (w.setAgenda (w.agenda.modify e.ticket Entry.replayPressed)).testEligible := by
    simp only [keyEffect, repeatPressed, he', hticket]
  rw [heffect]
  obtain ⟨q1, hq1, hq1bare⟩ := Agenda.find_of_bare_eq hbare he
  obtain ⟨q2, hq2, hq2bare⟩ := find_of_bare_map (t := w.setAgenda
    (w.agenda.modify e.ticket Entry.replayPressed)) (fun q => by split <;> simp)
    (w.modify_bare e.ticket Entry.replayPressed_bare) hq1
  obtain ⟨q3, hq3, hq3bare⟩ := find_of_bare_map (fun q => by unfold Entry.tested; split <;> rfl)
    (testEligible_bare _) hq2
  rw [hq2bare, hq1bare, if_pos e.bare_ticket] at hq3bare
  generalize w.setAgenda (w.agenda.modify e.ticket Entry.replayPressed) = v at *
  obtain ⟨hkeeps, hsets⟩ := e.bare.replayPressed_tested v
  have hmarks {α : Type} (g : Entry → α) := congrArg g hq3bare
  have hreplay : q3.replay = (e.bare.replayPressed.tested v).replay := hmarks Entry.replay
  have hstate : q3.state = (e.bare.replayPressed.tested v).state := hmarks Entry.state
  obtain ⟨q, hq, hstands⟩ := followUp_find hq3
  obtain ⟨-, -, -, -, hqreplay, -, hqstate⟩ := hstands.fields
  refine ⟨q, hq, fun h => (hqreplay.trans hreplay).trans (hkeeps h), fun h => ?_⟩
  obtain ⟨hset, hready⟩ := hsets h
  refine ⟨(hqreplay.trans hreplay).trans hset, fun hspeaks => ?_⟩
  obtain ⟨-, hstill⟩ | ⟨-, hplays⟩ := hqstate
  · exact .inl ((hstill.trans hstate).trans (hready hspeaks))
  · exact .inr hplays

/-! ### A sample's key group (09 R155) -/

theorem keysJudged_of_none {s : State} (h : s.clocked = true) (hdown : s.panel.keyDown s.settings = none) :
    s.keysJudged = s.setPanel { s.panel with keysAtRest := true } := by
  simp only [keysJudged, h, if_true, hdown]

theorem keysJudged_of_held {s : State} (hrest : s.panel.keysAtRest = false)
    (hdown : s.panel.keyDown s.settings ≠ none) : s.keysJudged = s := by
  unfold keysJudged
  split
  · split
    next h => exact absurd h hdown
    next => rw [if_neg (by simp [hrest])]
  · rfl

theorem keysJudged_of_press {s : State} {line : Nat} (h : s.clocked = true)
    (hrest : s.panel.keysAtRest = true) (hdown : s.panel.keyDown s.settings = some line) :
    s.keysJudged = (s.setPanel { s.panel with keysAtRest := false }).pressed line := by
  simp only [keysJudged, h, if_true, hdown, hrest]

/-- The filters after a sample, line by line (09 R154). -/
theorem filtersStepped_filters (s : State) (levels : BitVec 8) :
    (s.filtersStepped levels).panel.filters = (List.range 8).map (fun k =>
      let f := s.panel.filters.getD k { level := .low, count := 0, primed := false }
      let now : Level := if levels.getLsbD k = true then .high else .low
      if s.isSampled k = true then
        (if f.primed = false then { level := now, count := 0, primed := true }
         else if now = f.level then { f with count := 0 }
         else if f.count < 3 then { f with count := f.count + 1 }
         else { f with level := now, count := 0 })
      else f) := by
  have htake (f : LineFilter) (now : Level) := LineFilter_take_eq f now
  simp only [filtersStepped, setPanel_panel, filterOf, htake]
  rfl

end State

/-- Settles O51: the filters of a sample, and the press that it shows, by the role of its key. -/
theorem panelSamplesAndPresses : Obligations.PanelSamplesAndPresses := by
  intro s levels
  refine ⟨_, exec_panelSample s levels, by simp [State.changedIn_iff, Block.followUp],
    (s.panelSampled_filters levels).trans (s.filtersStepped_filters levels),
    fun hdoor hpresence hclocked => ?_⟩
  rw [State.panelSampled_of_presenceSteady hpresence, State.doorJudged_of_steady hdoor]
  intro down
  refine ⟨fun hdown => State.keysJudged_of_none hclocked hdown,
    fun hrest hdown => State.keysJudged_of_held hrest hdown, fun k hrest hdown => ?_⟩
  intro role key
  have hjudged : (s.filtersStepped levels).keysJudged = (s.sampledQuiet levels false).pressed k :=
    State.keysJudged_of_press hclocked hrest hdown
  obtain ⟨hagenda, hparts, hevents, hsettings, hrenderer, hpanel⟩ := s.sampledQuiet_keeps levels false
  have hstore : (s.sampledQuiet levels false).flash.store = s.flash.store := rfl
  rw [hjudged]
  generalize s.sampledQuiet levels false = u at *
  have hrole : u.roleOf k = role := by rw [State.roleOf, hsettings]
  have hlanguage : u.panel.language = s.panel.language := by rw [hpanel]
  have hgrew := State.sampledOffer_grew hagenda hparts hevents _ (u.pressed_grew_key k)
  rw [hrole] at hgrew
  obtain ⟨hstill, hstandby⟩ := hgrew
  have htook : (u.pressed k).panel.language = if role = .language then
      nextLanguage s.flash.store s.panel.language else s.panel.language := by
    rw [State.pressed_panel, hrole, hstore, hlanguage]
  refine ⟨by rw [State.pressed_panel, hpanel], ?_, hstill, hstandby,
    by rw [State.pressed_panel, hpanel], htook, fun hother => ?_, fun e hkey hchange he => ?_,
    fun e start hkey he hstart hlatest => ?_, fun e hkey he => ?_, fun hkey hnone => ⟨?_, ?_⟩⟩
  · rw [State.pressed_part, hparts, State.returned_eq]
  · rw [State.pressed_ids (by rwa [hrole]), hagenda]
  · rw [← hagenda] at he ⊢
    rw [← hrenderer]
    obtain ⟨was, hwas⟩ := Agenda.find_of_mem (List.mem_of_find?_eq_some he)
    have hnext : nextLanguage u.flash.store u.panel.language ≠ u.panel.language := by
      rw [htook, if_pos hkey] at hchange
      rwa [hstore, hlanguage]
    obtain ⟨hcut, q, hq, hend⟩ := State.pressed_language (hrole.trans hkey) hnext he hwas
    exact ⟨hcut, q, hq, fun was' hwas' => Option.some.inj (hwas.symm.trans hwas') ▸ hend⟩
  · rw [← hagenda] at he hlatest
    exact State.pressed_repeat (hrole.trans hkey) he hstart hlatest
  · rw [← hagenda] at he ⊢
    rw [← hrenderer]
    obtain ⟨was, hwas⟩ := Agenda.find_of_mem (List.mem_of_find?_eq_some he)
    obtain ⟨hids, hcut, q, hq, hend⟩ := State.pressed_acknowledge_playing (hrole.trans hkey) he hwas
    exact ⟨hids, hcut, q, hq, fun was' hwas' => Option.some.inj (hwas.symm.trans hwas') ▸ hend⟩
  · intro e howner he hwaits
    rw [← hagenda] at hnone howner he ⊢
    obtain ⟨hids, hleft⟩ := State.pressed_acknowledge_owner (hrole.trans hkey) hnone howner he hwaits
    refine ⟨hids, fun hpart => ?_⟩
    have hkeyed : (u.offer (.key k .acknowledge)).events = (s.offer key).events := by
      rw [show key = .key k .acknowledge from congrArg (EventRecord.key k) hkey]
      exact State.offer_events_congr _ hevents
    rw [← State.offer_events_congr _ hkeyed]
    exact hleft (by rwa [hparts])
  · intro howner
    rw [← hagenda] at hnone howner ⊢
    exact State.pressed_acknowledge_none (hrole.trans hkey) hnone howner

end Sys2Proof.Machine
